-- ==== Sys2Proof/Word.lean ====
section
/-! DEFINITION. The words of the ports and of the two sample links (00_scope.md, Conventions: "Port words are 16 bits"). -/

namespace Sys2Proof

/-- A port word, and a sample of a link burst before it is read as a signed number. -/
abbrev Word := BitVec 16

/-- One byte of a port word; each mask line belongs to one byte (R189). -/
abbrev Byte := BitVec 8

end Sys2Proof
end

