-- ==== Sys2Proof/Syntax.lean ====
section
/-! DEFINITION. The commands of the block: one constructor of `Instr` for each row of spec/opcode_table.json, in the table's order. -/

namespace Sys2Proof

/-- The three identical ports (chapter 11). -/
inductive PortId where
  | p0
  | p1
  | p2
deriving DecidableEq, Repr, Inhabited

/-- The two shafts, each the source of its own frames (00_scope.md, Terms). -/
inductive Side where
  | hs
  | ls
deriving DecidableEq, Repr, Inhabited

/-- The two lines of the HS quadrature encoder (chapter 1). -/
inductive EncoderLine where
  | a
  | b
deriving DecidableEq, Repr, Inhabited

/-- The four standings of a port (R184); the straps name one of them. -/
inductive Role where
  | turbine
  | converter
  | farm
  | observer
deriving DecidableEq, Repr, Inhabited

/-- The order in which the Icing Detector, the Limit Board and the Maintenance Schedule take one second tick.
R137 names the three takers and R128, R132 let a tick and a board change of the same moment go in either order,
so the order is an operand (DESIGN CHOICE, log entry 6). -/
inductive TickOrder where
  | icdLbMs
  | icdMsLb
  | lbIcdMs
  | lbMsIcd
  | msIcdLb
  | msLbIcd
deriving DecidableEq, Repr, Inhabited

/-- One word of a burst on the mechanical or the grid sample link: a 16-bit sample and its parity bit (R19, R69). -/
structure LinkWord where
  sample : Word
  parity : Bool
deriving DecidableEq, Repr, Inhabited

/-- One data word of a RECORD write with its two byte masks: `hi` belongs to bits 15..8, `lo` to bits 7..0 (R189). -/
structure MaskedWord where
  value : Word
  hi : Bool
  lo : Bool
deriving DecidableEq, Repr, Inhabited

/-- The commands, one for each row of the table of operations and events.

`dt` is the number of reference ticks (25 ns) since the step before (log entry 2). A command that is an expiry of one of
the part's own timers has no `dt`: it happens at its deadline. `p` is the port, `arg` the argument word of a control word. -/
inductive Instr where
  /-- ENCODER_EDGE (R4): an edge on A or B brings the line to `level`. -/
  | encoderEdge (dt : Nat) (line : EncoderLine) (level : Bool)
  /-- INDEX_EDGE (R6): an edge on Z brings the line to `level`. -/
  | indexEdge (dt : Nat) (level : Bool)
  /-- TOOTH_EDGE (R11): an edge on T brings the line to `level`. -/
  | toothEdge (dt : Nat) (level : Bool)
  /-- LS_INDEX_EDGE (R12): an edge on LSZ brings the line to `level`. -/
  | lsIndexEdge (dt : Nat) (level : Bool)
  /-- STANDSTILL_TIMER_EXPIRY (R9): the standstill timer of `side` reaches its deadline. -/
  | standstillTimerExpiry (side : Side)
  /-- SAMPLE_SET (R19): a burst of `words` closes on the mechanical sample link. -/
  | sampleSet (dt : Nat) (words : List LinkWord)
  /-- LINK_TIMER_EXPIRY (R21): the mechanical link timer reaches its deadline. -/
  | linkTimerExpiry
  /-- GZX_EDGE (R63): an edge on the zero-cross line. -/
  | gzxEdge (dt : Nat) (rising : Bool)
  /-- LOSS_TIMER_EXPIRY (R65): the grid loss timer reaches its deadline. -/
  | lossTimerExpiry
  /-- STROBE (R67): the next convert strobe of the cycle falls due. -/
  | strobe
  /-- GRID_FRAME (R69): a burst of `words` closes on the grid sample link. -/
  | gridFrame (dt : Nat) (words : List LinkWord)
  /-- PPS_EDGE (R138): an edge on the pulse-per-second line; `order` serves a second tick that it issues. -/
  | ppsEdge (dt : Nat) (rising : Bool) (order : TickOrder)
  /-- SECOND_TICK (R137): the sub-second phase reaches a second. -/
  | secondTick (order : TickOrder)
  /-- CLOCK_SET_DEADLINE (R145): the deadline of an ARMED clock set passes. -/
  | clockSetDeadline
  /-- ACK_TIMER_EXPIRY (R129): the second tick that brings the ack timer to 0. -/
  | ackTimerExpiry (order : TickOrder)
  /-- THAW_TIMER_EXPIRY (R111): the second tick that brings the thaw timer to 0. -/
  | thawTimerExpiry (order : TickOrder)
  /-- OPERATING_RECORD_STALE (R100): the second tick that brings the age of a FRESH operating record to 5. -/
  | operatingRecordStale (order : TickOrder)
  /-- INTERVAL_CLOSE (R105): the second tick that brings the second counter to 10. -/
  | intervalClose (order : TickOrder)
  /-- PUBLISH_COMPLETE (R39): the oldest publish in flight of `group` has replaced its records. -/
  | publishComplete (dt : Nat) (group : Nat)
  /-- TRANSACTION_START (R185): select of the port becomes active. -/
  | transactionStart (dt : Nat) (p : PortId)
  /-- TRANSACTION_HEADER (R186): the third header word arrives. -/
  | transactionHeader (dt : Nat) (p : PortId) (word : Word)
  /-- READ_DATA_WORD (R187): the master clocks a data word of a read. -/
  | readDataWord (dt : Nat) (p : PortId)
  /-- WRITE_DATA_WORD (R190): a data word of a RECORD write arrives with its byte masks. -/
  | writeDataWord (dt : Nat) (p : PortId) (word : MaskedWord)
  /-- RECORD_WRITE (R189): select becomes inactive and the transaction completes. -/
  | recordWrite (dt : Nat) (p : PortId)
  /-- OPERATING_ARRIVAL (R99): a whole write transaction to the operating record. -/
  | operatingArrival (dt : Nat) (p : PortId) (words : List MaskedWord)
  /-- STATUS_WRITE (R176): a whole write transaction to the port's own status record. -/
  | statusWrite (dt : Nat) (p : PortId) (words : List MaskedWord)
  /-- LINE_DEFINITION_WRITE (R42): a whole write transaction to the definition of gear line `line`. -/
  | lineDefinitionWrite (dt : Nat) (p : PortId) (line : Nat) (words : List MaskedWord)
  /-- SHAFT_CONFIGURATION_WRITE (R2): a whole write transaction to the shaft configuration. -/
  | shaftConfigurationWrite (dt : Nat) (p : PortId) (words : List MaskedWord)
  /-- GRID_CONFIGURATION_WRITE (R61): a whole write transaction to the grid configuration. -/
  | gridConfigurationWrite (dt : Nat) (p : PortId) (words : List MaskedWord)
  /-- WATCH_CONFIGURATION_WRITE (R84): a whole write transaction to the watch configuration. -/
  | watchConfigurationWrite (dt : Nat) (p : PortId) (words : List MaskedWord)
  /-- ICING_CONFIGURATION_WRITE (R101): a whole write transaction to the icing configuration. -/
  | icingConfigurationWrite (dt : Nat) (p : PortId) (words : List MaskedWord)
  /-- ITEM_DEFINITION_WRITE (R154): a whole write transaction to maintenance item slot `item`. -/
  | itemDefinitionWrite (dt : Nat) (p : PortId) (item : Nat) (words : List MaskedWord)
  /-- ENABLE_SHAFT (R16). -/
  | enableShaft (dt : Nat) (p : PortId) (arg : Word)
  /-- DISABLE_SHAFT (R17). -/
  | disableShaft (dt : Nat) (p : PortId) (arg : Word)
  /-- ENABLE_GEAR (R58). -/
  | enableGear (dt : Nat) (p : PortId) (arg : Word)
  /-- DISABLE_GEAR (R59). -/
  | disableGear (dt : Nat) (p : PortId) (arg : Word)
  /-- ENABLE_GRID (R81). -/
  | enableGrid (dt : Nat) (p : PortId) (arg : Word)
  /-- DISABLE_GRID (R82). -/
  | disableGrid (dt : Nat) (p : PortId) (arg : Word)
  /-- ENABLE_COINC (R94). -/
  | enableCoinc (dt : Nat) (p : PortId) (arg : Word)
  /-- DISABLE_COINC (R95). -/
  | disableCoinc (dt : Nat) (p : PortId) (arg : Word)
  /-- CLEAR_COINCIDENCE (R96). -/
  | clearCoincidence (dt : Nat) (p : PortId) (arg : Word)
  /-- ENABLE_ICING (R114). -/
  | enableIcing (dt : Nat) (p : PortId) (arg : Word)
  /-- DISABLE_ICING (R115). -/
  | disableIcing (dt : Nat) (p : PortId) (arg : Word)
  /-- ICING_REPORT (R116). -/
  | icingReport (dt : Nat) (p : PortId) (arg : Word)
  /-- ICING_RELEASE (R117). -/
  | icingRelease (dt : Nat) (p : PortId) (arg : Word)
  /-- LEARN_BASELINE (R118). -/
  | learnBaseline (dt : Nat) (p : PortId) (arg : Word)
  /-- RESTART_REQUEST (R119). -/
  | restartRequest (dt : Nat) (p : PortId) (arg : Word)
  /-- ACK_CAP (R131): the argument word is the generation g. -/
  | ackCap (dt : Nat) (p : PortId) (arg : Word)
  /-- CLOCK_ARM (R143): the argument word is the mode, 0 IMMEDIATE or 1 PPS. -/
  | clockArm (dt : Nat) (p : PortId) (arg : Word)
  /-- COUNTER_RESTORE (R151): the argument word is a. -/
  | counterRestore (dt : Nat) (p : PortId) (arg : Word)
  /-- ITEM_DONE (R165): the argument word is the item number. -/
  | itemDone (dt : Nat) (p : PortId) (arg : Word)
  /-- ITEM_DEFER (R166): the argument word is the item number. -/
  | itemDefer (dt : Nat) (p : PortId) (arg : Word)
  /-- ENABLE_MAINT (R167). -/
  | enableMaint (dt : Nat) (p : PortId) (arg : Word)
  /-- DISABLE_MAINT (R168). -/
  | disableMaint (dt : Nat) (p : PortId) (arg : Word)
  /-- JOURNAL_ADVANCE (R174): the argument word is n. -/
  | journalAdvance (dt : Nat) (p : PortId) (arg : Word)
  /-- ATTN_MASK (R181): the argument word holds the op and the causes (R199). -/
  | attnMask (dt : Nat) (p : PortId) (arg : Word)
  /-- UNKNOWN_COMMAND (R193): a control word whose command word `command` names no command. -/
  | unknownCommand (dt : Nat) (p : PortId) (command : Word) (arg : Word)
  /-- PORT_RESET (R196): the port-reset input becomes active. -/
  | portReset (dt : Nat) (p : PortId)
  /-- PART_RESET (R197): the straps of P0, P1 and P2 are sampled at it (R184). -/
  | partReset (strap0 strap1 strap2 : Role)
  /-- HEADER_WORD (R185): the first or second header word arrives. -/
  | headerWord (dt : Nat) (p : PortId) (word : Word)
  /-- FILLER_WORD (R186): the master clocks a word during WAIT; its own word is ignored. -/
  | fillerWord (dt : Nat) (p : PortId) (word : Word)
  /-- COMMAND_WORD (R193): the first word of a control word arrives. -/
  | commandWord (dt : Nat) (p : PortId) (word : Word)
  /-- INVALID_JOB_CODE (R193): a control word ENABLE (`enable` set) or DISABLE whose job code names no job. -/
  | invalidJobCode (dt : Nat) (p : PortId) (enable : Bool) (job : Byte) (arg : Word)
  /-- PORT_RESET_RELEASE (R196): the port-reset input becomes inactive. -/
  | portResetRelease (dt : Nat) (p : PortId)
deriving DecidableEq, Repr

end Sys2Proof
end

