-- ==== Sys2Proof/Decode.lean ====
section
/-! DEFINITION. The decoder of the table's words. The block fetches no instruction: spec/opcode_table.json gives no bits for any of its rows
(every row's "fields" list is empty), so no word spells a command. -/

namespace Sys2Proof

/-- The command a word of the table spells: none, since no row of the table gives bits (log entry 37). -/
def decodeTableWord (_nbits _w : Nat) : Option Instr := none

end Sys2Proof
end

