-- ==== Sys2Proof/Machine/State.lean ====
section
/-! DEFINITION. The state of the block as plain data: every register, buffer, counter, mode, timer and set the spec names, one
structure for each of the eleven blocks of 00_scope.md, and the state right after part reset. -/

namespace Sys2Proof.Machine

/-- One value for each of the three ports. -/
structure Trio (α : Type) where
  p0 : α
  p1 : α
  p2 : α
deriving DecidableEq, Repr, Inhabited

/-! ### Jobs -/

/-- The six switchable jobs, ENABLED when set (R191). -/
structure Jobs where
  shaft : Bool
  gear : Bool
  grid : Bool
  coinc : Bool
  icing : Bool
  maint : Bool
deriving DecidableEq, Repr, Inhabited

/-! ### Shaft Angle Unit (chapter 1) -/

/-- States of a shaft side, in the order of chapter 12. -/
inductive SideState where
  | off
  | seeking
  | tracking
  | standstill
  | fault
deriving DecidableEq, Repr, Inhabited

/-- Counts per encoder line (R1). -/
inductive DecodeMode where
  | x1
  | x2
  | x4
deriving DecidableEq, Repr, Inhabited

/-- The shaft configuration record (R1). -/
structure ShaftConfig where
  eLines : Nat
  mode : DecodeMode
  dec : Nat
  holdOff : Nat
  quadA : Bool
  quadB : Bool
  tStand : Nat
  gearRatio : Nat
deriving DecidableEq, Repr, Inhabited

/-- One SAU line: its present level, the held level and the time of its last accepted edge (R3). -/
structure EdgeLine where
  present : Bool
  held : Bool
  last : Option Nat
deriving DecidableEq, Repr, Inhabited

/-- The state of one side. `position` is the signed position count on HS and the tooth count on LS;
`standstill` is the deadline of a running standstill timer. -/
structure ShaftSide where
  state : SideState
  position : Int
  referenced : Bool
  timed : Bool
  counter : Nat
  lastPeriod : Nat
  speed : Nat
  speedValid : Bool
  consecutive : Nat
  total : Nat
  dropped : Nat
  standstill : Option Nat
deriving DecidableEq, Repr, Inhabited

/-- The Shaft Angle Unit. `active` holds the configuration values read at ENABLE SHAFT (R1); `ratio`, `armed`, `testedR` and
`mismatch` are the ratio check (R13). `lastAngle` records the last angle point handed on (model's own, log entry 38). -/
structure Sau where
  config : ShaftConfig
  active : ShaftConfig
  la : EdgeLine
  lb : EdgeLine
  lz : EdgeLine
  lt : EdgeLine
  llsz : EdgeLine
  reverse : Bool
  hs : ShaftSide
  ls : ShaftSide
  ratio : Nat
  armed : Bool
  testedR : Nat
  mismatch : Bool
  lastAngle : Option (Side × Nat)
deriving DecidableEq, Repr, Inhabited

/-! ### Order Correlator (chapter 2) -/

/-- A mechanical sample set A0..A3 (R19). -/
structure SampleSet where
  a0 : Int
  a1 : Int
  a2 : Int
  a3 : Int
deriving DecidableEq, Repr, Inhabited

/-- The link receiver (chapter 2); `timer` is the deadline of a running link timer. -/
structure Link where
  up : Bool
  latest : Option SampleSet
  timer : Option Nat
  good : Nat
  dropped : Nat
  newHs : Bool
  newLs : Bool
deriving DecidableEq, Repr, Inhabited

/-- The correlator configuration record (R24). -/
structure CorrConfig where
  rHs : Nat
  rLs : Nat
  vMinHs : Nat
  vMaxHs : Nat
  vMinLs : Nat
  vMaxLs : Nat
  tol : Nat
deriving DecidableEq, Repr, Inhabited

/-- A line captured by a frame with its running correlation (R26, R32, R34). -/
structure CapturedLine where
  line : Nat
  channel : Nat
  kq : Nat
  evaluable : Bool
  phase : Nat
  i : Int
  q : Int
deriving DecidableEq, Repr, Inhabited

/-- Causes of a discarded frame, in the order of R200. -/
inductive DiscardCause where
  | encoder
  | nonstationary
  | undersampled
  | speedBand
  | reverse
  | linkLost
  | disabled
deriving DecidableEq, Repr, Inhabited

/-- How the last frame of a source ended. -/
inductive Completion where
  | none
  | evaluated
  | discarded (cause : DiscardCause)
deriving DecidableEq, Repr, Inhabited

/-- The in-frame items of an engine, which only a COLLECTING frame has; in WAITING they stand as R41 gives them. -/
structure Frame where
  s : Nat
  r : Nat
  vMin : Nat
  vMax : Nat
  tol : Nat
  lines : List CapturedLine
  samples : Nat
  revs : Nat
  periodSum : Nat
  minP : Nat
  maxP : Nat
  reuse : Nat
deriving DecidableEq, Repr, Inhabited

/-- One frame engine: its frame state (`collecting`, else WAITING), its in-frame items, and its last completion. -/
structure Engine where
  collecting : Bool
  frame : Frame
  seq : Nat
  last : Completion
  pMean : Nat
  lastMinP : Nat
  lastMaxP : Nat
  vFrame : Nat
  lastReuse : Nat
deriving DecidableEq, Repr, Inhabited

/-- Kinds of a line result (R39). -/
inductive ResultKind where
  | none
  | evaluated
  | notEvaluable
deriving DecidableEq, Repr, Inhabited

/-- The Order Correlator fields of a line result record (R39). -/
structure LineResult where
  kind : ResultKind
  code : Nat
  overRange : Bool
  i : Int
  q : Int
  source : Side
  seq : Nat
deriving DecidableEq, Repr, Inhabited

/-- The Order Correlator. -/
structure Ocr where
  link : Link
  config : CorrConfig
  hs : Engine
  ls : Engine
  results : List LineResult
deriving DecidableEq, Repr, Inhabited

/-! ### Gear Condition Monitor (chapter 3) -/

/-- A gear line definition (R42). -/
structure LineDef where
  enabled : Bool
  source : Side
  channel : Nat
  kq : Nat
  alertOn : Nat
  alertOff : Nat
  dangerOn : Nat
  dangerOff : Nat
  alpha : Nat
  kp : Nat
  alertCap : Nat
  dangerCap : Nat
  item : Option Nat
  floor : Nat
deriving DecidableEq, Repr, Inhabited

/-- Condition of a line, in the order of chapter 12. -/
inductive Level where
  | unrated
  | normal
  | alert
  | danger
deriving DecidableEq, Repr, Inhabited

/-- The condition record of a line. E_code is floor(e / 256). -/
structure Cond where
  level : Level
  e : Nat
  alert : Nat
  danger : Nat
  down : Nat
  stale : Bool
  lastSeq : Nat
deriving DecidableEq, Repr, Inhabited

/-- The Gear Condition Monitor. -/
structure Gcm where
  defs : List LineDef
  conds : List Cond
  discHs : Nat
  discLs : Nat
deriving DecidableEq, Repr, Inhabited

/-! ### Grid Harmonic Monitor (chapter 4) -/

/-- The grid configuration (R61); entry s − 1 of each list belongs to slot s = 1..15. -/
structure GridConfig where
  h : List Nat
  limitV : List Nat
  limitI : List Nat
  thdLimitV : Nat
  thdLimitI : Nat
  fundFloorV : Nat
  fundFloorI : Nat
  kg : Nat
  gridCap : Nat
deriving DecidableEq, Repr, Inhabited

/-- Lock states, in the order of chapter 12. -/
inductive LockState where
  | unlocked
  | locked
  | freqOut
deriving DecidableEq, Repr, Inhabited

/-- A RUNNING strobe generator (R67). `next` is the number of the next strobe, 128 when all are issued; `due` its deadline. -/
structure StrobeGen where
  p : Nat
  base : Nat
  r : Nat
  next : Nat
  due : Option Nat
deriving DecidableEq, Repr, Inhabited

/-- In-phase and quadrature sums (R34). -/
structure IQ where
  i : Int
  q : Int
deriving DecidableEq, Repr, Inhabited

/-- A COLLECTING window. `slots` is the captured slot list, sixteen h's with 0 for disabled; `acc` has one list of sixteen
sums for each of the six channels (R71, R72). -/
structure Window where
  slots : List Nat
  start : Nat
  cycles : Nat
  positions : Nat
  missing : Nat
  acc : List (List IQ)
deriving DecidableEq, Repr, Inhabited

/-- Outcomes of a window (R75, R200). -/
inductive WindowOutcome where
  | none
  | evaluated
  | discarded
deriving DecidableEq, Repr, Inhabited

/-- Causes of a discarded window, with NONE, in the order of R200. -/
inductive WindowCause where
  | none
  | freqOut
  | missing
  | unlocked
  | disabled
deriving DecidableEq, Repr, Inhabited

/-- Results of one channel of the last EVALUATED window (R73, R74). -/
structure ChannelWindow where
  codes : List Nat
  overRange : List Bool
  thd : Nat
  noFund : Bool
deriving DecidableEq, Repr, Inhabited

/-- The block under way (R76). -/
structure Block where
  count : Nat
  nValid : Nat
  slots : Option (List Nat)
  sums : List (List Nat)
deriving DecidableEq, Repr, Inhabited

/-- Outcomes of a block (R75, R77). -/
inductive BlockOutcome where
  | none
  | valid
  | invalid
deriving DecidableEq, Repr, Inhabited

/-- Results of one channel of the last VALID block (R77). -/
structure ChannelBlock where
  aggs : List Nat
  thd : Nat
  noFund : Bool
deriving DecidableEq, Repr, Inhabited

/-- The Grid Harmonic Monitor. `strobes` counts the pulses issued on the convert strobe output (model's own, log entry 38). -/
structure Ghm where
  config : GridConfig
  edgeRef : Option Nat
  loss : Option Nat
  measured : Nat
  held : Nat
  valid : Nat
  lock : LockState
  ignored : Nat
  gen : Option StrobeGen
  outstanding : Option Nat
  samples : List Int
  droppedFrames : Nat
  window : Option Window
  windowSeq : Nat
  outcome : WindowOutcome
  degraded : Bool
  cause : WindowCause
  lastSlots : List Nat
  lastMissing : Nat
  chan : List ChannelWindow
  pWin : Nat
  fWin : Nat
  block : Block
  blockSeq : Nat
  blockOutcome : BlockOutcome
  blockChan : List ChannelBlock
  thdMarks : List Bool
  exceeded : List Bool
  exceeding : Bool
  exceedCount : Nat
  clearCount : Nat
  strobes : Nat
deriving DecidableEq, Repr, Inhabited

/-! ### Coincidence Watch (chapter 5) -/

/-- The watch configuration (R84); entry e of each list belongs to watch entry e. -/
structure WatchConfig where
  m : List Nat
  slot : List Nat
  floor : List Nat
  tol : Nat
  coincCap : Nat
deriving DecidableEq, Repr, Inhabited

/-- A present mechanical entry (R85). -/
structure MechEntry where
  source : Side
  kq : Nat
  code : Nat
  overRange : Bool
  vFrame : Nat
  fm : Nat
deriving DecidableEq, Repr, Inhabited

/-- A present electrical snapshot (R86); `aggs` holds the sixteen aggregates of I1, I2 and I3. -/
structure ElecSnapshot where
  blockSeq : Nat
  slots : List Nat
  aggs : List (List Nat)
  fWin : Nat
deriving DecidableEq, Repr, Inhabited

/-- Cause of the last evaluation (R87, R200). -/
inductive EvalCause where
  | none
  | gearHs
  | gearLs
  | grid
deriving DecidableEq, Repr, Inhabited

/-- The first pair (R91). -/
structure FirstPair where
  line : Nat
  entry : Nat
  fm : Nat
  fe : Nat
deriving DecidableEq, Repr, Inhabited

/-- The Coincidence Watch. The four sets are lists of numbers, rising and without repeats. `entryFreq` and `entryHigh` are what the
entry records show of f_e and of the highest current aggregate (R93; log entry 43). -/
structure Cw where
  config : WatchConfig
  mech : List (Option MechEntry)
  elec : Option ElecSnapshot
  count : Nat
  cause : EvalCause
  visLines : List Nat
  visEntries : List Nat
  entryFreq : List Nat
  entryHigh : List Nat
  liveLines : List Nat
  liveEntries : List Nat
  latchedLines : List Nat
  latchedEntries : List Nat
  firstPair : Option FirstPair
deriving DecidableEq, Repr, Inhabited

/-! ### Icing Detector (chapter 6) -/

/-- States of the turbine, in the order of chapter 12. -/
inductive TurbineState where
  | stopped
  | starting
  | producing
  | curtailed
  | faulted
deriving DecidableEq, Repr, Inhabited

/-- The operating record (R98). -/
structure OpRecord where
  sequence : Nat
  turbine : TurbineState
  wind : Nat
  power : Nat
  torque : Int
  temp : Int
  humidity : Nat
deriving DecidableEq, Repr, Inhabited

/-- Freshness of the operating record (R100). -/
inductive Freshness where
  | none
  | fresh
  | stale
deriving DecidableEq, Repr, Inhabited

/-- The icing configuration (R101). -/
structure IcingConfig where
  tIce : Int
  tHyst : Nat
  hIce : Nat
  tThaw : Int
  dSuspect : Nat
  dIce : Nat
  ns : Nat
  ni : Nat
  iIce : Nat
  line : Option Nat
  thawTime : Nat
  cutIn : Nat
  rated : Nat
  suspectCap : Nat
deriving DecidableEq, Repr, Inhabited

/-- States of the icing machine, in the order of chapter 12. -/
inductive IcingState where
  | off
  | clear
  | watch
  | suspect
  | iced
  | thaw
deriving DecidableEq, Repr, Inhabited

/-- Outcome of an interval (R105, R200). -/
inductive IntervalOutcome where
  | none
  | void
  | production
  | notProducing
deriving DecidableEq, Repr, Inhabited

/-- The first failing production condition (R105, R200). -/
inductive NotProducing where
  | none
  | state
  | wind
  | noCurve
deriving DecidableEq, Repr, Inhabited

/-- The last interval result (R105, R113); `prod` holds exp and def when they were computed. -/
structure IntervalResult where
  outcome : IntervalOutcome
  reason : NotProducing
  w : Nat
  meas : Nat
  t : Int
  rh : Nat
  prod : Option (Nat × Nat)
  imb : Option Nat
  seq : Nat
deriving DecidableEq, Repr, Inhabited

/-- The Icing Detector. `thaw` holds the remaining seconds of a running thaw timer. -/
structure Icd where
  op : OpRecord
  fresh : Freshness
  age : Nat
  config : IcingConfig
  curve : List Nat
  state : IcingState
  suspect : Nat
  ice : Nat
  clear : Nat
  thaw : Option Nat
  base : Nat
  second : Nat
  arrivals : Nat
  sumWind : Nat
  sumPower : Nat
  sumTemp : Int
  sumHum : Nat
  lastState : TurbineState
  lastSeq : Nat
  number : Nat
  last : IntervalResult
deriving DecidableEq, Repr, Inhabited

/-! ### Limit Board (chapter 7) -/

/-- State codes of a slot, in the order of chapter 12. -/
inductive SlotCode where
  | none
  | alert
  | danger
  | exceeding
  | live
  | suspect
  | iced
  | thaw
  | overdue
deriving DecidableEq, Repr, Inhabited

/-- A board slot (R121). -/
structure Slot where
  active : Bool
  cap : Nat
  code : SlotCode
  time : Nat
  unset : Bool
deriving DecidableEq, Repr, Inhabited

/-- Outcome of the last ack timer expiry (R135). -/
inductive ExpiryOutcome where
  | none
  | capUnacked
  | hardStop
deriving DecidableEq, Repr, Inhabited

/-- The Limit Board. `timer` holds the remaining seconds of a RUNNING ack timer; `line` is set while ASSERTED. -/
structure Lb where
  slots : List Slot
  cap : Nat
  gov : Option Nat
  gen : Nat
  aGen : Nat
  aCap : Nat
  timer : Option Nat
  line : Bool
  tAck : Nat
  lastOutcome : ExpiryOutcome
  lastTime : Nat
  lastUnset : Bool
deriving DecidableEq, Repr, Inhabited

/-! ### Counters and Calendar (chapter 8) -/

/-- The counter configuration (R146). -/
structure CounterConfig where
  vRunHs : Nat
  vRunLs : Nat
  weights : List Nat
deriving DecidableEq, Repr, Inhabited

/-- An ARMED clock set: the captured present time and the deadline in ticks (R143). -/
structure ArmedClock where
  value : Nat
  deadline : Nat
deriving DecidableEq, Repr, Inhabited

/-- The six staged clock fields as written (R142). -/
structure ClockStaging where
  year : Word
  month : Word
  day : Word
  hour : Word
  minute : Word
  second : Word
deriving DecidableEq, Repr, Inhabited

/-- The Counters and Calendar. `isSet` is the calendar state SET. -/
structure Cc where
  phase : Nat
  isSet : Bool
  time : Nat
  limit : Bool
  armed : Option ArmedClock
  ppsRef : Option Nat
  ppsAccepted : Nat
  ppsIgnored : Nat
  ppsOffset : Int
  config : CounterConfig
  seconds : Nat
  bins : List Nat
  damage : Nat
  restored : Bool
  staging : ClockStaging
  baseSeconds : Nat
  baseBins : List Nat
  baseDamage : Nat
deriving DecidableEq, Repr, Inhabited

/-! ### Maintenance Schedule (chapter 9) -/

/-- Sources of an item's value (R154). -/
inductive ItemKind where
  | date
  | hours
  | damage
deriving DecidableEq, Repr, Inhabited

/-- The definition part of an item slot (R154). -/
structure ItemDef where
  present : Bool
  code : Nat
  kind : ItemKind
  interval : Nat
  firstDue : Nat
  grace : Nat
  maxDefer : Nat
  leadAlert : Nat
  leadDanger : Nat
  cap : Nat
  lock : Bool
deriving DecidableEq, Repr, Inhabited

/-- States of a present item; an absent one has no state part. -/
inductive ItemState where
  | pending
  | due
  | overdue
  | deferred
deriving DecidableEq, Repr, Inhabited

/-- The state part of a present item. -/
structure ItemPart where
  state : ItemState
  due : Nat
  lastDone : Option Nat
  pulledBy : Option Nat
  deferUntil : Option Nat
  mark : Bool
deriving DecidableEq, Repr, Inhabited

/-- An item slot: the definition as written and as in force, TAKE_PENDING and the state part. -/
structure Item where
  written : ItemDef
  inForce : ItemDef
  takePending : Bool
  part : Option ItemPart
deriving DecidableEq, Repr, Inhabited

/-- The schedule's record of its sources (R156). -/
structure Sample where
  isSet : Bool
  day : Nat
  restored : Bool
  seconds : Nat
  damage : Nat
deriving DecidableEq, Repr, Inhabited

/-- The Maintenance Schedule. `posted` is the cap slot MAINT was posted with; `deferArg` is the defer argument record. -/
structure Ms where
  items : List Item
  deferArg : Nat
  sample : Sample
  posted : Option Nat
deriving DecidableEq, Repr, Inhabited

/-! ### Event Journal (chapter 10) -/

/-- Sources of an entry, in the order of chapter 12. -/
inductive Source where
  | sauHs
  | sauLs
  | ocrLink
  | gcm
  | gcmHs
  | gcmLs
  | ghm
  | cw
  | icd
  | lb
  | cc
  | ms
  | ej
deriving DecidableEq, Repr, Inhabited

/-- Kinds of an entry, in the order of chapter 12. -/
inductive Kind where
  | none
  | partReset
  | slip
  | state
  | ratioMismatch
  | link
  | level
  | stale
  | lock
  | conformance
  | coinc
  | operating
  | icing
  | baseline
  | board
  | ackTimer
  | ack
  | calendar
  | clock
  | clockAbandon
  | restore
  | item
  | pull
  | done
  | defer
  | lost
deriving DecidableEq, Repr, Inhabited

/-- A journal entry (R171). The two states are codes of chapter 12, or caps in a BOARD entry; `none` is NONE. -/
structure Entry where
  seq : Nat
  time : Nat
  unset : Bool
  source : Source
  inst : Option Nat
  kind : Kind
  fromState : Option Nat
  toState : Option Nat
  value : Int
deriving DecidableEq, Repr, Inhabited

/-- The Event Journal: the ring, oldest first, and the next sequence number (R170). -/
structure Ej where
  ring : List Entry
  next : Nat
deriving DecidableEq, Repr, Inhabited

/-- What chapter 10 keeps for one port: cursor, gap count, status copy, COINC latch, report enables and attention mask. The
flag words and the mask have the bit order of chapter 12. -/
structure RepPort where
  cursor : Nat
  gap : Nat
  advisory : BitVec 9
  degraded : BitVec 6
  protective : BitVec 5
  latch : Bool
  enAdvisory : Bool
  enDegraded : Bool
  enProtective : Bool
  mask : BitVec 4
deriving DecidableEq, Repr, Inhabited

/-! ### Port Interface (chapter 11) -/

/-- Transaction phases (R185). -/
inductive Phase where
  | idle
  | header
  | wait
  | data
deriving DecidableEq, Repr, Inhabited

/-- The sweeps of R188. -/
inductive Sweep where
  | confined
  | running
  | confinedThenRunning
deriving DecidableEq, Repr, Inhabited

/-- A decoded header (R185, R199). `sweep` is `none` for the code that names no sweep. -/
structure Header where
  write : Bool
  control : Bool
  sweep : Option Sweep
  group : Nat
  record : Nat
  offset : Nat
  outOfRange : Bool
deriving DecidableEq, Repr, Inhabited

/-- The wait answers of R186. -/
inductive WaitAnswer where
  | prompt
  | held
deriving DecidableEq, Repr, Inhabited

/-- A data word placed in the write buffer (R189). -/
structure BufferWord where
  record : Nat
  offset : Nat
  word : MaskedWord
deriving DecidableEq, Repr, Inhabited

/-- Answers of a result record, in the order of chapter 12. -/
inductive Answer where
  | none
  | accepted
  | granted
  | refused
  | denied
deriving DecidableEq, Repr, Inhabited

/-- Reasons of a result record (R194). -/
inductive Reason where
  | none
  | notPermitted
  | badConfig
  | dependency
  | wrongState
  | notStandstill
  | staleGeneration
  | alreadyRestored
  | unrestored
  | clockUnset
  | alreadyDeferred
  | deferLimit
  | badArgument
  | busy
  | unknownCommand
  | icing
  | capZero
  | stopLine
  | maintLock
deriving DecidableEq, Repr, Inhabited

/-- The result record (R194); `command` is the command word as received, 0 for NONE. -/
structure ResultRecord where
  count : Nat
  command : Word
  argument : Word
  answer : Answer
  reason : Reason
deriving DecidableEq, Repr, Inhabited

/-- What the Port Interface keeps for one port. -/
structure PiPort where
  role : Role
  strapped : Role
  held : Bool
  phase : Phase
  words : List Word
  header : Option Header
  answer : Option WaitAnswer
  filler : Nat
  bound : Nat
  record : Nat
  offset : Nat
  firstPass : Bool
  snapshot : List Word
  headCursor : Nat
  denied : Bool
  buffer : List BufferWord
  command : Option Word
  dataOut : Word
  result : ResultRecord
deriving DecidableEq, Repr, Inhabited

/-! ### Publishes in flight -/

/-- A publish in flight: its group, its number, and the records it will replace, each with the words the masters still see
(R39, R186; log entry 18). -/
structure Flight where
  group : Nat
  number : Nat
  kept : List (Nat × List Word)
deriving DecidableEq, Repr, Inhabited

/-- The publishes in flight, oldest first. -/
structure Pub where
  flights : List Flight
  next : Nat
deriving DecidableEq, Repr, Inhabited

/-! ### The whole state -/

/-- The block and the queue of the commands that wait, first in first out. `now` counts reference ticks since part reset. -/
structure State where
  now : Nat
  jobs : Jobs
  sau : Sau
  ocr : Ocr
  gcm : Gcm
  ghm : Ghm
  cw : Cw
  icd : Icd
  lb : Lb
  cc : Cc
  ms : Ms
  ej : Ej
  rep : Trio RepPort
  pi : Trio PiPort
  pub : Pub
  pending : List Instr
deriving DecidableEq, Repr, Inhabited

/-- Why the machine stops with a fault. It has no constructor: the spec names no condition that stops the part, and no
meaning of this model raises one. -/
inductive Fault where
deriving DecidableEq, Repr

/-- Why a command has no outcome. -/
inductive Refusal where
  /-- Raised only by an arm of `exec` for a command without a meaning; no arm raises it in this model. Safe: the run stops
  where the hardware goes on. -/
  | notModelled (mnemonic : String)
deriving DecidableEq, Repr

/-! ### Part reset -/

/-- R1, part reset column. -/
def ShaftConfig.initial : ShaftConfig := ⟨1024, .x4, 8, 0, false, false, 5, 0⟩

/-- R18: one side after part reset. -/
def ShaftSide.initial : ShaftSide := ⟨.off, 0, false, false, 0, 0, 0, true, 0, 0, 0, none⟩

/-- R18: no line has a last accepted edge time. The levels are DESIGN CHOICE, log entry 8. -/
def EdgeLine.initial : EdgeLine := ⟨false, false, none⟩

/-- R18. -/
def Sau.initial : Sau :=
  { config := .initial, active := .initial, la := .initial, lb := .initial, lz := .initial, lt := .initial, llsz := .initial,
    reverse := false, hs := .initial, ls := .initial, ratio := 0, armed := false, testedR := 0, mismatch := false,
    lastAngle := none }

/-- R41: "every in-frame item at 0, min P at FFFFFFFFh". -/
def Frame.idle : Frame :=
  { s := 0, r := 0, vMin := 0, vMax := 0, tol := 0, lines := [], samples := 0, revs := 0, periodSum := 0, minP := 4294967295,
    maxP := 0, reuse := 0 }

/-- R41: a frame engine after part reset. -/
def Engine.initial : Engine :=
  { collecting := false, frame := .idle, seq := 0, last := .none, pMean := 0, lastMinP := 0, lastMaxP := 0, vFrame := 0,
    lastReuse := 0 }

/-- R41 with the reset values of R24 and R39. -/
def Ocr.initial : Ocr :=
  { link := ⟨false, none, none, 0, 0, false, false⟩, config := ⟨16, 2, 8000, 32000, 1280, 5120, 20⟩, hs := .initial,
    ls := .initial, results := List.replicate 24 ⟨.none, 0, false, 0, 0, .hs, 0⟩ }

/-- R42, part reset column. -/
def LineDef.initial : LineDef := ⟨false, .hs, 0, 16, 65535, 65535, 65535, 65535, 3, 3, 100, 100, none, 65535⟩

/-- R60: an UNRATED line with everything at 0. -/
def Cond.initial : Cond := ⟨.unrated, 0, 0, 0, 0, false, 0⟩

/-- R60. -/
def Gcm.initial : Gcm := ⟨List.replicate 24 .initial, List.replicate 24 .initial, 0, 0⟩

/-- R61, part reset column. -/
def GridConfig.initial : GridConfig :=
  ⟨List.replicate 15 0, List.replicate 15 65535, List.replicate 15 65535, 65535, 65535, 1, 1, 3, 100⟩

/-- An empty block with its slot list absent (R77, R81). -/
def Block.empty : Block := ⟨0, 0, none, List.replicate 6 (List.replicate 16 0)⟩

/-- R83. The words of the window and block records that it does not name are 0 and clear (DESIGN CHOICE, log entry 39). -/
def Ghm.initial : Ghm :=
  { config := .initial, edgeRef := none, loss := none, measured := 0, held := 800000, valid := 0, lock := .unlocked,
    ignored := 0, gen := none, outstanding := none, samples := List.replicate 6 0, droppedFrames := 0, window := none,
    windowSeq := 0, outcome := .none, degraded := false, cause := .none, lastSlots := List.replicate 16 0, lastMissing := 0,
    chan := List.replicate 6 ⟨List.replicate 16 0, List.replicate 16 false, 0, false⟩, pWin := 800000, fWin := 800,
    block := .empty, blockSeq := 0, blockOutcome := .none, blockChan := List.replicate 6 ⟨List.replicate 16 0, 0, false⟩,
    thdMarks := List.replicate 6 false, exceeded := List.replicate 16 false, exceeding := false, exceedCount := 0,
    clearCount := 0, strobes := 0 }

/-- R97 with the reset values of R84. -/
def Cw.initial : Cw :=
  { config := ⟨List.replicate 8 0, List.replicate 8 0, List.replicate 8 65535, 16, 100⟩, mech := List.replicate 24 none,
    elec := none, count := 0, cause := .none, visLines := [], visEntries := [], entryFreq := List.replicate 8 0,
    entryHigh := List.replicate 8 0, liveLines := [], liveEntries := [], latchedLines := [], latchedEntries := [], firstPair := none }

/-- The last interval result NONE (R114, R120). What w, meas, t, rh and the sequence show while it is NONE: 0 (DESIGN CHOICE,
log entry 44). -/
def IntervalResult.initial : IntervalResult := ⟨.none, .none, 0, 0, 0, 0, none, none, 0⟩

/-- R120 with the reset values of R98, R101 and R102. -/
def Icd.initial : Icd :=
  { op := ⟨0, .stopped, 0, 0, 0, 0, 0⟩, fresh := .none, age := 0,
    config := ⟨20, 20, 85, 50, 150, 300, 6, 12, 150, none, 120, 30, 120, 100⟩, curve := List.replicate 32 0, state := .off,
    suspect := 0, ice := 0, clear := 0, thaw := none, base := 0, second := 0, arrivals := 0, sumWind := 0, sumPower := 0,
    sumTemp := 0, sumHum := 0, lastState := .stopped, lastSeq := 0, number := 0, last := .initial }

/-- R136. -/
def Lb.initial : Lb :=
  { slots := List.replicate 28 ⟨false, 100, .none, 0, true⟩, cap := 100, gov := none, gen := 0, aGen := 0, aCap := 100,
    timer := none, line := false, tAck := 10, lastOutcome := .none, lastTime := 0, lastUnset := true }

/-- R153 with the reset values of R142, R146 and R150. -/
def Cc.initial : Cc :=
  { phase := 0, isSet := false, time := 0, limit := false, armed := none, ppsRef := none, ppsAccepted := 0, ppsIgnored := 0,
    ppsOffset := 0, config := ⟨8000, 1280, List.replicate 16 0⟩, seconds := 0, bins := List.replicate 16 0, damage := 0,
    restored := false, staging := ⟨2000, 1, 1, 0, 0, 0⟩, baseSeconds := 0, baseBins := List.replicate 16 0, baseDamage := 0 }

/-- R154, part reset column. -/
def ItemDef.initial : ItemDef := ⟨false, 0, .date, 1, 0, 0, 0, 0, 0, 100, false⟩

/-- R169. -/
def Ms.initial : Ms :=
  { items := List.replicate 32 ⟨.initial, .initial, false, none⟩, deferArg := 0, sample := ⟨false, 0, false, 0, 0⟩,
    posted := none }

/-- R182: the ring holds the PART_RESET entry alone, whose value is the number of ports made OBSERVER. -/
def Ej.initial (demoted : Nat) : Ej := ⟨[⟨1, 0, true, .ej, none, .partReset, none, none, demoted⟩], 2⟩

/-- R182: one port's reporting state; `conflict` tells whether the role check found one. -/
def RepPort.initial (conflict : Bool) : RepPort :=
  ⟨1, 0, 0, 0, if conflict then 0x10 else 0, false, false, false, true, 0⟩

/-- R194, the column after part reset or port reset. -/
def ResultRecord.initial : ResultRecord := ⟨0, 0, 0, .none, .none⟩

/-- R197: one port of the Port Interface after part reset. -/
def PiPort.initial (role strapped : Role) (held : Bool) : PiPort :=
  { role, strapped, held, phase := .idle, words := [], header := none, answer := none, filler := 0, bound := 0, record := 0,
    offset := 0, firstPass := true, snapshot := [], headCursor := 0, denied := false, buffer := [], command := none,
    dataOut := 0, result := .initial }

/-- The part right after part reset with P0, P1, P2 strapped TURBINE, CONVERTER, FARM, so that the role check of R184 finds no
conflict (the straps are DESIGN CHOICE, log entry 7; PART_RESET takes any). -/
def State.reset : State :=
  { now := 0, jobs := ⟨false, false, false, false, false, false⟩, sau := .initial, ocr := .initial, gcm := .initial,
    ghm := .initial, cw := .initial, icd := .initial, lb := .initial, cc := .initial, ms := .initial, ej := .initial 0,
    rep := ⟨.initial false, .initial false, .initial false⟩,
    pi := ⟨.initial .turbine .turbine false, .initial .converter .converter false, .initial .farm .farm false⟩,
    pub := ⟨[], 0⟩, pending := [] }

end Sys2Proof.Machine
end

