-- ==== Sys2Proof/Machine/Ops.lean ====
section
/-! DEFINITION. The shared operations: saturating counters and clamps, the exact square root, table entries, one of three ports,
the component updates of the state, and the reference clock. -/

namespace Sys2Proof.Machine

/-! ### Arithmetic of 00_scope.md -/

/-- The greatest 32-bit value, FFFFFFFFh. -/
def max32 : Nat := 4294967295

/-- The greatest 64-bit value. -/
def max64 : Nat := 18446744073709551615

/-- A saturating counter "stops at its greatest value instead of wrapping" (00_scope.md, Arithmetic). -/
def satAdd (top n k : Nat) : Nat := min top (n + k)

/-- clamp(lo, hi, x) of 00_scope.md on natural numbers. -/
def clampNat (lo hi x : Nat) : Nat := max lo (min hi x)

/-- clamp(lo, hi, x) of 00_scope.md on integers. -/
def clampInt (lo hi x : Int) : Int := max lo (min hi x)

/-- One step of the square root from the top bit down: keep bit `b` when the square stays within `n`. -/
def isqrtFrom (n : Nat) : Nat → Nat → Nat
  | 0, r => r
  | b + 1, r => isqrtFrom n b (if (r + 2 ^ b) * (r + 2 ^ b) ≤ n then r + 2 ^ b else r)

/-- isqrt(x): "floor of the exact square root of x" (00_scope.md, Arithmetic). -/
def isqrt (n : Nat) : Nat := isqrtFrom n (n.log2 / 2 + 1) 0

/-- The values a journal entry can carry (R171). -/
def journalValue (v : Int) : Int := clampInt (-2147483648) 2147483647 v

/-! ### Tables -/

/-- Entry `n` of a table, or the type's default past its end. -/
def tget {α : Type} [Inhabited α] (xs : List α) (n : Nat) : α := xs.getD n default

/-- Change entry `n` of a table by `f`; past the end nothing changes. -/
def tmod {α : Type} [Inhabited α] (xs : List α) (n : Nat) (f : α → α) : List α := xs.set n (f (tget xs n))

/-- The numbers below `k` that meet `f`, rising: a set of lines or entries (R90). -/
def setWhere (k : Nat) (f : Nat → Bool) : List Nat := (List.range k).filter f

/-! ### One of three ports -/

/-- The value of port `p`. -/
def Trio.get {α : Type} (t : Trio α) : PortId → α
  | .p0 => t.p0
  | .p1 => t.p1
  | .p2 => t.p2

/-- Replace the value of port `p`. -/
def Trio.set {α : Type} (t : Trio α) (p : PortId) (x : α) : Trio α :=
  match p with
  | .p0 => { t with p0 := x }
  | .p1 => { t with p1 := x }
  | .p2 => { t with p2 := x }

/-- Change every port's value. -/
def Trio.map {α : Type} (t : Trio α) (f : α → α) : Trio α := ⟨f t.p0, f t.p1, f t.p2⟩

/-- The number of a port, which is also the number of its status record (R176). -/
def portNumber : PortId → Nat
  | .p0 => 0
  | .p1 => 1
  | .p2 => 2

/-! ### Component updates of the state -/

def State.setJobs (s : State) (x : Jobs) : State := { s with jobs := x }
def State.setSau (s : State) (x : Sau) : State := { s with sau := x }
def State.setOcr (s : State) (x : Ocr) : State := { s with ocr := x }
def State.setGcm (s : State) (x : Gcm) : State := { s with gcm := x }
def State.setGhm (s : State) (x : Ghm) : State := { s with ghm := x }
def State.setCw (s : State) (x : Cw) : State := { s with cw := x }
def State.setIcd (s : State) (x : Icd) : State := { s with icd := x }
def State.setLb (s : State) (x : Lb) : State := { s with lb := x }
def State.setCc (s : State) (x : Cc) : State := { s with cc := x }
def State.setMs (s : State) (x : Ms) : State := { s with ms := x }
def State.setEj (s : State) (x : Ej) : State := { s with ej := x }
def State.setRep (s : State) (x : Trio RepPort) : State := { s with rep := x }
def State.setPi (s : State) (x : Trio PiPort) : State := { s with pi := x }
def State.setPub (s : State) (x : Pub) : State := { s with pub := x }

/-- Replace what the Port Interface keeps for port `p`. -/
def State.setPort (s : State) (p : PortId) (x : PiPort) : State := s.setPi (s.pi.set p x)

/-- Replace what chapter 10 keeps for port `p`. -/
def State.setRepPort (s : State) (p : PortId) (x : RepPort) : State := s.setRep (s.rep.set p x)

/-! ### The reference clock -/

/-- A side's period counter counts ticks while TIMED is set and saturates at FFFFFFFFh (R8; log entry 29). -/
def ShaftSide.elapse (dt : Nat) (x : ShaftSide) : ShaftSide :=
  if x.timed then { x with counter := satAdd max32 x.counter dt } else x

/-- `dt` reference ticks pass: the clock, the sub-second phase (R137) and the period counters (R8) move. -/
def State.advance (dt : Nat) (s : State) : State :=
  { s with
    now := s.now + dt
    sau := { s.sau with hs := s.sau.hs.elapse dt, ls := s.sau.ls.elapse dt }
    cc := { s.cc with phase := s.cc.phase + dt } }

/-- The clock moves on to a deadline; a deadline already passed moves nothing (log entry 2). -/
def State.advanceTo (deadline : Nat) (s : State) : State := s.advance (deadline - s.now)

/-! ### Sides -/

/-- The side's own state. -/
def Sau.side (x : Sau) : Side → ShaftSide
  | .hs => x.hs
  | .ls => x.ls

/-- Replace a side's state. -/
def Sau.setSide (x : Sau) (sd : Side) (y : ShaftSide) : Sau :=
  match sd with
  | .hs => { x with hs := y }
  | .ls => { x with ls := y }

/-- The frame engine of a source. -/
def Ocr.engine (x : Ocr) : Side → Engine
  | .hs => x.hs
  | .ls => x.ls

/-- The frame an engine is COLLECTING, if any. -/
def Engine.current (e : Engine) : Option Frame := if e.collecting then some e.frame else none

/-- Replace the frame engine of a source. -/
def Ocr.setEngine (x : Ocr) (sd : Side) (y : Engine) : Ocr :=
  match sd with
  | .hs => { x with hs := y }
  | .ls => { x with ls := y }

/-- Board slot of gear line `n` (R51: slot 4 + n). -/
def glSlot (n : Nat) : Nat := 4 + n

def slotIcing : Nat := 0
def slotMaint : Nat := 1
def slotCoinc : Nat := 2
def slotGrid : Nat := 3

/-- E_code is floor(E / 256) (R45). -/
def Cond.eCode (c : Cond) : Nat := c.e / 256

end Sys2Proof.Machine
end

