-- ==== Sys2Proof/Machine/Flags.lean ====
section
/-! DEFINITION. Status flags, journal entries and attention (chapter 10): the operations by which a block reports. -/

namespace Sys2Proof.Machine

/-! ### Status copies -/

/-- The status flags with their class and bit (R175 and the status record of chapter 12). -/
inductive Flag where
  | slip
  | setDropped
  | ratioMismatch
  | badOrder
  | gridFrameDropped
  | accessDenied
  | badValue
  | writeWhileEnabled
  | clockSetAbandoned
  | linkLost
  | freqOut
  | unlocked
  | staleLines
  | opStale
  | calLimit
  | hsFault
  | lsFault
  | capUnacked
  | hardStop
  | roleConflict
deriving DecidableEq, Repr, Inhabited

/-- Set a flag in one copy; setting a set flag leaves it set (R175). Which bit each PROTECTIVE flag has is DEDUCED, log entry 46. -/
def RepPort.setFlag (r : RepPort) : Flag → RepPort
  | .slip => { r with advisory := r.advisory ||| 0x001 }
  | .setDropped => { r with advisory := r.advisory ||| 0x002 }
  | .ratioMismatch => { r with advisory := r.advisory ||| 0x004 }
  | .badOrder => { r with advisory := r.advisory ||| 0x008 }
  | .gridFrameDropped => { r with advisory := r.advisory ||| 0x010 }
  | .accessDenied => { r with advisory := r.advisory ||| 0x020 }
  | .badValue => { r with advisory := r.advisory ||| 0x040 }
  | .writeWhileEnabled => { r with advisory := r.advisory ||| 0x080 }
  | .clockSetAbandoned => { r with advisory := r.advisory ||| 0x100 }
  | .linkLost => { r with degraded := r.degraded ||| 0x01 }
  | .freqOut => { r with degraded := r.degraded ||| 0x02 }
  | .unlocked => { r with degraded := r.degraded ||| 0x04 }
  | .staleLines => { r with degraded := r.degraded ||| 0x08 }
  | .opStale => { r with degraded := r.degraded ||| 0x10 }
  | .calLimit => { r with degraded := r.degraded ||| 0x20 }
  | .hsFault => { r with protective := r.protective ||| 0x01 }
  | .lsFault => { r with protective := r.protective ||| 0x02 }
  | .capUnacked => { r with protective := r.protective ||| 0x04 }
  | .hardStop => { r with protective := r.protective ||| 0x08 }
  | .roleConflict => { r with protective := r.protective ||| 0x10 }

/-- Whether a flag is set in a copy. -/
def RepPort.hasFlag (r : RepPort) : Flag → Bool
  | .slip => r.advisory.getLsbD 0
  | .setDropped => r.advisory.getLsbD 1
  | .ratioMismatch => r.advisory.getLsbD 2
  | .badOrder => r.advisory.getLsbD 3
  | .gridFrameDropped => r.advisory.getLsbD 4
  | .accessDenied => r.advisory.getLsbD 5
  | .badValue => r.advisory.getLsbD 6
  | .writeWhileEnabled => r.advisory.getLsbD 7
  | .clockSetAbandoned => r.advisory.getLsbD 8
  | .linkLost => r.degraded.getLsbD 0
  | .freqOut => r.degraded.getLsbD 1
  | .unlocked => r.degraded.getLsbD 2
  | .staleLines => r.degraded.getLsbD 3
  | .opStale => r.degraded.getLsbD 4
  | .calLimit => r.degraded.getLsbD 5
  | .hsFault => r.protective.getLsbD 0
  | .lsFault => r.protective.getLsbD 1
  | .capUnacked => r.protective.getLsbD 2
  | .hardStop => r.protective.getLsbD 3
  | .roleConflict => r.protective.getLsbD 4

/-- "A block that detects a condition sets its flag in all three copies" (R175). -/
def State.raise (s : State) (f : Flag) : State := s.setRep (s.rep.map (·.setFlag f))

/-- Set a flag in all three copies when the condition holds. -/
def State.raiseIf (s : State) (b : Bool) (f : Flag) : State := if b then s.raise f else s

/-! ### Journal -/

/-- What the making chapter gives an entry; the journal adds sequence and time (R171). -/
structure EntryBody where
  source : Source
  inst : Option Nat := none
  kind : Kind
  fromState : Option Nat := none
  toState : Option Nat := none
  value : Int := 0

/-- The greatest number of entries in the ring (R170). -/
def ringSize : Nat := 256

/-- 2^32, the modulus of sequence numbers (R170). -/
def seqModulus : Nat := 4294967296

/-- A port whose cursor named the entry that left moves to the new oldest entry and counts the gap (R172). -/
def RepPort.passOver (left oldest : Nat) (r : RepPort) : RepPort :=
  if r.cursor = left then { r with cursor := oldest, gap := satAdd 65535 r.gap 1 } else r

/-- Append an entry stamped with `time` and `unset` (R172). -/
def State.appendStamped (s : State) (time : Nat) (unset : Bool) (b : EntryBody) : State :=
  let e : Entry := ⟨s.ej.next, time, unset, b.source, b.inst, b.kind, b.fromState, b.toState, journalValue b.value⟩
  let next := (s.ej.next + 1) % seqModulus
  if s.ej.ring.length < ringSize then s.setEj ⟨s.ej.ring ++ [e], next⟩
  else
    let ring := s.ej.ring.tail ++ [e]
    let left := (s.ej.ring.headD e).seq
    let oldest := (ring.headD e).seq
    (s.setEj ⟨ring, next⟩).setRep (s.rep.map (·.passOver left oldest))

/-- Append an entry at the event that makes it: it takes the next sequence number and the present time (R172). -/
def State.journal (s : State) (b : EntryBody) : State := s.appendStamped s.cc.time (!s.cc.isSet) b

/-- Append the entries of one event in order (R172). -/
def State.journalAll (s : State) (bs : List EntryBody) : State := bs.foldl State.journal s

/-- (next sequence number − cursor) mod 2^32 (R170). -/
def pendingCount (e : Ej) (r : RepPort) : Nat := (e.next + seqModulus - r.cursor) % seqModulus

/-! ### Attention -/

/-- The CAP cause of the board: the effective cap is below A_cap and the generation is not acknowledged (R133). -/
def Lb.capCause (b : Lb) : Bool := decide (b.cap < b.aCap) && decide (b.gen ≠ b.aGen)

/-- The ERROR cause: some set flag has an enabled class (R179). -/
def RepPort.errorCause (r : RepPort) : Bool :=
  (r.enAdvisory && r.advisory != 0) || (r.enDegraded && r.degraded != 0) || (r.enProtective && r.protective != 0)

/-- The causes that stand at a port, JOURNAL at bit 0, ERROR at bit 1, CAP at bit 2, COINC at bit 3 (R179, R199). -/
def State.causes (s : State) (p : PortId) : BitVec 4 :=
  let r := s.rep.get p
  BitVec.ofBool r.latch ++ BitVec.ofBool s.lb.capCause ++ BitVec.ofBool r.errorCause
    ++ BitVec.ofBool (decide (0 < pendingCount s.ej r))

/-- The attention line of a port: active while cause set and mask overlap (R180). -/
def State.attentionLine (s : State) (p : PortId) : Bool := s.causes p &&& (s.rep.get p).mask != 0

end Sys2Proof.Machine
end

