-- ==== Sys2Proof/Machine/Reply.lean ====
section
/-! DEFINITION. What the block that owns a command answers (R194): an answer with its reason, and the state it leaves. -/

namespace Sys2Proof.Machine

/-- The answer of an owning block to a control word whose role check passed (R193, R194). -/
structure Reply where
  answer : Answer
  reason : Reason
  state : State

/-- ACCEPTED with reason NONE. -/
def accept (s : State) : Reply := ⟨.accepted, .none, s⟩

/-- REFUSED with a reason; "a refused command changes nothing". -/
def refuse (r : Reason) (s : State) : Reply := ⟨.refused, r, s⟩

/-- GRANTED with reason NONE (R119). -/
def grant (s : State) : Reply := ⟨.granted, .none, s⟩

/-- DENIED with a reason (R119). -/
def deny (r : Reason) (s : State) : Reply := ⟨.denied, r, s⟩

end Sys2Proof.Machine
end

