-- ==== Sys2Proof/Machine/Counters.lean ====
section
/-! DEFINITION. The operating counters (chapter 8): counted revolutions, operating seconds, and COUNTER RESTORE. -/

namespace Sys2Proof.Machine

/-- The greatest value of a bin counter, 2^48 − 1 (R149). -/
def max48 : Nat := 281474976710655

/-- The torque bin b = min(15, floor(max(0, torque) / 100)) (R148). -/
def torqueBin (torque : Int) : Nat := min 15 ((max 0 torque).toNat / 100)

/-- One counted forward HS revolution in bin `b`: the bin counter goes up by 1 and D by the weight of the bin (R148, R149). -/
def Cc.countRevolution (b : Nat) (c : Cc) : Cc :=
  { c with bins := tmod c.bins b (satAdd max48 · 1), damage := satAdd max64 c.damage (tget c.config.weights b) }

/-- An HS revolution event counts under the torque of the operating record as held, whatever its freshness (R148). -/
def countRevolution (s : State) : State := s.setCc (s.cc.countRevolution (torqueBin s.icd.op.torque))

/-- Whether a second counts as run: either speed meets its running speed (R147). -/
def running (s : State) : Bool := decide (s.cc.config.vRunHs ≤ s.sau.hs.speed) || decide (s.cc.config.vRunLs ≤ s.sau.ls.speed)

/-- The operating seconds at a second tick (R147). -/
def countSecond (s : State) : State :=
  if running s then s.setCc { s.cc with seconds := satAdd max32 s.cc.seconds 1 } else s

/-- The counters with their bases added, each saturating (R151 with R149). -/
def Cc.addBases (c : Cc) : Cc :=
  { c with
    seconds := satAdd max32 c.seconds c.baseSeconds
    bins := List.zipWith (satAdd max48) c.bins c.baseBins
    damage := satAdd max64 c.damage c.baseDamage }

/-- COUNTER RESTORE(a) (R151). -/
def counterRestore (a : Nat) (s : State) : Reply :=
  if s.cc.restored then refuse .alreadyRestored s
  else if 2 ≤ a then refuse .badArgument s
  else
    let c := if a = 0 then s.cc.addBases else s.cc
    accept ((s.setCc { c with restored := true }).journal
      { source := .cc, kind := .restore, fromState := some 0, toState := some 1, value := a })

end Sys2Proof.Machine
end

