-- ==== Sys2Proof/Config.lean ====
section
/-! DEFINITION. The free values: results the spec does not state. Each is a constant with no body, so no proof can see its value,
and each keeps the width the spec gives the field (log entries 9, 10, 11, 42). -/

namespace Sys2Proof.Config

/-- v_hs for a closed period of 0 ticks, or of so few that floor(38,400,000,000 / P_rev) passes the range
0..FFFFFFFFh of the speed (R8 and the state table of chapter 1). DESIGN CHOICE: the spec states no value there. -/
opaque hsSpeedOutOfRange : Nat → BitVec 32

/-- v_ls for a closed period of 0 ticks, or of so few that floor(614,400,000,000 / P_ls) passes the range (R12). -/
opaque lsSpeedOutOfRange : Nat → BitVec 32

/-- v_frame of an HS frame whose P_mean is 0 or too short for the range 0..FFFFFFFFh (R37). -/
opaque hsFrameSpeedOutOfRange : Nat → BitVec 32

/-- v_frame of an LS frame whose P_mean is 0 or too short for the range (R37). -/
opaque lsFrameSpeedOutOfRange : Nat → BitVec 32

/-- f_m when floor(k_q × v_frame / divisor) of R85 passes the range 0..FFFFFFFFh of the field; the arguments are the
divisor (960 or 15360), k_q and v_frame. -/
opaque mechFrequencyOutOfRange : Nat → Nat → Nat → BitVec 32

/-- The journal value of a change from SUSPECT that a held count brings at an interval that is not a production interval: R112 names the
deficit of the closing interval, and R105 does not compute one there. The argument is the interval number (log entry 42). -/
opaque deficitNotComputed : Nat → BitVec 32

end Sys2Proof.Config
end

