-- ==== Sys2Proof/Machine/Operands.lean ====
section
/-! DEFINITION. The operand forms: port words and their fields (R198), byte masks (R189), link words (R19), headers and control words
(R199), the codes of states and enumerations (chapter 12, R200), dates (R140), and record sizes (chapter 12). -/

namespace Sys2Proof.Machine

/-! ### Words and fields (R198) -/

/-- `k` port words of a value, most significant word first. -/
def natWords : Nat → Nat → List Word
  | 0, _ => []
  | k + 1, n => BitVec.ofNat 16 (n / 65536 ^ k) :: natWords k n

/-- `k` port words of a signed value, two's complement in its full width. -/
def intWords (k : Nat) (v : Int) : List Word := natWords k (v % (65536 ^ k : Nat)).toNat

/-- One word of a number. -/
def word (n : Nat) : Word := BitVec.ofNat 16 n

/-- A set-or-clear field reads 1 when set and 0 when clear (R200). -/
def boolWord (b : Bool) : Word := if b then 1 else 0

/-- An optional field preceded by one mark word, its words 0 while ABSENT (R198). -/
def markWords (k : Nat) (v : Option Nat) : List Word :=
  match v with
  | some n => 1 :: natWords k n
  | none => 0 :: natWords k 0

/-- A set of lines or entries as a bit set of a 32-bit field (R198). -/
def setWords (xs : List Nat) : List Word := natWords 2 (xs.foldl (fun a n => a ||| 2 ^ n) 0)

/-- A mark group of sixteen as one word, slot s at bit s (R198). -/
def marksWord (bs : List Bool) : Word :=
  word ((List.range 16).foldl (fun a n => if bs.getD n false then a ||| 2 ^ n else a) 0)

/-- A record of `len` words: words past the last field read 0 (R198). -/
def fit (len : Nat) (ws : List Word) : List Word := (ws ++ List.replicate len 0).take len

/-- Word `n` of a record image. -/
def wordAt (ws : List Word) (n : Nat) : Word := ws.getD n 0

/-- The number in word `n`. -/
def numAt (ws : List Word) (n : Nat) : Nat := (wordAt ws n).toNat

/-- The signed number in word `n`. -/
def intAt (ws : List Word) (n : Nat) : Int := (wordAt ws n).toInt

/-- The number in `k` words from word `n`, most significant first. -/
def wideAt (ws : List Word) (n k : Nat) : Nat := ((ws.drop n).take k).foldl (fun a w => a * 65536 + w.toNat) 0

/-- `k` one-word numbers from word `n`. -/
def listAt (ws : List Word) (n k : Nat) : List Nat := (List.range k).map (fun i => numAt ws (n + i))

/-- Bits `hi`..`lo` of a word as a number. -/
def bitsOf (w : Word) (hi lo : Nat) : Nat := w.toNat / 2 ^ lo % 2 ^ (hi - lo + 1)

/-- Bit `n` of a word. -/
def bitOf (w : Word) (n : Nat) : Bool := w.getLsbD n

/-! ### Byte masks (R189) -/

end Sys2Proof.Machine

namespace Sys2Proof

/-- No byte written. -/
def MaskedWord.blank : MaskedWord := ⟨0, false, false⟩

/-- Whether at least one byte is written. -/
def MaskedWord.written (m : MaskedWord) : Bool := m.hi || m.lo

/-- The bits a masked word writes. -/
def MaskedWord.mask (m : MaskedWord) : Word := (if m.hi then 0xFF00 else 0) ||| (if m.lo then 0x00FF else 0)

/-- The word that results when `m` is written over `old`: unwritten bytes keep what they hold (R189). -/
def MaskedWord.over (m : MaskedWord) (old : Word) : Word := (old &&& ~~~m.mask) ||| (m.value &&& m.mask)

/-- A later word at the same position replaces the earlier word's written bytes and leaves the others (R189). -/
def MaskedWord.merge (earlier later : MaskedWord) : MaskedWord :=
  ⟨later.over earlier.value, earlier.hi || later.hi, earlier.lo || later.lo⟩

end Sys2Proof

namespace Sys2Proof.Machine

/-- What the write buffer holds for one position. -/
def bufferAt (buf : List BufferWord) (record offset : Nat) : MaskedWord :=
  buf.foldl (fun a b => if b.record = record ∧ b.offset = offset then a.merge b.word else a) MaskedWord.blank

/-- What the write buffer holds for one record of `len` words. -/
def bufferRecord (buf : List BufferWord) (record len : Nat) : List MaskedWord :=
  (List.range len).map (bufferAt buf record)

/-- Whether at least one byte of a record is written (R189). -/
def anyWritten (ms : List MaskedWord) : Bool := ms.any MaskedWord.written

/-- The record image that a write leaves, before the owning chapter's clamps. -/
def overlay (old : List Word) (ms : List MaskedWord) : List Word :=
  (List.range old.length).map (fun n => (ms.getD n MaskedWord.blank).over (wordAt old n))

/-! ### Link words (R19, R69) -/

end Sys2Proof.Machine

namespace Sys2Proof

/-- The parity is correct when the count of ones in the 17 bits is odd. -/
def LinkWord.good (w : LinkWord) : Bool :=
  ((List.range 16).foldl (fun a n => if w.sample.getLsbD n then a + 1 else a) (if w.parity then 1 else 0)) % 2 == 1

end Sys2Proof

namespace Sys2Proof.Machine

/-- A burst is good when it holds exactly `k` words, every one with correct parity. -/
def burstGood (k : Nat) (ws : List LinkWord) : Bool := ws.length == k && ws.all LinkWord.good

/-- The signed sample of word `n` of a burst. -/
def burstSample (ws : List LinkWord) (n : Nat) : Int := (ws.getD n ⟨0, false⟩).sample.toInt

/-! ### State codes (chapter 12) -/

def SideState.code : SideState → Nat
  | .off => 0
  | .seeking => 1
  | .tracking => 2
  | .standstill => 3
  | .fault => 4

def linkCode (up : Bool) : Nat := if up then 1 else 0

def Level.code : Level → Nat
  | .unrated => 0
  | .normal => 1
  | .alert => 2
  | .danger => 3

def LockState.code : LockState → Nat
  | .unlocked => 0
  | .locked => 1
  | .freqOut => 2

/-- CONFORMING 0, EXCEEDING 1; also EMPTY 0, LATCHED 1; RELEASED 0, ASSERTED 1; UNSET 0, SET 1; UNRESTORED 0, RESTORED 1. -/
def twoCode (b : Bool) : Nat := if b then 1 else 0

def Freshness.code : Freshness → Nat
  | .none => 0
  | .fresh => 1
  | .stale => 2

def IcingState.code : IcingState → Nat
  | .off => 0
  | .clear => 1
  | .watch => 2
  | .suspect => 3
  | .iced => 4
  | .thaw => 5

/-- Item states with ABSENT at 0. -/
def ItemState.code : ItemState → Nat
  | .pending => 1
  | .due => 2
  | .overdue => 3
  | .deferred => 4

/-- The code of an item's state, ABSENT when it has no state part. -/
def itemCode (x : Option ItemPart) : Nat :=
  match x with
  | some y => y.state.code
  | none => 0

def TurbineState.code : TurbineState → Nat
  | .stopped => 0
  | .starting => 1
  | .producing => 2
  | .curtailed => 3
  | .faulted => 4

/-- A turbine state code; others are invalid (operating record of chapter 12). -/
def TurbineState.ofCode : Nat → Option TurbineState
  | 0 => some .stopped
  | 1 => some .starting
  | 2 => some .producing
  | 3 => some .curtailed
  | 4 => some .faulted
  | _ => none

def SlotCode.code : SlotCode → Nat
  | .none => 0
  | .alert => 1
  | .danger => 2
  | .exceeding => 3
  | .live => 4
  | .suspect => 5
  | .iced => 6
  | .thaw => 7
  | .overdue => 8

def sideCode : Side → Nat
  | .hs => 0
  | .ls => 1

def sideOfCode : Nat → Option Side
  | 0 => some .hs
  | 1 => some .ls
  | _ => none

def DecodeMode.code : DecodeMode → Nat
  | .x1 => 0
  | .x2 => 1
  | .x4 => 2

def DecodeMode.ofCode : Nat → Option DecodeMode
  | 0 => some .x1
  | 1 => some .x2
  | 2 => some .x4
  | _ => none

/-- Counts per encoder line: m of R1. -/
def DecodeMode.counts : DecodeMode → Nat
  | .x1 => 1
  | .x2 => 2
  | .x4 => 4

def ItemKind.code : ItemKind → Nat
  | .date => 0
  | .hours => 1
  | .damage => 2

def ItemKind.ofCode : Nat → Option ItemKind
  | 0 => some .date
  | 1 => some .hours
  | 2 => some .damage
  | _ => none

def Completion.code : Completion → Nat
  | .none => 0
  | .evaluated => 1
  | .discarded _ => 2

def DiscardCause.code : DiscardCause → Nat
  | .encoder => 1
  | .nonstationary => 2
  | .undersampled => 3
  | .speedBand => 4
  | .reverse => 5
  | .linkLost => 6
  | .disabled => 7

/-- The cause word of a source record, NONE 0. -/
def Completion.causeCode : Completion → Nat
  | .discarded c => c.code
  | _ => 0

def ResultKind.code : ResultKind → Nat
  | .none => 0
  | .evaluated => 1
  | .notEvaluable => 2

def WindowOutcome.code : WindowOutcome → Nat
  | .none => 0
  | .evaluated => 1
  | .discarded => 2

def WindowCause.code : WindowCause → Nat
  | .none => 0
  | .freqOut => 1
  | .missing => 2
  | .unlocked => 3
  | .disabled => 4

def BlockOutcome.code : BlockOutcome → Nat
  | .none => 0
  | .valid => 1
  | .invalid => 2

def EvalCause.code : EvalCause → Nat
  | .none => 0
  | .gearHs => 1
  | .gearLs => 2
  | .grid => 3

def IntervalOutcome.code : IntervalOutcome → Nat
  | .none => 0
  | .void => 1
  | .production => 2
  | .notProducing => 3

def NotProducing.code : NotProducing → Nat
  | .none => 0
  | .state => 1
  | .wind => 2
  | .noCurve => 3

def ExpiryOutcome.code : ExpiryOutcome → Nat
  | .none => 0
  | .capUnacked => 1
  | .hardStop => 2

def roleCode : Role → Nat
  | .turbine => 0
  | .converter => 1
  | .farm => 2
  | .observer => 3

def Answer.code : Answer → Nat
  | .none => 0
  | .accepted => 1
  | .granted => 2
  | .refused => 3
  | .denied => 4

def Reason.code : Reason → Nat
  | .none => 0
  | .notPermitted => 1
  | .badConfig => 2
  | .dependency => 3
  | .wrongState => 4
  | .notStandstill => 5
  | .staleGeneration => 6
  | .alreadyRestored => 7
  | .unrestored => 8
  | .clockUnset => 9
  | .alreadyDeferred => 10
  | .deferLimit => 11
  | .badArgument => 12
  | .busy => 13
  | .unknownCommand => 14
  | .icing => 16
  | .capZero => 17
  | .stopLine => 18
  | .maintLock => 19

def Source.code : Source → Nat
  | .sauHs => 0
  | .sauLs => 1
  | .ocrLink => 2
  | .gcm => 3
  | .gcmHs => 4
  | .gcmLs => 5
  | .ghm => 6
  | .cw => 7
  | .icd => 8
  | .lb => 9
  | .cc => 10
  | .ms => 11
  | .ej => 12

def Kind.code : Kind → Nat
  | .none => 0
  | .partReset => 1
  | .slip => 2
  | .state => 3
  | .ratioMismatch => 4
  | .link => 5
  | .level => 6
  | .stale => 7
  | .lock => 8
  | .conformance => 9
  | .coinc => 10
  | .operating => 11
  | .icing => 12
  | .baseline => 13
  | .board => 14
  | .ackTimer => 15
  | .ack => 16
  | .calendar => 17
  | .clock => 18
  | .clockAbandon => 19
  | .restore => 20
  | .item => 21
  | .pull => 22
  | .done => 23
  | .defer => 24
  | .lost => 25

/-! ### Dates (R140) -/

/-- A year of 2000..2099 is a leap year when divisible by 4. -/
def monthLength (year month : Nat) : Nat :=
  if month = 2 then (if year % 4 = 0 then 29 else 28)
  else if month = 4 ∨ month = 6 ∨ month = 9 ∨ month = 11 then 30 else 31

/-- Day of the year (from 0) turned into month and day, walking the months from `month`; `k` bounds the walk. -/
def monthWalk (year : Nat) : Nat → Nat → Nat → Nat × Nat
  | 0, month, d => (month, d + 1)
  | k + 1, month, d =>
    if d < monthLength year month then (month, d + 1) else monthWalk year k (month + 1) (d - monthLength year month)

/-- Year, month and day of a day number (R140); a span of four years from a leap year has 1461 days. -/
def dateOfDay (day : Nat) : Nat × Nat × Nat :=
  let r := day % 1461
  let year := 2000 + 4 * (day / 1461) + (if r < 366 then 0 else 1 + (r - 366) / 365)
  let inYear := if r < 366 then r else (r - 366) % 365
  (year, monthWalk year 11 1 inYear)

/-- Days from January 1 to the first of `month`. -/
def daysBefore (year : Nat) : Nat → Nat
  | 0 => 0
  | 1 => 0
  | m + 1 => daysBefore year m + monthLength year m

/-- The day number of a date of 2000..2099. -/
def dayOfDate (year month day : Nat) : Nat :=
  365 * (year - 2000) + (year - 2000 + 3) / 4 + daysBefore year month + (day - 1)

/-- Whether the staged fields are a date and time that R140 allows (R143, check 3). -/
def ClockStaging.valid (c : ClockStaging) : Bool :=
  decide (2000 ≤ c.year.toNat) && decide (c.year.toNat ≤ 2099) && decide (1 ≤ c.month.toNat) && decide (c.month.toNat ≤ 12)
    && decide (1 ≤ c.day.toNat) && decide (c.day.toNat ≤ monthLength c.year.toNat c.month.toNat)
    && decide (c.hour.toNat ≤ 23) && decide (c.minute.toNat ≤ 59) && decide (c.second.toNat ≤ 59)

/-- The present time a valid staged value names. -/
def ClockStaging.seconds (c : ClockStaging) : Nat :=
  dayOfDate c.year.toNat c.month.toNat c.day.toNat * 86400 + c.hour.toNat * 3600 + c.minute.toNat * 60 + c.second.toNat

/-! ### Record sizes (chapter 12) -/

/-- Records of a group. -/
def recordCount : Nat → Nat
  | 0 => 1
  | 1 => 2
  | 2 => 1
  | 3 => 25
  | 4 => 27
  | 5 => 1
  | 6 => 13
  | 7 => 34
  | 8 => 2
  | 9 => 2
  | 10 => 30
  | 11 => 3
  | 12 => 2
  | 13 => 34
  | 14 => 256
  | 15 => 3
  | _ => 0

/-- Length in words of a record of a group. -/
def recordLength (g r : Nat) : Nat :=
  match g with
  | 0 => 16
  | 1 => 20
  | 2 => 8
  | 3 => if r < 24 then 10 else 8
  | 4 => if r < 24 then 14 else if r < 26 then 24 else 10
  | 5 => 52
  | 6 => if r < 6 then 56 else if r < 12 then 24 else 40
  | 7 => if r = 0 then 26 else if r = 1 then 20 else if r < 10 then 4 else 10
  | 8 => if r = 0 then 7 else 32
  | 9 => if r = 0 then 16 else 32
  | 10 => if r = 0 then 1 else if r = 1 then 9 else 6
  | 11 => if r = 0 then 18 else if r = 1 then 24 else 60
  | 12 => if r = 0 then 6 else 54
  | 13 => if r < 32 then 48 else if r = 32 then 4 else 16
  | 14 => 9
  | 15 => 13
  | _ => 0

/-- Records of CONTROL space and their lengths. -/
def controlLength (r : Nat) : Nat := if r = 0 then 8 else if r = 1 then 4 else 0

/-! ### Headers (R185, R199) -/

def sweepOfCode : Nat → Option Sweep
  | 0 => some .confined
  | 1 => some .running
  | 2 => some .confinedThenRunning
  | _ => none

/-- The out-of-range test of R185. A CONTROL write is never out of range. -/
def headerOutOfRange (wr control : Bool) (sweep : Option Sweep) (group record offset : Nat) : Bool :=
  if control then
    if wr then false else sweep.isNone || decide (2 ≤ record) || decide (controlLength record ≤ offset)
  else sweep.isNone || decide (recordCount group ≤ record) || decide (recordLength group record ≤ offset)

/-- Decode the three header words; bits the table leaves out are ignored (R199). -/
def decodeHeader (w0 w1 w2 : Word) : Header :=
  let wr := bitOf w0 15
  let control := bitOf w0 14
  let sweep := sweepOfCode (bitsOf w0 13 12)
  let group := bitsOf w0 3 0
  let record := bitsOf w1 7 0
  let offset := bitsOf w2 7 0
  ⟨wr, control, sweep, group, record, offset, headerOutOfRange wr control sweep group record offset⟩

/-! ### Control words (R193, R199) -/

/-- The six jobs of ENABLE and DISABLE. -/
inductive Job where
  | shaft
  | gear
  | grid
  | coinc
  | icing
  | maint
deriving DecidableEq, Repr, Inhabited

/-- The commands of R193. -/
inductive Command where
  | enable (j : Job)
  | disable (j : Job)
  | clearCoincidence
  | icingReport
  | icingRelease
  | learnBaseline
  | restartRequest
  | ackCap
  | clockArm
  | counterRestore
  | itemDone
  | itemDefer
  | journalAdvance
  | attnMask
deriving DecidableEq, Repr, Inhabited

/-- What a command word names: a command, ENABLE or DISABLE without a job, or no command. -/
inductive CommandWord where
  | command (c : Command)
  | noJob (enable : Bool)
  | unknown
deriving DecidableEq, Repr, Inhabited

def jobOfCode : Nat → Option Job
  | 1 => some .shaft
  | 2 => some .gear
  | 3 => some .grid
  | 4 => some .coinc
  | 5 => some .icing
  | 6 => some .maint
  | _ => none

def Job.code : Job → Nat
  | .shaft => 1
  | .gear => 2
  | .grid => 3
  | .coinc => 4
  | .icing => 5
  | .maint => 6

/-- Read a command word: the command code in bits 15..8, the job code in bits 7..0, read only for ENABLE and DISABLE. -/
def commandOfWord (w : Word) : CommandWord :=
  match bitsOf w 15 8 with
  | 0x01 => match jobOfCode (bitsOf w 7 0) with
    | some j => .command (.enable j)
    | none => .noJob true
  | 0x02 => match jobOfCode (bitsOf w 7 0) with
    | some j => .command (.disable j)
    | none => .noJob false
  | 0x10 => .command .clearCoincidence
  | 0x11 => .command .icingReport
  | 0x12 => .command .icingRelease
  | 0x13 => .command .learnBaseline
  | 0x14 => .command .restartRequest
  | 0x20 => .command .ackCap
  | 0x21 => .command .clockArm
  | 0x22 => .command .counterRestore
  | 0x23 => .command .itemDone
  | 0x24 => .command .itemDefer
  | 0x30 => .command .journalAdvance
  | 0x31 => .command .attnMask
  | _ => .unknown

/-- The command word of a command, its unread job code 0 (R199). -/
def Command.word : Command → Word
  | .enable j => Machine.word (0x0100 + j.code)
  | .disable j => Machine.word (0x0200 + j.code)
  | .clearCoincidence => 0x1000
  | .icingReport => 0x1100
  | .icingRelease => 0x1200
  | .learnBaseline => 0x1300
  | .restartRequest => 0x1400
  | .ackCap => 0x2000
  | .clockArm => 0x2100
  | .counterRestore => 0x2200
  | .itemDone => 0x2300
  | .itemDefer => 0x2400
  | .journalAdvance => 0x3000
  | .attnMask => 0x3100

/-- The roles that may give a command (R193). -/
def Command.allows (c : Command) (r : Role) : Bool :=
  match c with
  | .enable .grid => r ≠ .observer
  | .disable .grid => r ≠ .observer
  | .enable _ => r = .turbine || r = .farm
  | .disable _ => r = .turbine || r = .farm
  | .clearCoincidence => r ≠ .observer
  | .icingReport => r = .turbine
  | .icingRelease => r = .farm
  | .learnBaseline => r = .farm
  | .restartRequest => r = .turbine
  | .ackCap => r = .turbine
  | .clockArm => r = .farm
  | .counterRestore => r = .farm
  | .itemDone => r = .farm
  | .itemDefer => r = .farm
  | .journalAdvance => true
  | .attnMask => true

/-- The roles that may write a group; in group 15 each port writes its own record (R190). -/
def mayWrite (r : Role) (p : PortId) (group record : Nat) : Bool :=
  match group with
  | 2 => r = .turbine || r = .farm
  | 3 => r = .farm
  | 5 => r = .converter || r = .farm
  | 7 => r = .farm
  | 8 => r = .turbine
  | 9 => r = .farm
  | 10 => r = .farm
  | 11 => r = .farm
  | 12 => r = .farm
  | 13 => r = .farm
  | 15 => record = portNumber p
  | _ => false

end Sys2Proof.Machine
end

