-- ==== Sys2Proof/Machine/Image.lean ====
section
/-! DEFINITION. What the masters see: the words of every record of RECORD space and CONTROL space (chapter 12 and the "What the masters
see" rules), and the publishes that hold a record back until they complete (R39, R75, R93, R113, R135, R164, R186). -/

namespace Sys2Proof.Machine

/-! ### Records of each group -/

/-- Group 0: the part record (R191). -/
def partImage (s : State) : List Word :=
  [boolWord s.jobs.shaft, boolWord s.jobs.gear, boolWord s.jobs.grid, boolWord s.jobs.coinc, boolWord s.jobs.icing,
    boolWord s.jobs.maint, word (roleCode s.pi.p0.strapped), word (roleCode s.pi.p0.role), word (roleCode s.pi.p1.strapped),
    word (roleCode s.pi.p1.role), word (roleCode s.pi.p2.strapped), word (roleCode s.pi.p2.role),
    boolWord (s.pi.p0.strapped ≠ s.pi.p0.role || s.pi.p1.strapped ≠ s.pi.p1.role || s.pi.p2.strapped ≠ s.pi.p2.role)]

/-- Group 1: the shaft state records (R15). -/
def sideImage (sd : Side) (x : Sau) : List Word :=
  let y := x.side sd
  [word y.state.code, boolWord x.reverse, boolWord y.referenced, boolWord y.timed]
    ++ (match sd with | .hs => intWords 2 y.position | .ls => intWords 1 y.position)
    ++ natWords 2 y.lastPeriod ++ natWords 2 y.speed
    ++ [boolWord y.speedValid, word y.consecutive, word y.total, word y.dropped]
    ++ (match sd with | .hs => [] | .ls => [boolWord x.armed, word x.testedR, boolWord x.mismatch])

/-- Group 2: the shaft configuration (R1). -/
def shaftConfigImage (c : ShaftConfig) : List Word :=
  [word c.eLines, word c.mode.code, word c.dec, word c.holdOff,
    word ((if c.quadA then 2 else 0) + (if c.quadB then 1 else 0)), word c.tStand, word c.gearRatio]

/-- Group 3, records 0..23: a gear line definition (drawn in chapter 12). Without an item link bits 4..0 of word 8 read 0 (DESIGN CHOICE, log
entry 53). -/
def lineDefImage (d : LineDef) : List Word :=
  [word ((if d.enabled then 32768 else 0) + 256 * sideCode d.source + d.channel), word d.kq, word d.alertOn, word d.alertOff,
    word d.dangerOn, word d.dangerOff, word (256 * d.alpha + d.kp), word (256 * d.alertCap + d.dangerCap),
    (match d.item with | some n => word (32768 + n) | none => 0), word d.floor]

/-- Group 3, record 24: the correlator configuration (R24). -/
def corrImage (c : CorrConfig) : List Word :=
  [word c.rHs, word c.rLs, word c.vMinHs, word c.vMaxHs, word c.vMinLs, word c.vMaxLs, word c.tol]

/-- Group 4, records 0..23: a line result (drawn in chapter 12). -/
def lineResultImage (x : LineResult) (c : Cond) : List Word :=
  [word (x.kind.code + (if x.overRange then 4 else 0) + 8 * sideCode x.source + 16 * c.level.code + (if c.stale then 64 else 0)),
    word x.code] ++ intWords 3 x.i ++ intWords 3 x.q ++ [word x.seq] ++ natWords 2 c.e
    ++ [word c.eCode, word (256 * c.down + 16 * c.danger + c.alert), word c.lastSeq]

/-- Group 4, records 24 and 25: a source record (R40, R56). In WAITING the in-frame items stand at 0 (log entry 15). The discard
count of R56 lies after the fields of R40 (DESIGN CHOICE, log entry 52). -/
def sourceImage (e : Engine) (discards : Nat) : List Word :=
  [boolWord e.collecting] ++ natWords 2 (e.frame.s * e.frame.r) ++ [word e.frame.r] ++ natWords 2 e.frame.samples
    ++ [word e.frame.revs] ++ natWords 2 e.frame.reuse ++ [word e.seq, word e.last.code, word e.last.causeCode]
    ++ natWords 2 e.pMean ++ natWords 2 e.lastMinP ++ natWords 2 e.lastMaxP ++ natWords 2 e.vFrame ++ natWords 2 e.lastReuse ++ [word discards]

/-- Group 4, record 26: the link record (R40). -/
def linkImage (x : Link) : List Word :=
  [word (linkCode x.up)]
    ++ (match x.latest with
      | some a => 1 :: (intWords 1 a.a0 ++ intWords 1 a.a1 ++ intWords 1 a.a2 ++ intWords 1 a.a3)
      | none => [0, 0, 0, 0, 0])
    ++ natWords 2 x.good ++ [word x.dropped]

/-- Group 5: the grid configuration (R61). -/
def gridConfigImage (c : GridConfig) : List Word :=
  c.h.map word ++ c.limitV.map word ++ c.limitI.map word
    ++ [word c.thdLimitV, word c.thdLimitI, word c.fundFloorV, word c.fundFloorI, word c.kg, word c.gridCap]

/-- f = floor(640,000,000 / period) in 1/16 Hz (R64, R73). -/
def gridFrequency (period : Nat) : Nat := 640000000 / period

/-- Group 6, records 0..5: a window record (R75). -/
def windowImage (g : Ghm) (n : Nat) : List Word :=
  let c := tget g.chan n
  [word g.windowSeq, word g.outcome.code, boolWord g.degraded, word g.cause.code] ++ c.codes.map word
    ++ [marksWord c.overRange] ++ g.lastSlots.map word ++ [word c.thd, boolWord c.noFund, word g.lastMissing]

/-- Group 6, records 6..11: a block record (R75). -/
def blockImage (g : Ghm) (n : Nat) : List Word :=
  let c := tget g.blockChan n
  [word g.blockSeq] ++ c.aggs.map word ++ [word c.thd, boolWord c.noFund, boolWord (tget g.thdMarks n), marksWord g.exceeded]

/-- Group 6, record 12: the grid status record (R75). The rule does not say what P, base and r show while the generator is IDLE, nor what
cycles closed, positions closed and the missing count show while the window is IDLE: 0 (DESIGN CHOICE, log entry 45). -/
def gridStatusImage (g : Ghm) : List Word :=
  [word g.lock.code, word g.valid] ++ natWords 2 g.held ++ [word (gridFrequency g.held)] ++ natWords 2 g.measured
    ++ [word g.ignored]
    ++ (match g.gen with
      | some x => [1] ++ natWords 2 x.p ++ [word x.base, word x.r]
      | none => [0, 0, 0, 0, 0])
    ++ (match g.window with
      | some w => [1, word w.cycles, word w.positions, word w.missing]
      | none => [0, 0, 0, 0])
    ++ natWords 2 g.pWin ++ [word g.fWin]
    ++ [word g.block.count, word g.block.nValid, word g.blockOutcome.code, word (twoCode g.exceeding), word g.exceedCount,
      word g.clearCount, word g.droppedFrames]

/-- Group 7, record 0: the watch configuration (R84). -/
def watchConfigImage (c : WatchConfig) : List Word :=
  c.m.map word ++ c.slot.map word ++ c.floor.map word ++ [word c.tol, word c.coincCap]

/-- Group 7, record 1: the coincidence record (R93): twenty words, the first pair's f_m in one (log entry 20). While the snapshot is absent
its f_win reads 0 (DESIGN CHOICE, log entry 51). -/
def coincImage (s : State) : List Word :=
  let c := s.cw
  [boolWord s.jobs.coinc, word c.count, word c.cause.code] ++ setWords c.liveLines ++ setWords c.liveEntries
    ++ setWords c.latchedLines ++ setWords c.latchedEntries
    ++ (match c.firstPair with
      | some x => [1, word x.line, word x.entry] ++ [word x.fm, word x.fe]
      | none => [0, 0, 0, 0, 0])
    ++ [boolWord (tget s.lb.slots slotCoinc).active] ++ markWords 1 (c.elec.map (·.blockSeq))
    ++ [word ((c.elec.map (·.fWin)).getD 0)]

/-- Group 7, records 2..9: an entry record as the last publish of it left its fields (R93; log entry 43). Live follows the live
entry set, also without an evaluation (DESIGN CHOICE, log entry 55). -/
def entryImage (c : Cw) (n : Nat) : List Word :=
  [word (tget c.entryFreq n), boolWord (c.visEntries.contains n), boolWord (c.liveEntries.contains n),
    word (tget c.entryHigh n)]

/-- Group 7, records 10..33: a line record (R93). Live follows the live line set, also without an evaluation (DESIGN CHOICE, log
entry 55). -/
def mechImage (c : Cw) (n : Nat) : List Word :=
  (match tget c.mech n with
    | some x => [1, word (sideCode x.source), word x.kq, word x.code] ++ natWords 2 x.vFrame ++ natWords 2 x.fm
    | none => List.replicate 8 0)
    ++ [boolWord (c.visLines.contains n), boolWord (c.liveLines.contains n)]

/-- Group 8, record 0: the operating record (drawn in chapter 12). -/
def opImage (x : OpRecord) : List Word :=
  [word x.sequence, word x.turbine.code, word x.wind, word x.power] ++ intWords 1 x.torque ++ intWords 1 x.temp
    ++ [word x.humidity]

/-- Group 8, record 1: the icing record (R113; log entry 21 on the mark of exp and def). The remaining seconds of a STOPPED thaw timer
read 0 (DESIGN CHOICE, log entry 56). -/
def icingImage (s : State) : List Word :=
  let c := s.icd
  [boolWord s.jobs.icing, word c.state.code, word c.suspect, word c.ice, word c.clear, boolWord c.thaw.isSome]
    ++ natWords 2 (c.thaw.getD 0) ++ [word c.base, word c.fresh.code, word c.age, word c.second, word c.arrivals,
      word c.lastState.code, word c.number, word c.last.outcome.code, word c.last.reason.code, word c.last.w, word c.last.meas]
    ++ intWords 1 c.last.t ++ [word c.last.rh]
    ++ (match c.last.prod with | some (e, d) => [1, word e, word d] | none => [0, 0, 0])
    ++ markWords 2 c.last.imb ++ [word c.last.seq]

/-- Group 9, record 0: the icing configuration (R101, R200). -/
def icingConfigImage (c : IcingConfig) : List Word :=
  intWords 1 c.tIce ++ [word c.tHyst, word c.hIce] ++ intWords 1 c.tThaw
    ++ [word c.dSuspect, word c.dIce, word c.ns, word c.ni, word c.iIce, (match c.line with | some n => word n | none => 0xFFFF),
      word c.thawTime, word c.cutIn, word c.rated, word c.suspectCap]

/-- Group 10, record 1: the board record (drawn in chapter 12). The remaining seconds of a STOPPED ack timer read 0 (DESIGN CHOICE, log
entry 56). -/
def boardImage (b : Lb) : List Word :=
  [word (256 * b.gov.getD 255 + b.cap), word b.gen, word b.aGen, word b.aCap,
    word ((if b.timer.isSome then 32768 else 0) + b.timer.getD 0),
    word ((if b.line then 1 else 0) + (if b.capCause then 2 else 0) + 256 * b.lastOutcome.code)]
    ++ natWords 2 b.lastTime ++ [if b.lastUnset then 0x8000 else 0]

/-- Group 10, records 2..29: a slot record (R135). -/
def slotImage (x : Slot) : List Word :=
  [boolWord x.active, word x.cap, word x.code.code] ++ natWords 2 x.time ++ [boolWord x.unset]

/-- Group 11, record 0: the counter configuration (R146). -/
def counterConfigImage (c : CounterConfig) : List Word := [word c.vRunHs, word c.vRunLs] ++ c.weights.map word

/-- The day number of a present time (R140). -/
def dayNumber (time : Nat) : Nat := time / 86400

/-- Group 11, record 1: the time record (R152; log entry 21 on the mark of the armed fields). The captured value is shown as a count of
seconds (DEDUCED, log entry 50). -/
def timeImage (now : Nat) (c : Cc) : List Word :=
  let d := dateOfDay (dayNumber c.time)
  let t := c.time % 86400
  [word (twoCode c.isSet), boolWord c.limit] ++ natWords 2 c.time
    ++ [word d.1, word d.2.1, word d.2.2, word (t / 3600), word (t / 60 % 60), word (t % 60), word (dayNumber c.time),
      boolWord c.armed.isSome]
    ++ (match c.armed with | some a => 1 :: (natWords 2 a.value ++ natWords 2 (a.deadline - now)) | none => [0, 0, 0, 0, 0])
    ++ [word c.ppsAccepted, word c.ppsIgnored] ++ intWords 2 c.ppsOffset

/-- The revolution total, formed whenever it is shown (R149). -/
def Cc.revolutions (c : Cc) : Nat := c.bins.foldl (· + ·) 0

/-- Group 11, record 2: the counter record (R152). -/
def counterImage (c : Cc) : List Word :=
  [word (twoCode c.restored)] ++ natWords 2 c.seconds ++ c.bins.flatMap (natWords 3) ++ natWords 4 c.revolutions
    ++ natWords 4 c.damage

/-- Group 12, record 0: the clock staging record (R142). -/
def stagingImage (x : ClockStaging) : List Word := [x.year, x.month, x.day, x.hour, x.minute, x.second]

/-- Group 12, record 1: the restore staging record (R150). -/
def restoreImage (c : Cc) : List Word := natWords 2 c.baseSeconds ++ c.baseBins.flatMap (natWords 3) ++ natWords 4 c.baseDamage

/-- The definition part of an item slot (R154). -/
def itemDefImage (d : ItemDef) : List Word :=
  [boolWord d.present, word d.code, word d.kind.code] ++ natWords 4 d.interval ++ natWords 4 d.firstDue ++ natWords 4 d.grace
    ++ natWords 4 d.maxDefer ++ natWords 4 d.leadAlert ++ natWords 4 d.leadDanger ++ [word d.cap, boolWord d.lock]

/-- Group 13, records 0..31: an item slot (R164). Due and the deferral mark of an absent item read 0 (DESIGN CHOICE, log entry 56). -/
def itemImage (x : Item) : List Word :=
  itemDefImage x.written ++ [boolWord x.takePending, word (itemCode x.part)]
    ++ (match x.part with
      | some y => natWords 4 y.due ++ markWords 4 y.lastDone ++ markWords 1 y.pulledBy ++ markWords 4 y.deferUntil
          ++ [boolWord y.mark]
      | none => List.replicate 17 0)

/-- The number of items in a state (R164). -/
def Ms.countIn (m : Ms) (st : ItemState) : Nat := (m.items.filter (fun x => x.part.any (·.state = st))).length

/-- Group 13, record 33: the schedule record (R164). -/
def scheduleImage (s : State) : List Word :=
  let m := s.ms
  [boolWord s.jobs.maint, word (twoCode m.sample.isSet), word m.sample.day, word (twoCode m.sample.restored)]
    ++ natWords 2 m.sample.seconds ++ natWords 4 m.sample.damage ++ markWords 1 m.posted
    ++ [word (m.countIn .pending), word (m.countIn .due), word (m.countIn .overdue), word (m.countIn .deferred)]

/-- Words of a journal entry (drawn in chapter 12). -/
def journalWords (e : Entry) : List Word :=
  natWords 2 e.seq ++ natWords 2 e.time
    ++ [word (256 * e.source.code + e.inst.getD 255), word ((if e.unset then 32768 else 0) + e.kind.code),
      word (256 * e.fromState.getD 255 + e.toState.getD 255)] ++ intWords 2 e.value

/-- A record of the journal that carries no entry: kind NONE or LOST with the sequence asked for (R173). -/
def emptyEntry (seq : Nat) (k : Kind) : Entry := ⟨seq, 0, false, .sauHs, none, k, none, none, 0⟩

/-- The entry whose sequence is `seq`, as group 14 delivers it (R173). -/
def journalEntry (e : Ej) (seq : Nat) : Entry :=
  match e.ring.find? (fun x => x.seq = seq) with
  | some x => x
  | none => if (seq + seqModulus - e.next) % seqModulus < ringSize then emptyEntry seq .none else emptyEntry seq .lost

/-- Group 14, record `i` read through a port whose cursor at the header was `cursor` (R173). -/
def journalImage (e : Ej) (cursor i : Nat) : List Word := journalWords (journalEntry e ((cursor + i) % seqModulus))

/-- Group 15: the status record of a port (drawn in chapter 12). -/
def statusImage (s : State) (p : PortId) : List Word :=
  let r := s.rep.get p
  let oldest := (s.ej.ring.headD (emptyEntry s.ej.next .none)).seq
  [r.advisory.setWidth 16, r.degraded.setWidth 16, r.protective.setWidth 16,
    word ((if r.latch then 1 else 0) + (if r.enAdvisory then 16 else 0) + (if r.enDegraded then 32 else 0)
      + (if r.enProtective then 64 else 0)),
    word r.gap, word (r.mask.toNat + 256 * (s.causes p).toNat + (if s.attentionLine p then 32768 else 0))]
    ++ natWords 2 r.cursor ++ [word (pendingCount s.ej r)] ++ natWords 2 oldest
    ++ natWords 2 ((s.ej.next + seqModulus - 1) % seqModulus)

/-- CONTROL record 0: identification (R192, chapter 12). -/
def identImage (x : PiPort) : List Word :=
  [0x0740, 0x0001, word (256 * roleCode x.strapped + roleCode x.role), 24, 16, 8, 32, 256]

/-- CONTROL record 1: the port's result record (R194, chapter 12). -/
def resultImage (r : ResultRecord) : List Word :=
  [word r.count, r.command, r.argument, word (256 * r.answer.code + r.reason.code)]

/-- The fields of record `r` of group `g` as the owning block holds them; group 14 is read through a cursor instead. -/
def fieldsOf (g r : Nat) (s : State) : List Word :=
  match g with
  | 0 => partImage s
  | 1 => if r = 0 then sideImage .hs s.sau else sideImage .ls s.sau
  | 2 => shaftConfigImage s.sau.config
  | 3 => if r < 24 then lineDefImage (tget s.gcm.defs r) else corrImage s.ocr.config
  | 4 =>
    if r < 24 then lineResultImage (tget s.ocr.results r) (tget s.gcm.conds r)
    else if r = 24 then sourceImage s.ocr.hs s.gcm.discHs
    else if r = 25 then sourceImage s.ocr.ls s.gcm.discLs
    else linkImage s.ocr.link
  | 5 => gridConfigImage s.ghm.config
  | 6 => if r < 6 then windowImage s.ghm r else if r < 12 then blockImage s.ghm (r - 6) else gridStatusImage s.ghm
  | 7 =>
    if r = 0 then watchConfigImage s.cw.config
    else if r = 1 then coincImage s
    else if r < 10 then entryImage s.cw (r - 2)
    else mechImage s.cw (r - 10)
  | 8 => if r = 0 then opImage s.icd.op else icingImage s
  | 9 => if r = 0 then icingConfigImage s.icd.config else s.icd.curve.map word
  | 10 => if r = 0 then [word s.lb.tAck] else if r = 1 then boardImage s.lb else slotImage (tget s.lb.slots (r - 2))
  | 11 =>
    if r = 0 then counterConfigImage s.cc.config else if r = 1 then timeImage s.now s.cc else counterImage s.cc
  | 12 => if r = 0 then stagingImage s.cc.staging else restoreImage s.cc
  | 13 => if r < 32 then itemImage (tget s.ms.items r) else if r = 32 then natWords 4 s.ms.deferArg else scheduleImage s
  | 15 => statusImage s (if r = 0 then .p0 else if r = 1 then .p1 else .p2)
  | _ => []

/-- The words of a record as its block holds them, in the length of the size table. -/
def image (g r : Nat) (s : State) : List Word := fit (recordLength g r) (fieldsOf g r s)

/-! ### Publishes -/

/-- A publish of `recs` of group `g` begins: until it completes the masters see those records as they stood in `before`. -/
def startPublish (g : Nat) (recs : List Nat) (before after : State) : State :=
  after.setPub
    ⟨after.pub.flights ++ [⟨g, after.pub.next, recs.map (fun r => (r, image g r before))⟩], after.pub.next + 1⟩

/-- A change published to records `recs` of group `g` as one change. -/
def publishing (g : Nat) (recs : List Nat) (f : State → State) (s : State) : State := startPublish g recs s (f s)

/-- Whether a publish of the group is in flight (R186). -/
def inFlight (g : Nat) (s : State) : Bool := s.pub.flights.any (fun f => f.group = g)

/-- Take the oldest publish of a group out of flight. -/
def dropOldest (g : Nat) : List Flight → List Flight
  | [] => []
  | f :: fs => if f.group = g then fs else f :: dropOldest g fs

/-- The oldest publish of a group has replaced its records; they follow one another in the order of their events (R195). -/
def completeOldest (g : Nat) (s : State) : State := s.setPub { s.pub with flights := dropOldest g s.pub.flights }

/-- Every publish of a group that was in flight at a HELD header has replaced its records (R186). -/
def completeBefore (g bound : Nat) (s : State) : State :=
  s.setPub { s.pub with flights := s.pub.flights.filter (fun f => !(f.group = g && f.number < bound)) }

/-- What a publish keeps back of a record. -/
def Flight.keeps (f : Flight) (g r : Nat) : Option (List Word) :=
  if f.group = g then (f.kept.find? (fun k => k.1 = r)).map (·.2) else none

/-- The words of a record as a master sees them: held back by the oldest publish in flight that will replace it, else as the
block holds them. -/
def visible (g r : Nat) (s : State) : List Word := (s.pub.flights.findSome? (·.keeps g r)).getD (image g r s)

end Sys2Proof.Machine
end

