-- ==== Sys2Proof/Machine/Board.lean ====
section
/-! DEFINITION. The Limit Board (chapter 7): postings and withdrawals taken as one change, the effective cap and the generation,
the ack timer and the hard-stop line. -/

namespace Sys2Proof.Machine

/-- A change of a slot by its poster (R121). -/
inductive SlotAct where
  | post (cap : Nat) (code : SlotCode)
  | withdraw
deriving DecidableEq, Repr, Inhabited

/-- A posting or withdrawal handed to the board. -/
structure SlotChange where
  slot : Nat
  act : SlotAct
deriving DecidableEq, Repr, Inhabited

/-- A posting sets active and replaces the content; a withdrawal of an active slot clears it and keeps the cap (R121). -/
def Slot.apply (time : Nat) (unset : Bool) (x : Slot) : SlotAct → Slot
  | .post cap code => ⟨true, cap, code, time, unset⟩
  | .withdraw => if x.active then { x with active := false, code := .none, time := time, unset := unset } else x

/-- A withdrawal of an inactive slot changes nothing (R121). -/
def SlotChange.effective (slots : List Slot) (c : SlotChange) : Bool :=
  match c.act with
  | .post _ _ => true
  | .withdraw => (tget slots c.slot).active

/-- The smallest cap among active slots, 100 when none is active (R122). -/
def effectiveCap (slots : List Slot) : Nat := slots.foldl (fun a x => if x.active then min a x.cap else a) 100

/-- The first active slot from index `n` whose cap is `cap`. -/
def governingFrom (cap : Nat) : Nat → List Slot → Option Nat
  | _, [] => none
  | n, x :: xs => if x.active && x.cap = cap then some n else governingFrom cap (n + 1) xs

/-- The governing slot: lowest index among the active slots whose cap equals the effective cap (R122). -/
def governingSlot (slots : List Slot) : Option Nat := governingFrom (effectiveCap slots) 0 slots

/-- The next value of the generation, one further when it would equal A_gen (R123). -/
def nextGeneration (gen aGen : Nat) : Nat :=
  let g := (gen + 1) % 65536
  if g = aGen then (g + 1) % 65536 else g

/-- The ack timer after a change: cancelled at or above A_cap (R128), started by a lowering below A_cap while STOPPED (R127). -/
def Lb.timerAfter (b : Lb) (newCap : Nat) : Option Nat :=
  if b.aCap ≤ newCap then none
  else match b.timer with
    | some n => some n
    | none => if newCap < b.cap then some b.tAck else none

/-- The board after a change of its slots to `slots` (R122, R123, R127, R128). -/
def Lb.recompute (b : Lb) (slots : List Slot) : Lb :=
  let cap := effectiveCap slots
  let gov := governingSlot slots
  { b with
    slots := slots
    cap := cap
    gov := gov
    gen := if cap = b.cap ∧ gov = b.gov then b.gen else nextGeneration b.gen b.aGen
    timer := b.timerAfter cap }

/-- The BOARD entry of a change (R123). -/
def boardEntry (old new : Lb) : List EntryBody :=
  if new.cap = old.cap ∧ new.gov = old.gov then []
  else [{ source := .lb, inst := new.gov, kind := .board, fromState := some old.cap, toState := some new.cap, value := new.gen }]

/-- The slots after the changes of one event, in order. -/
def applyChanges (time : Nat) (unset : Bool) (slots : List Slot) (cs : List SlotChange) : List Slot :=
  cs.foldl (fun xs c => tmod xs c.slot (fun x => x.apply time unset c.act)) slots

/-- The postings and withdrawals of one event of one block, taken as one change (R121, R124) and published with the slot records
they changed (R135). -/
def boardChange (cs : List SlotChange) (s : State) : State :=
  let es := cs.filter (SlotChange.effective s.lb.slots)
  if es.isEmpty then s
  else
    publishing 10 (1 :: es.map (fun c => c.slot + 2))
      (fun s =>
        let b := s.lb.recompute (applyChanges s.cc.time (!s.cc.isSet) s.lb.slots es)
        (s.setLb b).journalAll (boardEntry s.lb b))
      s

/-- The expiry of the ack timer acts on the effective cap as it stands (R129, R130). -/
def ackExpire (s : State) : State :=
  publishing 10 [1]
    (fun s =>
      let line := s.lb.line || s.lb.cap = 0
      let b := { s.lb with
        timer := none
        line := line
        lastOutcome := if s.lb.cap = 0 then .hardStop else .capUnacked
        lastTime := s.cc.time
        lastUnset := !s.cc.isSet }
      ((s.setLb b).raise (if s.lb.cap = 0 then .hardStop else .capUnacked)).journal
        { source := .lb, inst := s.lb.gov, kind := .ackTimer, fromState := some (twoCode s.lb.line),
          toState := some (twoCode line), value := s.lb.cap })
    s

/-- The Limit Board takes a second tick: a RUNNING timer goes down by 1, and at 0 expires (R128). -/
def boardTick (s : State) : State :=
  match s.lb.timer with
  | none => s
  | some n => if n ≤ 1 then ackExpire s else s.setLb { s.lb with timer := some (n - 1) }

/-- The board after an accepted ACK CAP of generation `g` (R131). -/
def Lb.acknowledged (b : Lb) (g : Nat) : Lb :=
  { b with aGen := g, aCap := b.cap, timer := none, line := b.line && b.cap = 0 }

/-- An accepted ACK CAP: it journals and publishes when it changes A_gen, A_cap or the line (R131, R135). -/
def acknowledge (g : Nat) (s : State) : State :=
  let b := s.lb.acknowledged g
  if b.aGen = s.lb.aGen ∧ b.aCap = s.lb.aCap ∧ b.line = s.lb.line then s.setLb b
  else
    publishing 10 [1]
      (fun s => (s.setLb b).journal
        { source := .lb, kind := .ack, fromState := some (twoCode s.lb.line), toState := some (twoCode b.line), value := g })
      s

end Sys2Proof.Machine
end

