-- ==== Sys2Proof/Machine/Maint.lean ====
section
/-! DEFINITION. The Maintenance Schedule (chapter 9): sample, definitions taken, evaluation, pull-forward, slot MAINT. -/

namespace Sys2Proof.Machine

/-- The value of an item: the sampled source of its kind (R156). -/
def Sample.value (x : Sample) : ItemKind → Nat
  | .date => x.day
  | .hours => x.seconds
  | .damage => x.damage

/-- Whether an item's source is valid (R156). -/
def Sample.valid (x : Sample) : ItemKind → Bool
  | .date => x.isSet
  | .hours => x.restored
  | .damage => x.restored

/-- An item that starts: PENDING, due equal to first due (R155). -/
def ItemPart.start (d : ItemDef) : ItemPart := ⟨.pending, d.firstDue, none, none, none, false⟩

/-- An ITEM entry of slot `n` (R155, R157). -/
def itemEntry (n : Nat) (fromCode toCode : Nat) (value : Nat) : EntryBody :=
  { source := .ms, inst := some n, kind := .item, fromState := some fromCode, toState := some toCode, value := value }

/-- Take the written definition of one slot into force (R155); answers the slot and the entries made. -/
def Item.take (n : Nat) (x : Item) : Item × List EntryBody :=
  if x.takePending then
    let y := { x with inForce := x.written, takePending := false }
    if x.written.present then
      if x.inForce.present && x.inForce.kind = x.written.kind then (y, [])
      else
        ({ y with part := some (.start x.written) },
          [itemEntry n (if x.inForce.present then itemCode x.part else 0) (ItemState.pending.code) x.written.code])
    else if x.inForce.present then
      ({ y with part := none }, [itemEntry n (itemCode x.part) 0 x.inForce.code])
    else (y, [])
  else (x, [])

/-- One step of R157 on a state: PENDING to DUE. -/
def ItemPart.toDue (v : Nat) (y : ItemPart) : ItemPart :=
  if y.state = .pending ∧ y.due ≤ v then { y with state := .due } else y

/-- One step of R157: DUE to OVERDUE. -/
def ItemPart.toOverdue (v grace : Nat) (y : ItemPart) : ItemPart :=
  if y.state = .due ∧ y.due + grace ≤ v then { y with state := .overdue } else y

/-- One step of R157: DEFERRED to OVERDUE; defer_until is present only when DEFERRED. -/
def ItemPart.endDefer (v : Nat) (y : ItemPart) : ItemPart :=
  if y.state = .deferred ∧ y.deferUntil.getD 0 ≤ v then { y with state := .overdue, deferUntil := none } else y

/-- The entry of a change of state between two steps, if any. -/
def changeEntry (n : Nat) (code : Nat) (a b : ItemPart) : List EntryBody :=
  if a.state = b.state then [] else [itemEntry n a.state.code b.state.code code]

/-- The evaluation of one slot at value and validity of the sample (R157); answers the slot and the entries made. -/
def Item.evaluate (smp : Sample) (n : Nat) (x : Item) : Item × List EntryBody :=
  match x.part with
  | none => (x, [])
  | some y =>
    if smp.valid x.inForce.kind then
      let v := smp.value x.inForce.kind
      let y1 := y.toDue v
      let y2 := y1.toOverdue v x.inForce.grace
      let y3 := y2.endDefer v
      ({ x with part := some y3 },
        changeEntry n x.inForce.code y y1 ++ changeEntry n x.inForce.code y1 y2 ++ changeEntry n x.inForce.code y2 y3)
    else (x, [])

/-- Run `f` over the slots in slot order from number `n`, gathering the entries. -/
def mapItems (f : Nat → Item → Item × List EntryBody) : Nat → List Item → List Item × List EntryBody
  | _, [] => ([], [])
  | n, x :: xs =>
    let r := f n x
    let rs := mapItems f (n + 1) xs
    (r.1 :: rs.1, r.2 ++ rs.2)

/-- Apply `f` to every slot and journal the entries in slot order. -/
def overItems (f : Nat → Item → Item × List EntryBody) (s : State) : State :=
  let r := mapItems f 0 s.ms.items
  (s.setMs { s.ms with items := r.1 }).journalAll r.2

/-- Whether a slot holds an OVERDUE item. -/
def Item.overdue (x : Item) : Bool := x.part.any (·.state = .overdue)

/-- The least cap below 100 among OVERDUE items (R161). -/
def maintCap (items : List Item) : Option Nat :=
  items.foldl (fun a x =>
    if x.overdue && x.inForce.cap < 100 then
      some (match a with | some c => min c x.inForce.cap | none => x.inForce.cap)
    else a) none

/-- Slot MAINT recomputed after an event (R161): a posting, a withdrawal, or nothing. -/
def recomputeMaint (s : State) : State :=
  if s.jobs.maint then
    match maintCap s.ms.items, s.ms.posted with
    | some c, p =>
      if p = some c then s else boardChange [⟨slotMaint, .post c .overdue⟩] (s.setMs { s.ms with posted := some c })
    | none, some _ => boardChange [⟨slotMaint, .withdraw⟩] (s.setMs { s.ms with posted := none })
    | none, none => s
  else s

/-- The records of group 13 that an event changed: the slots that differ, and record 33 when it differs (R164). -/
def changedSchedule (before after : State) : List Nat :=
  (setWhere 32 (fun n => tget before.ms.items n ≠ tget after.ms.items n))
    ++ (if scheduleImage before = scheduleImage after then [] else [33])

/-- An event of the schedule: its change, slot MAINT recomputed, and one publish of the changed records (R164). -/
def scheduleEvent (f : State → State) (s : State) : State :=
  let t := recomputeMaint (f s)
  let recs := changedSchedule s t
  if recs.isEmpty then t else startPublish 13 recs s t

/-- The sample of the sources as the Counters and Calendar hold them (R156). -/
def takeSample (s : State) : State :=
  s.setMs { s.ms with sample := ⟨s.cc.isSet, dayNumber s.cc.time, s.cc.restored, s.cc.seconds, s.cc.damage⟩ }

/-- The evaluation of every present item with a valid source, while the job is enabled (R157). -/
def evaluateItems (s : State) : State :=
  if s.jobs.maint then overItems (Item.evaluate s.ms.sample) s else s

/-- The Maintenance Schedule takes a second tick: sample (R156), definitions (R155), evaluation (R157), slot and publish. -/
def scheduleTick (s : State) : State :=
  scheduleEvent (fun s => evaluateItems (overItems Item.take (takeSample s))) s

/-- A value stored as a due is limited to 2^64 − 1 (R156). -/
def limited (n : Nat) : Nat := min max64 n

/-- The immediate judgement of R158: a PENDING item at or past its due becomes DUE while enabled and valid. -/
def judgeNow (enabled valid : Bool) (v : Nat) (y : ItemPart) : ItemPart :=
  if enabled && valid then y.toDue v else y

/-- A pull-forward signal: item, gear line, and the level entered (R52). -/
structure Pull where
  item : Nat
  line : Nat
  level : Level
deriving DecidableEq, Repr, Inhabited

/-- The lead an item keeps for a level (R154, R159). -/
def ItemDef.lead (d : ItemDef) (lv : Level) : Nat := if lv = .danger then d.leadDanger else d.leadAlert

/-- The table of R159 on a state part: what a signal makes of it, before R158. -/
def ItemPart.pull (d : ItemDef) (valid : Bool) (v : Nat) (g : Pull) (y : ItemPart) : ItemPart :=
  match y.state with
  | .pending =>
    if valid then
      let due := limited (v + d.lead g.level)
      if due < y.due then { y with due := due, pulledBy := some g.line } else y
    else y
  | .deferred =>
    if g.level = .danger then { y with state := .overdue, deferUntil := none, pulledBy := some g.line } else y
  | _ => y

/-- One signal on one slot: the slot and its PULL and ITEM entries (R159). -/
def Item.pull (smp : Sample) (n : Nat) (g : Pull) (x : Item) : Item × List EntryBody :=
  match x.part with
  | none => (x, [])
  | some y =>
    let valid := smp.valid x.inForce.kind
    let v := smp.value x.inForce.kind
    let y1 := y.pull x.inForce valid v g
    if y1 = y then (x, [])
    else
      let y2 := judgeNow true valid v y1
      ({ x with part := some y2 },
        { source := .ms, inst := some n, kind := .pull, fromState := some y.state.code, toState := some y2.state.code,
          value := g.line } :: changeEntry n x.inForce.code y y2)

/-- Take one signal: the slot it names changes and its entries are made (R159). -/
def pullOne (s : State) (g : Pull) : State :=
  let r := (tget s.ms.items g.item).pull s.ms.sample g.item g
  (s.setMs { s.ms with items := s.ms.items.set g.item r.1 }).journalAll r.2

/-- The signals of one completion in line order, slot MAINT recomputed once after all (R159, R161); dropped while disabled. -/
def takePulls (gs : List Pull) (s : State) : State :=
  if s.jobs.maint && !gs.isEmpty then scheduleEvent (fun s => gs.foldl pullOne s) s else s

/-- Whether RESTART REQUEST meets a restart lock (R162). -/
def maintLock (items : List Item) : Bool := items.any (fun x => x.overdue && x.inForce.lock)

/-- The state part after an accepted ITEM DONE (R165), before R158. -/
def ItemPart.done (v interval : Nat) (_ : ItemPart) : ItemPart :=
  ⟨.pending, limited (v + interval), some v, none, none, false⟩

/-- The state part after an accepted ITEM DEFER (R166). -/
def ItemPart.postpone (until' : Nat) (y : ItemPart) : ItemPart :=
  { y with state := .deferred, deferUntil := some until', mark := true }

end Sys2Proof.Machine
end

