-- ==== Sys2Proof/Machine/Icing.lean ====
section
/-! DEFINITION. The Icing Detector (chapter 6): freshness, intervals, the icing machine, its part of the second tick, and the six commands. -/

namespace Sys2Proof.Machine

/-! ### Freshness (R99, R100) -/

/-- An OPERATING entry (R100). -/
def operatingEntry (a b : Freshness) (seq : Nat) : EntryBody :=
  { source := .icd, kind := .operating, fromState := some a.code, toState := some b.code, value := seq }

/-- The open interval after an arrival; at 65535 arrivals it takes nothing (R103). -/
def Icd.sum (c : Icd) : Icd :=
  if c.arrivals < 65535 then
    { c with
      arrivals := c.arrivals + 1
      sumWind := c.sumWind + c.op.wind
      sumPower := c.sumPower + c.op.power
      sumTemp := c.sumTemp + c.op.temp
      sumHum := c.sumHum + c.op.humidity
      lastState := c.op.turbine
      lastSeq := c.op.sequence }
  else c

/-- The detector after an operating arrival (R100, R103). -/
def Icd.arrive (enabled : Bool) (c : Icd) : Icd :=
  let d := { c with age := 0, fresh := .fresh }
  if enabled then d.sum else d

/-- An operating arrival, after the record holds its values (R99, R100, R103). -/
def operatingArrived (s : State) : State :=
  let t := s.setIcd (s.icd.arrive s.jobs.icing)
  if s.icd.fresh = .stale then t.journal (operatingEntry .stale .fresh s.icd.op.sequence) else t

/-- Step 1 of a second tick: the age, and STALE when a FRESH record comes to 5 (R100, R104). -/
def freshnessTick (s : State) : State :=
  let age := satAdd 65535 s.icd.age 1
  if s.icd.fresh = .fresh ∧ age = 5 then
    ((s.setIcd { s.icd with age := age, fresh := .stale }).raise .opStale).journal
      (operatingEntry .fresh .stale s.icd.op.sequence)
  else s.setIcd { s.icd with age := age }

/-! ### Intervals (R105 to R108) -/

/-- The expected power at a mean wind `w` (R106). -/
def expectedPower (curve : List Nat) (w : Nat) : Int :=
  let b := w / 10
  if b ≤ 30 then
    (tget curve b : Int) + ((tget curve (b + 1) : Int) - (tget curve b : Int)) * ((w : Int) - 10 * (b : Int)) / 10
  else (tget curve 31 : Int)

/-- The deficit of a production interval (R107). -/
def deficit (exp meas : Int) : Int := clampInt 0 1000 (1000 * (exp - meas) / exp)

/-- The imbalance of an interval, `none` when unavailable (R108). -/
def imbalance (s : State) : Option Nat :=
  match s.icd.config.line with
  | none => none
  | some n =>
    let c := tget s.gcm.conds n
    if s.icd.base = 0 ∨ c.stale ∨ c.level = .unrated then none else some (100 * c.eCode / s.icd.base)

/-- An interval is void when nothing arrived or the record is STALE (R105). -/
def Icd.void (c : Icd) : Bool := decide (c.arrivals = 0) || decide (c.fresh = .stale)

/-- The first production condition that fails, NONE when all hold (R105). -/
def Icd.notProducing (c : Icd) (w : Nat) : NotProducing :=
  if c.lastState ≠ .producing then .state
  else if w < c.config.cutIn ∨ c.config.rated < w then .wind
  else if expectedPower c.curve w ≤ 0 then .noCurve
  else .none

/-- The result of an interval at its close (R105 to R108; log entry 26 on VOID). -/
def Icd.result (imb : Option Nat) (c : Icd) : IntervalResult :=
  if c.void then ⟨.void, .none, 0, 0, 0, 0, none, none, if c.arrivals = 0 then 0 else c.lastSeq⟩
  else
    let w := c.sumWind / c.arrivals
    let meas := c.sumPower / c.arrivals
    let t := c.sumTemp / (c.arrivals : Int)
    let rh := c.sumHum / c.arrivals
    match c.notProducing w with
    | .none =>
      let e := expectedPower c.curve w
      ⟨.production, .none, w, meas, t, rh, some (e.toNat, (deficit e meas).toNat), imb, c.lastSeq⟩
    | r => ⟨.notProducing, r, w, meas, t, rh, none, imb, c.lastSeq⟩

/-! ### The icing machine (R109 to R112) -/

/-- A count goes up by 1, saturating at 60, or becomes 0 (R109, R110). -/
def intervalCount (met : Bool) (n : Nat) : Nat := if met then satAdd 60 n 1 else 0

/-- What a judgement leaves: the counts, and the change of state with its journal value, if any. -/
structure Judgement where
  suspect : Nat
  ice : Nat
  clear : Nat
  change : Option (IcingState × Int)

/-- The journal value of a change that a count brings: the deficit of the closing interval (R112; log entry 42). -/
def Icd.countValue (c : Icd) (r : IntervalResult) : Int :=
  match r.prod with
  | some (_, d) => d
  | none => (Config.deficitNotComputed c.number).toInt

/-- The judgement of a close that is not void (R109, R110, R111). -/
def Icd.judge (c : Icd) (r : IntervalResult) : Judgement :=
  let stay : Judgement := ⟨c.suspect, c.ice, c.clear, none⟩
  match c.state with
  | .off => stay
  | .clear => { stay with change := if r.t ≤ c.config.tIce ∧ c.config.hIce ≤ r.rh then some (.watch, r.t) else none }
  | .watch =>
    if c.config.tIce + c.config.tHyst < r.t then { stay with change := some (.clear, r.t) }
    else
      match r.prod with
      | none => stay
      | some (_, d) =>
        let n := intervalCount (decide (c.config.dSuspect ≤ d)) c.suspect
        { stay with suspect := n, change := if c.config.ns ≤ n then some (.suspect, d) else none }
  | .suspect =>
    match r.imb.filter (fun n => decide (c.config.iIce ≤ n)) with
    | some n => { stay with change := some (.iced, n) }
    | none =>
      let i := match r.prod with | some (_, d) => intervalCount (decide (c.config.dIce ≤ d)) c.ice | none => c.ice
      let k := match r.prod with | some (_, d) => intervalCount (decide (d < c.config.dSuspect)) c.clear | none => c.clear
      { stay with
        ice := i
        clear := k
        change :=
          if c.config.ni ≤ i then some (.iced, c.countValue r)
          else if c.config.ns ≤ k then some (.watch, c.countValue r)
          else none }
  | .iced => { stay with change := if c.config.tThaw < r.t then some (.thaw, r.t) else none }
  | .thaw => { stay with change := if r.t ≤ c.config.tIce then some (.iced, r.t) else none }

/-- The detector after a change of state: counts 0, the thaw timer started by THAW and stopped by any other state (R111, R112). -/
def Icd.enter (st : IcingState) (c : Icd) : Icd :=
  { c with
    state := st
    suspect := 0
    ice := 0
    clear := 0
    thaw := if st = .thaw then some (c.config.thawTime * 60) else none }

/-- The ICING entry of a change of state (R112). -/
def icingEntry (a b : IcingState) (value : Int) : EntryBody :=
  { source := .icd, kind := .icing, fromState := some a.code, toState := some b.code, value := value }

/-- What a state entered hands the board (R112). -/
def icingPosting (c : IcingConfig) : IcingState → SlotChange
  | .iced => ⟨slotIcing, .post 0 .iced⟩
  | .thaw => ⟨slotIcing, .post 0 .thaw⟩
  | .suspect => ⟨slotIcing, .post c.suspectCap .suspect⟩
  | _ => ⟨slotIcing, .withdraw⟩

/-- A change of state together with `f`, journalled, handed to the board, and published to group 8 (R112, R113). -/
def icingChange (st : IcingState) (value : Int) (f : Icd → Icd) (s : State) : State :=
  startPublish 8 [1] s (boardChange [icingPosting s.icd.config st]
    ((s.setIcd (f (s.icd.enter st))).journal (icingEntry s.icd.state st value)))

/-- An empty open interval (R104, R114, R115; log entry 36 on the last arrival). -/
def Icd.reopen (c : Icd) : Icd :=
  { c with second := 0, arrivals := 0, sumWind := 0, sumPower := 0, sumTemp := 0, sumHum := 0 }

/-- The detector after a judgement's counts, the result stored, the interval number advanced, and a new interval open (R104, R105). -/
def Icd.closed (r : IntervalResult) (j : Judgement) (c : Icd) : Icd :=
  { c with suspect := j.suspect, ice := j.ice, clear := j.clear, number := (c.number + 1) % 65536, last := r }.reopen

/-- The close of an interval (R105, R109 to R113). -/
def closeInterval (s : State) : State :=
  let r := s.icd.result (imbalance s)
  let j := if s.icd.void then ⟨s.icd.suspect, s.icd.ice, s.icd.clear, none⟩ else s.icd.judge r
  match j.change with
  | none => publishing 8 [1] (fun s => s.setIcd (s.icd.closed r j)) s
  | some (st, value) => icingChange st value (fun c => c.closed r ⟨0, 0, 0, none⟩) s

/-- Step 2 of a second tick (R104). -/
def intervalTick (s : State) : State :=
  if s.jobs.icing then
    if 10 ≤ s.icd.second + 1 then closeInterval s else s.setIcd { s.icd with second := s.icd.second + 1 }
  else s

/-- The thaw timer expires (R111). -/
def thawExpire (s : State) : State :=
  if s.icd.state = .thaw then icingChange .clear 0 id s else s.setIcd { s.icd with thaw := none }

/-- Step 3 of a second tick, for a timer that ran before the tick and that step 2 has left running (R104; log entry 25). -/
def thawTick (before : Option Nat) (s : State) : State :=
  match before, s.icd.thaw with
  | some _, some n => if n ≤ 1 then thawExpire s else s.setIcd { s.icd with thaw := some (n - 1) }
  | _, _ => s

/-- The Icing Detector takes a second tick in three steps (R104). -/
def icingTick (s : State) : State := thawTick s.icd.thaw (intervalTick (freshnessTick s))

/-! ### Commands (R114 to R119) -/

/-- The detector at an accepted ENABLE ICING (R114). -/
def Icd.start (c : Icd) : Icd := { c.reopen with number := 0, last := .initial }

/-- ENABLE ICING (R114). -/
def enableIcing (s : State) : Reply :=
  if s.jobs.icing then refuse .wrongState s
  else if s.icd.curve.all (· = 0) then refuse .badConfig s
  else
    accept (startPublish 8 [1] s (boardChange [icingPosting s.icd.config .clear]
      (((s.setIcd (s.icd.enter .clear).start).setJobs { s.jobs with icing := true }).journal
        (icingEntry s.icd.state .clear 0))))

/-- DISABLE ICING (R115). -/
def disableIcing (s : State) : Reply :=
  if s.jobs.icing then
    accept (startPublish 8 [1] s (boardChange [icingPosting s.icd.config .off]
      (((s.setIcd (s.icd.enter .off).reopen).setJobs { s.jobs with icing := false }).journal
        (icingEntry s.icd.state .off 0))))
  else accept s

/-- ICING REPORT (R116). -/
def icingReport (s : State) : Reply :=
  match s.icd.state with
  | .off => refuse .wrongState s
  | .iced => accept s
  | _ => accept (icingChange .iced 0 id s)

/-- A side that lets ICING RELEASE pass: STANDSTILL or OFF (R117). -/
def ShaftSide.atRest (x : ShaftSide) : Bool := x.state = .standstill || x.state = .off

/-- ICING RELEASE (R117). -/
def icingRelease (s : State) : Reply :=
  if s.icd.state ≠ .iced ∧ s.icd.state ≠ .thaw then refuse .wrongState s
  else if s.sau.hs.atRest ∧ s.sau.ls.atRest then accept (icingChange .clear 0 id s)
  else refuse .notStandstill s

/-- The line LEARN BASELINE may read, with its E_code (R118). -/
def baselineSource (s : State) : Option (Nat × Nat) :=
  match s.icd.config.line with
  | none => none
  | some n =>
    let c := tget s.gcm.conds n
    if (s.icd.state = .clear ∨ s.icd.state = .watch) ∧ c.level ≠ .unrated ∧ c.stale = false then some (n, c.eCode) else none

/-- LEARN BASELINE (R118). -/
def learnBaseline (s : State) : Reply :=
  match baselineSource s with
  | none => refuse .wrongState s
  | some (n, b) =>
    accept (publishing 8 [1]
      (fun s => (s.setIcd { s.icd with base := b }).journal { source := .icd, inst := some n, kind := .baseline, value := b }) s)

/-- The first cause that denies a restart (R119). -/
def restartDenial (s : State) : Option Reason :=
  if s.icd.state = .iced ∨ s.icd.state = .thaw then some .icing
  else if s.lb.cap = 0 then some .capZero
  else if s.lb.line then some .stopLine
  else if maintLock s.ms.items then some .maintLock
  else none

/-- RESTART REQUEST (R119). -/
def restartRequest (s : State) : Reply :=
  match restartDenial s with
  | some r => deny r s
  | none => grant s

end Sys2Proof.Machine
end

