-- ==== Sys2Proof/Machine/Clock.lean ====
section
/-! DEFINITION. The timebase and the calendar (chapter 8): the second tick and its takers, PPS, clock loads, and CLOCK ARM. -/

namespace Sys2Proof.Machine

/-! ### The second tick (R137, R141) -/

/-- Ticks in a second. -/
def second : Nat := 40000000

/-- The last second the calendar can hold, 2099-12-31 23:59:59 (R141). -/
def lastSecond : Nat := 3155759999

/-- The calendar at a second tick (R141). -/
def calendarTick (s : State) : State :=
  if s.cc.time < lastSecond then s.setCc { s.cc with time := s.cc.time + 1 }
  else if s.cc.limit then s
  else
    ((s.setCc { s.cc with limit := true }).raise .calLimit).journal { source := .cc, kind := .calendar, value := 0 }

/-- The three takers of a second tick in one of their orders (R137, R128, R132; log entry 6). -/
def handTick (order : TickOrder) (s : State) : State :=
  match order with
  | .icdLbMs => scheduleTick (boardTick (icingTick s))
  | .icdMsLb => boardTick (scheduleTick (icingTick s))
  | .lbIcdMs => scheduleTick (icingTick (boardTick s))
  | .lbMsIcd => icingTick (scheduleTick (boardTick s))
  | .msIcdLb => boardTick (icingTick (scheduleTick s))
  | .msLbIcd => icingTick (boardTick (scheduleTick s))

/-- A second tick: the CC advances the calendar and the operating seconds, then hands the tick on (R137). -/
def issueTick (order : TickOrder) (s : State) : State := handTick order (countSecond (calendarTick s))

/-- The sub-second phase starts again at 0. -/
def zeroPhase (s : State) : State := s.setCc { s.cc with phase := 0 }

/-- The phase reaches a second: the clock moves there, a second is taken from the phase, and the tick is issued (R137). A phase that has
already passed a second keeps the rest (log entry 2). -/
def phaseTick (order : TickOrder) (s : State) : State :=
  let t := s.advance (second - s.cc.phase)
  issueTick order (t.setCc { t.cc with phase := t.cc.phase - second })

/-! ### Clock loads (R143, R144) -/

/-- A load: the time is the loaded value, LIMIT clear, phase 0, calendar SET, no set armed; the CLOCK entry carries the new time (R143). -/
def loadClock (value : Nat) (s : State) : State :=
  (s.setCc { s.cc with time := value, limit := false, phase := 0, isSet := true, armed := none }).journal
    { source := .cc, kind := .clock, fromState := some (twoCode s.cc.isSet), toState := some 1,
      value := (value : Int) - (s.cc.time : Int) }

/-- CLOCK ARM(mode) (R143). -/
def clockArm (mode : Nat) (s : State) : Reply :=
  if s.cc.armed.isSome then refuse .busy s
  else if 2 ≤ mode then refuse .badArgument s
  else if !s.cc.staging.valid then refuse .badArgument s
  else if mode = 0 then accept (loadClock s.cc.staging.seconds s)
  else accept (s.setCc { s.cc with armed := some ⟨s.cc.staging.seconds, s.now + 2 * second⟩ })

/-- An ARMED clock set is abandoned at its deadline (R145). -/
def abandonClock (s : State) : State :=
  ((s.setCc { s.cc with armed := none }).raise .clockSetAbandoned).journal { source := .cc, kind := .clockAbandon, value := 0 }

/-! ### The pulse-per-second input (R138, R139, R144) -/

/-- An edge inside half a second of the reference (R138). -/
def Cc.ppsHeldOff (now : Nat) (c : Cc) : Bool :=
  match c.ppsRef with
  | some r => decide (now < r + 20000000)
  | none => false

/-- The phase an event finds: at most 39,999,999 before the tick of the phase is taken (R139). -/
def Cc.foundPhase (c : Cc) : Nat := min 39999999 c.phase

/-- The offset an accepted edge records (R138). -/
def ppsOffset (p : Nat) : Int := if p < 20000000 then (p : Int) else (p : Int) - 40000000

/-- The CC after it accepts an edge (R138). -/
def Cc.acceptPps (now : Nat) (c : Cc) : Cc :=
  { c with ppsRef := some now, ppsAccepted := satAdd 65535 c.ppsAccepted 1, ppsOffset := Machine.ppsOffset c.foundPhase }

/-- The tick an edge issues early when it finds the phase past half, with the phase at 0 either way (R139, R144). -/
def alignTick (order : TickOrder) (s : State) : State :=
  if 20000000 ≤ s.cc.foundPhase then issueTick order (zeroPhase s) else zeroPhase s

/-- An accepted edge in one of its three cases (R138, R139, R144). -/
def takePps (order : TickOrder) (s : State) : State :=
  let t := s.setCc (s.cc.acceptPps s.now)
  match s.cc.armed with
  | some a => loadClock a.value (alignTick order t)
  | none => if s.cc.isSet then alignTick order t else t

/-! ### Meanings -/

/-- PPS_EDGE (R138): a falling edge does nothing; an edge too soon is ignored and counted. -/
def execPpsEdge (dt : Nat) (rising : Bool) (order : TickOrder) (s : State) : Host.Outcome State Fault Refusal :=
  let t := s.advance dt
  .next (if rising then
      if t.cc.ppsHeldOff t.now then t.setCc { t.cc with ppsIgnored := satAdd 65535 t.cc.ppsIgnored 1 } else takePps order t
    else t)

/-- SECOND_TICK (R137). -/
def execSecondTick (order : TickOrder) (s : State) : Host.Outcome State Fault Refusal := .next (phaseTick order s)

/-- CLOCK_SET_DEADLINE (R145): with no set armed no deadline passes (log entry 2). -/
def execClockSetDeadline (s : State) : Host.Outcome State Fault Refusal :=
  match s.cc.armed with
  | none => .next s
  | some a => .next (abandonClock (s.advanceTo a.deadline))

/-- ACK_TIMER_EXPIRY (R128, R129): the second tick that finds one second left; otherwise no tick brings the timer to 0 (log entry 5). -/
def execAckTimerExpiry (order : TickOrder) (s : State) : Host.Outcome State Fault Refusal :=
  .next (if s.lb.timer = some 1 then phaseTick order s else s)

/-- THAW_TIMER_EXPIRY (R104, R111): the second tick that finds one second left (log entry 5). -/
def execThawTimerExpiry (order : TickOrder) (s : State) : Host.Outcome State Fault Refusal :=
  .next (if s.icd.thaw = some 1 then phaseTick order s else s)

/-- OPERATING_RECORD_STALE (R100): the second tick that brings the age of a FRESH record to 5 (log entry 5). -/
def execOperatingRecordStale (order : TickOrder) (s : State) : Host.Outcome State Fault Refusal :=
  .next (if s.icd.fresh = .fresh ∧ s.icd.age = 4 then phaseTick order s else s)

/-- INTERVAL_CLOSE (R104, R105): the second tick that brings the second counter to 10 (log entry 5). -/
def execIntervalClose (order : TickOrder) (s : State) : Host.Outcome State Fault Refusal :=
  .next (if s.jobs.icing ∧ s.icd.second = 9 then phaseTick order s else s)

end Sys2Proof.Machine
end

