-- ==== Sys2Proof/Machine/Correlation.lean ====
section
/-! DEFINITION. The correlation arithmetic of chapter 2 that the gear frames and the grid windows share (R32 to R35). -/

namespace Sys2Proof.Machine

/-- round(32767 × cos(2πj/256)) for j = 0..64, the first quarter of the table of R33. -/
def cosQuarter : List Int :=
  [32767, 32757, 32728, 32678, 32609, 32521, 32412, 32285, 32137, 31971, 31785, 31580, 31356] ++
  [31113, 30852, 30571, 30273, 29956, 29621, 29268, 28898, 28510, 28105, 27683, 27245, 26790] ++
  [26319, 25832, 25329, 24811, 24279, 23731, 23170, 22594, 22005, 21403, 20787, 20159, 19519] ++
  [18868, 18204, 17530, 16846, 16151, 15446, 14732, 14010, 13279, 12539, 11793, 11039, 10278] ++
  [9512, 8739, 7962, 7179, 6393, 5602, 4808, 4011, 3212, 2410, 1608, 804, 0]

/-- c[j] of R33 for j = 0..255, from the first quarter by the symmetry of the cosine. -/
def cosTable (j : Nat) : Int :=
  if j ≤ 64 then tget cosQuarter j
  else if j ≤ 128 then -(tget cosQuarter (128 - j))
  else if j ≤ 192 then -(tget cosQuarter (j - 128))
  else tget cosQuarter (256 - j)

/-- s[j] equals c[(j + 192) mod 256] (R33). -/
def sinTable (j : Nat) : Int := cosTable ((j + 192) % 256)

/-- The table index of a phase: floor(phase / 256) (R32). -/
def tableIndex (phase : Nat) : Nat := phase / 256

/-- I and Q after a sample `x` at table index `j` (R34). -/
def IQ.add (a : IQ) (x : Int) (j : Nat) : IQ := ⟨a.i + x * cosTable j, a.q + x * sinTable j⟩

/-- floor(isqrt(I² + Q²) / (N × 1024)), before the clamp of R35. -/
def rawCode (n : Nat) (i q : Int) : Nat := isqrt ((i * i + q * q).toNat) / (n * 1024)

/-- The amplitude code of R35. -/
def amplitudeCode (n : Nat) (i q : Int) : Nat := min 65535 (rawCode n i q)

/-- OVER_RANGE: the min took 65535 in place of a greater value (R35). -/
def overRange (n : Nat) (i q : Int) : Bool := decide (65535 < rawCode n i q)

/-- The phase step of a gear line, q = k_q × 4096 / S (R32). -/
def phaseStep (kq s : Nat) : Nat := kq * 4096 / s

end Sys2Proof.Machine
end

