-- ==== Sys2Proof/Machine/Coincidence.lean ====
section
/-! DEFINITION. The Coincidence Watch (chapter 5): the mechanical table, the electrical snapshot, the evaluation and its sets. -/

namespace Sys2Proof.Machine

/-- The divisor of R85: 16 × 60 for HS, 256 × 60 for LS. -/
def mechDivisor : Side → Nat
  | .hs => 960
  | .ls => 15360

/-- f_m of R85; a quotient past the field's range is a free value (log entry 11). -/
def mechFrequency (sd : Side) (kq v : Nat) : Nat :=
  if kq * v / mechDivisor sd ≤ max32 then kq * v / mechDivisor sd
  else (Config.mechFrequencyOutOfRange (mechDivisor sd) kq v).toNat

/-- A line listed in a completion: its number, k_q as captured, and its code with OVER_RANGE, or NOT_EVALUABLE (R38). -/
structure ListedLine where
  line : Nat
  kq : Nat
  code : Option (Nat × Bool)
deriving DecidableEq, Repr, Inhabited

/-- The mechanical table after one listed line (R85). -/
def mechTake (sd : Side) (v : Nat) (xs : List (Option MechEntry)) (l : ListedLine) : List (Option MechEntry) :=
  match l.code with
  | some (c, o) => xs.set l.line (some ⟨sd, l.kq, c, o, v, mechFrequency sd l.kq v⟩)
  | none => xs

/-- R88: whether line `n` is visible. -/
def lineVisible (defs : List LineDef) (mech : List (Option MechEntry)) (n : Nat) : Bool :=
  match tget mech n with
  | some x =>
    let d := tget defs n
    d.enabled && decide (d.source = x.source) && decide (d.floor ≤ x.code)
  | none => false

/-- R89: whether watch entry `e` is visible. -/
def entryVisible (c : WatchConfig) (elec : Option ElecSnapshot) (e : Nat) : Bool :=
  match elec with
  | some x =>
    let slot := tget c.slot e
    decide (tget c.m e ≠ 0) && decide (tget x.slots slot ≠ 0) && x.aggs.any (fun xs => tget c.floor e ≤ tget xs slot)
  | none => false

/-- f_e = m[e] × f_win, with f_win taken from the snapshot (R89). While the snapshot is absent there is no f_win and an evaluation stores 0
(DESIGN CHOICE, log entry 43). -/
def entryFrequency (c : WatchConfig) (elec : Option ElecSnapshot) (e : Nat) : Nat :=
  match elec with
  | some x => tget c.m e * x.fWin
  | none => 0

/-- The frequency of a line's mechanical entry. -/
def lineFrequency (mech : List (Option MechEntry)) (n : Nat) : Nat := ((tget mech n).map (·.fm)).getD 0

/-- R90: a pair is live when both are visible and the frequencies differ by at most tol, exactly. -/
def pairLive (defs : List LineDef) (c : Cw) (n e : Nat) : Bool :=
  lineVisible defs c.mech n && entryVisible c.config c.elec e
    && decide (((lineFrequency c.mech n : Int) - entryFrequency c.config c.elec e).natAbs ≤ c.config.tol)

/-- The live pairs over 24 lines by 8 entries, in line order and then entry order. -/
def livePairs (defs : List LineDef) (c : Cw) : List (Nat × Nat) :=
  (List.range 24).flatMap (fun n => ((List.range 8).filter (pairLive defs c n)).map (fun e => (n, e)))

/-- Union of two sets of numbers below `k` (R90). -/
def setUnion (k : Nat) (a b : List Nat) : List Nat := setWhere k (fun n => a.contains n || b.contains n)

/-- The Coincidence Watch after an evaluation (R87 to R91), before journal, latches and board. -/
def Cw.evaluated (defs : List LineDef) (cause : EvalCause) (c : Cw) : Cw :=
  let pairs := livePairs defs c
  let lines := setWhere 24 (fun n => pairs.any (·.1 = n))
  let entries := setWhere 8 (fun e => pairs.any (·.2 = e))
  { c with
    count := (c.count + 1) % 65536
    cause := cause
    visLines := setWhere 24 (lineVisible defs c.mech)
    visEntries := setWhere 8 (entryVisible c.config c.elec)
    entryFreq := (List.range 8).map (entryFrequency c.config c.elec)
    liveLines := lines
    liveEntries := entries
    latchedLines := setUnion 24 c.latchedLines lines
    latchedEntries := setUnion 8 c.latchedEntries entries
    firstPair :=
      if c.latchedLines.isEmpty then
        match pairs with
        | p :: _ => some ⟨p.1, p.2, lineFrequency c.mech p.1, entryFrequency c.config c.elec p.2⟩
        | [] => c.firstPair
      else c.firstPair }

/-- Set the COINC latch of every port (R91, R178). -/
def setCoincLatches (s : State) : State := s.setRep (s.rep.map (fun r => { r with latch := true }))

/-- What latching brings: the COINC entry and every port's latch, when the latched sets go from empty to non-empty (R91). -/
def latchReport (before : Cw) (s : State) : State :=
  if before.latchedLines.isEmpty && !s.cw.latchedLines.isEmpty then
    setCoincLatches (s.journal
      { source := .cw, inst := some ((s.cw.firstPair.map (·.line)).getD 0), kind := .coinc, fromState := some 0,
        toState := some 1, value := ((s.cw.firstPair.map (·.entry)).getD 0 : Nat) })
  else s

/-- The posting of slot COINC after an evaluation (R92). -/
def coincPosting (before after : Cw) : List SlotChange :=
  if before.liveLines.isEmpty && !after.liveLines.isEmpty then [⟨slotCoinc, .post after.config.coincCap .live⟩]
  else if !before.liveLines.isEmpty && after.liveLines.isEmpty then [⟨slotCoinc, .withdraw⟩]
  else []

/-- The highest of the three current aggregates of a slot of the snapshot (R93). -/
def ElecSnapshot.highest (e : ElecSnapshot) (slot : Nat) : Nat := (e.aggs.map (tget · slot)).foldl max 0

/-- The highest aggregates of the entry records as a publish of them shows them, from the configuration and the snapshot at its event; 0
while the snapshot is absent (R93; DESIGN CHOICE, log entry 43). A write to record 0 is no publish and changes none of them. -/
def Cw.show (c : Cw) : Cw :=
  { c with
    entryHigh := (List.range 8).map (fun e =>
      match c.elec with
      | some x => x.highest (tget c.config.slot e)
      | none => 0) }

/-- Records 1..33 of group 7 (R93). -/
def coincRecords : List Nat := (List.range 33).map (· + 1)

/-- A table update `f` followed by an evaluation while the job is enabled (R87), its posting (R92), published as one change (R93). An update
that leaves the table as it found it is published too (DESIGN CHOICE, log entry 49). -/
def coincEvent (cause : EvalCause) (f : Cw → Cw) (s : State) : State :=
  let c := (f s.cw).show
  let t := if s.jobs.coinc then latchReport c (s.setCw (c.evaluated s.gcm.defs cause)) else s.setCw c
  startPublish 7 coincRecords s (boardChange (coincPosting s.cw t.cw) t)

/-- The Coincidence Watch takes an EVALUATED completion (R85, R87). -/
def coincTakeFrame (sd : Side) (v : Nat) (ls : List ListedLine) (s : State) : State :=
  coincEvent (match sd with | .hs => .gearHs | .ls => .gearLs) (fun c => { c with mech := ls.foldl (mechTake sd v) c.mech }) s

/-- The snapshot of a VALID block: its sequence, its slot list, its current aggregates, and f_win as it stands (R86). -/
def snapshotOf (g : Ghm) (slots : List Nat) : ElecSnapshot :=
  ⟨g.blockSeq, slots, [(tget g.blockChan 3).aggs, (tget g.blockChan 4).aggs, (tget g.blockChan 5).aggs], g.fWin⟩

/-- The Coincidence Watch takes a VALID block with the block slot list `slots` (R86, R87). -/
def coincTakeBlock (slots : List Nat) (s : State) : State :=
  coincEvent .grid (fun c => { c with elec := some (snapshotOf s.ghm slots) }) s

/-- The COINC entry from LATCHED to EMPTY (R95, R96). -/
def emptiedEntry : EntryBody := { source := .cw, kind := .coinc, fromState := some 1, toState := some 0, value := 0 }

/-- At an accepted DISABLE GEAR every mechanical entry becomes absent (R85); published without an evaluation (R93), also where
every entry was absent (DESIGN CHOICE, log entry 49). -/
def coincForgetLines (s : State) : State :=
  publishing 7 coincRecords (fun s => s.setCw ({ s.cw with mech := List.replicate 24 none } : Cw).show) s

/-- At an accepted DISABLE GRID the snapshot becomes absent (R86); published also where it was absent (DESIGN CHOICE, log entry 49). -/
def coincForgetGrid (s : State) : State := publishing 7 coincRecords (fun s => s.setCw ({ s.cw with elec := none } : Cw).show) s

end Sys2Proof.Machine
end

