-- ==== Sys2Proof/Machine/Gear.lean ====
section
/-! DEFINITION. The Gear Condition Monitor (chapter 3): smoothing, the level machine, stale lines, and what a completion hands on. -/

namespace Sys2Proof.Machine

/-- A count goes up by 1, saturating at 15, when its condition is met, and becomes 0 otherwise (R48, R49). -/
def persist (met : Bool) (n : Nat) : Nat := if met then satAdd 15 n 1 else 0

/-- E after an evaluation with code `c`: E + floor((T − E) / 2^α) with T = c × 256, rounding toward minus infinity (R45). -/
def smooth (alpha e c : Nat) : Nat := ((e : Int) + ((c * 256 : Nat) - (e : Int)) / (2 ^ alpha : Nat)).toNat

/-- The four comparisons of R47 on E_code, with OVER_RANGE above every threshold. -/
structure Meets where
  alert : Bool
  danger : Bool
  downDanger : Bool
  downAlert : Bool
deriving DecidableEq, Repr, Inhabited

/-- R47. -/
def LineDef.meets (d : LineDef) (eCode : Nat) (ovr : Bool) : Meets :=
  ⟨ovr || decide (d.alertOn ≤ eCode), ovr || decide (d.dangerOn ≤ eCode), !ovr && decide (eCode < d.dangerOff),
    !ovr && decide (eCode < d.alertOff)⟩

/-- A level change sets the three counts to 0 (R50). -/
def Cond.enter (c : Cond) (lv : Level) : Cond := { c with level := lv, alert := 0, danger := 0, down := 0 }

/-- The judgement of one evaluation on a rated line (R48, R49), E already smoothed. -/
def Cond.judge (d : LineDef) (ovr : Bool) (c : Cond) : Cond :=
  let m := d.meets c.eCode ovr
  match c.level with
  | .unrated => c
  | .normal =>
    let a := persist m.alert c.alert
    let g := persist m.danger c.danger
    if d.kp ≤ g then c.enter .danger
    else if d.kp ≤ a then c.enter .alert
    else { c with alert := a, danger := g, down := 0 }
  | .alert =>
    let g := persist m.danger c.danger
    let n := persist m.downAlert c.down
    if d.kp ≤ g then c.enter .danger
    else if d.kp ≤ n then c.enter .normal
    else { c with alert := 0, danger := g, down := n }
  | .danger =>
    let n := persist m.downDanger c.down
    if d.kp ≤ n then c.enter (if d.alertOff ≤ c.eCode then .alert else .normal)
    else { c with alert := 0, danger := 0, down := n }

/-- E smoothed on a rated line (R45), or started on an UNRATED one, which becomes NORMAL (R46). -/
def Cond.smoothed (d : LineDef) (code : Nat) (c : Cond) : Cond :=
  if c.level = .unrated then { c.enter .normal with e := code * 256 } else { c with e := smooth d.alpha c.e code }

/-- One evaluation of a line with code `code`, OVER_RANGE `ovr`, in the frame of sequence `seq` (R44 to R49). -/
def Cond.evaluate (d : LineDef) (code : Nat) (ovr : Bool) (seq : Nat) (c : Cond) : Cond :=
  { (c.smoothed d code).judge d ovr with stale := false, lastSeq := seq }

/-- A LEVEL entry of line `n` (R50). -/
def levelEntry (n : Nat) (a b : Level) (eCode : Nat) : EntryBody :=
  { source := .gcm, inst := some n, kind := .level, fromState := some a.code, toState := some b.code, value := eCode }

/-- The LEVEL entries of one evaluation, in order: UNRATED to NORMAL, then a judged change (R50). -/
def levelEntries (n : Nat) (d : LineDef) (code : Nat) (c after : Cond) : List EntryBody :=
  let m := c.smoothed d code
  (if c.level = m.level then [] else [levelEntry n c.level m.level m.eCode])
    ++ (if m.level = after.level then [] else [levelEntry n m.level after.level after.eCode])

/-- What the board is handed for a level (R51). -/
def levelPosting (n : Nat) (d : LineDef) (lv : Level) : SlotChange :=
  match lv with
  | .alert => ⟨glSlot n, .post d.alertCap .alert⟩
  | .danger => ⟨glSlot n, .post d.dangerCap .danger⟩
  | _ => ⟨glSlot n, .withdraw⟩

/-- The pull-forward signal of an evaluation that leaves the line in ALERT or DANGER after a change (R52). -/
def levelPull (n : Nat) (d : LineDef) (lv : Level) : List Pull :=
  match d.item with
  | some i => if lv = .alert ∨ lv = .danger then [⟨i, n, lv⟩] else []
  | none => []

/-- What a completion hands on, gathered in line order. -/
structure Handed where
  entries : List EntryBody := []
  postings : List SlotChange := []
  pulls : List Pull := []

/-- Take one listed line (R44 step 2): an evaluation, or held when NOT_EVALUABLE (R53). -/
def takeLine (defs : List LineDef) (seq : Nat) (acc : List Cond × Handed) (l : ListedLine) : List Cond × Handed :=
  match l.code with
  | none => acc
  | some (code, ovr) =>
    let d := tget defs l.line
    let c := tget acc.1 l.line
    let c' := c.evaluate d code ovr seq
    (acc.1.set l.line c',
      if c.level = c'.level then acc.2
      else
        { entries := acc.2.entries ++ levelEntries l.line d code c c'
          postings := acc.2.postings ++ [levelPosting l.line d c'.level]
          pulls := acc.2.pulls ++ levelPull l.line d c'.level })

/-- Take every listed line of a completion in line order. -/
def takeLines (defs : List LineDef) (seq : Nat) (ls : List ListedLine) (conds : List Cond) : List Cond × Handed :=
  ls.foldl (takeLine defs seq) (conds, {})

/-- The discard count of a source. -/
def Gcm.discards (g : Gcm) : Side → Nat
  | .hs => g.discHs
  | .ls => g.discLs

/-- Replace the discard count of a source. -/
def Gcm.setDiscards (g : Gcm) (sd : Side) (n : Nat) : Gcm :=
  match sd with
  | .hs => { g with discHs := n }
  | .ls => { g with discLs := n }

/-- The Gear Condition Monitor takes an EVALUATED completion: discard count 0, lines judged, LEVEL entries (R44, R50). -/
def gcmEvaluated (sd : Side) (seq : Nat) (ls : List ListedLine) (s : State) : State :=
  let r := takeLines s.gcm.defs seq ls s.gcm.conds
  (s.setGcm { s.gcm.setDiscards sd 0 with conds := r.1 }).journalAll r.2.entries

/-- The lines a counted discard makes STALE: enabled, of this source, STALE clear (R54). -/
def newlyStale (g : Gcm) (sd : Side) : List Nat :=
  setWhere 24 (fun n => (tget g.defs n).enabled && decide ((tget g.defs n).source = sd) && !(tget g.conds n).stale)

/-- Set STALE on the lines of a list. -/
def markStale (conds : List Cond) (ns : List Nat) : List Cond :=
  ns.foldl (fun cs n => tmod cs n (fun c => { c with stale := true })) conds

/-- Whether the discard now taken is counted: the side is TRACKING (R54). -/
def discardCounted (sd : Side) (s : State) : Bool := (s.sau.side sd).state = .tracking

/-- The lines the discard now taken makes STALE (R54). -/
def staleNow (sd : Side) (s : State) : List Nat :=
  if discardCounted sd s && decide (32 ≤ satAdd 65535 (s.gcm.discards sd) 1) then newlyStale s.gcm sd else []

/-- The Gear Condition Monitor takes a DISCARDED completion (R53, R54). -/
def gcmDiscarded (sd : Side) (s : State) : State :=
  if discardCounted sd s then
    let ns := staleNow sd s
    let g := { s.gcm.setDiscards sd (satAdd 65535 (s.gcm.discards sd) 1) with conds := markStale s.gcm.conds ns }
    if ns.isEmpty then s.setGcm g
    else ((s.setGcm g).raise .staleLines).journal
      { source := match sd with | .hs => .gcmHs | .ls => .gcmLs, kind := .stale, value := ns.length }
  else s

/-- Every line becomes UNRATED with E, counts and STALE cleared; the last evaluated sequence is kept (R59). -/
def Cond.unrate (c : Cond) : Cond := { Cond.initial with lastSeq := c.lastSeq }

/-- The LEVEL entries of DISABLE GEAR in line order (R59). -/
def unrateEntries (conds : List Cond) : List EntryBody :=
  (List.range 24).flatMap (fun n =>
    let c := tget conds n
    if c.level = .unrated then [] else [levelEntry n c.level .unrated c.eCode])

/-- The GL slots that DISABLE GEAR withdraws (R51, R59). -/
def unratePostings (conds : List Cond) : List SlotChange :=
  (List.range 24).flatMap (fun n =>
    let c := tget conds n
    if c.level = .alert ∨ c.level = .danger then [⟨glSlot n, .withdraw⟩] else [])

end Sys2Proof.Machine
end

