-- ==== Sys2Proof/Machine/Frames.lean ====
section
/-! DEFINITION. The Order Correlator (chapter 2): the link receiver's pairing, the frame engines, and the hand-off of completions. -/

namespace Sys2Proof.Machine

/-! ### Angle points (R22, R23, R34) -/

/-- The word of a channel in a sample set (R34). -/
def SampleSet.channel (x : SampleSet) : Nat → Int
  | 0 => x.a0
  | 1 => x.a1
  | 2 => x.a2
  | _ => x.a3

/-- A captured line after a sample: sums for an evaluable line, phase advanced (R32, R34). -/
def CapturedLine.sample (fs : Nat) (x : SampleSet) (l : CapturedLine) : CapturedLine :=
  if l.evaluable then
    let a := (IQ.mk l.i l.q).add (x.channel l.channel) (tableIndex l.phase)
    { l with i := a.i, q := a.q, phase := (l.phase + phaseStep l.kq fs) % 65536 }
  else l

/-- The frame after taking a sample; `fresh` tells whether NEW was set (R22, R23). An absent set cannot meet a COLLECTING
frame (R22); a state that no run reaches would take zeros. -/
def Frame.take (x : SampleSet) (fresh : Bool) (f : Frame) : Frame :=
  { f with
    lines := f.lines.map (CapturedLine.sample f.s x)
    samples := f.samples + 1
    reuse := if fresh then f.reuse else f.reuse + 1 }

/-- Whether a good set has arrived since the last angle point of the source. -/
def Link.isNew (x : Link) : Side → Bool
  | .hs => x.newHs
  | .ls => x.newLs

/-- The angle point clears NEW for its source (R22). -/
def Link.clearNew (x : Link) : Side → Link
  | .hs => { x with newHs := false }
  | .ls => { x with newLs := false }

/-! ### Frame start (R25, R26) -/

/-- The correlator configuration fields of a source: R, v_min, v_max. -/
def CorrConfig.of (c : CorrConfig) : Side → Nat × Nat × Nat
  | .hs => (c.rHs, c.vMinHs, c.vMaxHs)
  | .ls => (c.rLs, c.vMinLs, c.vMaxLs)

/-- C_hs = E_lines × m (R1). -/
def ShaftConfig.counts (c : ShaftConfig) : Nat := c.eLines * c.mode.counts

/-- S_hs = C_hs / D (R1). -/
def ShaftConfig.samples (c : ShaftConfig) : Nat := c.counts / c.dec

/-- Angle samples per revolution of a source: S_hs, or 128 (R26). -/
def samplesPerRev (c : ShaftConfig) : Side → Nat
  | .hs => c.samples
  | .ls => 128

/-- Whether line `n` is enabled and names the source (R25, R26). -/
def lineOf (defs : List LineDef) (sd : Side) (n : Nat) : Bool :=
  (tget defs n).enabled && decide ((tget defs n).source = sd)

/-- The lines a frame captures, in line order (R26). -/
def captureLines (defs : List LineDef) (sd : Side) (fs : Nat) : List CapturedLine :=
  (setWhere 24 (lineOf defs sd)).map (fun n =>
    let d := tget defs n
    ⟨n, d.channel, d.kq, decide (d.kq < 8 * fs), 0, 0, 0⟩)

/-- The frame as it starts (R26). -/
def startFrame (s : State) (sd : Side) : Frame :=
  let c := s.ocr.config.of sd
  let fs := samplesPerRev s.sau.active sd
  ⟨fs, c.1, c.2.1, c.2.2, s.ocr.config.tol, captureLines s.gcm.defs sd fs, 0, 0, 0, max32, 0, 0⟩

/-- The start conditions of R25 at a revolution event of speed `v`. -/
def mayStart (s : State) (sd : Side) (v : Nat) : Bool :=
  let c := s.ocr.config.of sd
  s.jobs.gear && decide ((s.sau.side sd).state = .tracking) && decide (c.2.1 ≤ v) && decide (v ≤ c.2.2) && s.ocr.link.up
    && (List.range 24).any (lineOf s.gcm.defs sd)

/-- A WAITING engine starts a frame when R25 holds. -/
def tryStart (sd : Side) (v : Nat) (s : State) : State :=
  let e := s.ocr.engine sd
  if !e.collecting && mayStart s sd v then
    s.setOcr (s.ocr.setEngine sd { e with collecting := true, frame := startFrame s sd })
  else s

/-! ### Completions (R28 to R31, R35 to R39) -/

/-- The source record of group 4 (R39). -/
def sourceRecord : Side → Nat
  | .hs => 24
  | .ls => 25

/-- P_mean = floor(period sum / R) over the revolutions taken (R30, R31). -/
def Frame.pMean (f : Frame) : Nat := f.periodSum / f.revs

/-- The engine WAITING after a completion: the frame sequence goes up by 1 and no in-frame item is left (log entry 15). -/
def Engine.wait (last : Completion) (e : Engine) : Engine :=
  { e with collecting := false, frame := .idle, seq := (e.seq + 1) % 65536, last := last }

/-- The engine after a DISCARDED completion of the frame `f` (R31). -/
def Engine.discard (cause : DiscardCause) (f : Frame) (e : Engine) : Engine :=
  let e1 := { e.wait (.discarded cause) with lastReuse := f.reuse }
  if f.revs = 0 then e1 else { e1 with pMean := f.pMean, lastMinP := f.minP, lastMaxP := f.maxP }

/-- End the frame of a source DISCARDED with a cause, `f` being the frame as the event leaves it: it is handed to the Gear Condition
Monitor and group 4 is published (R31, R39). -/
def discardAs (sd : Side) (cause : DiscardCause) (f : Frame) (s : State) : State :=
  publishing 4 (sourceRecord sd :: staleNow sd s)
    (fun s => gcmDiscarded sd (s.setOcr (s.ocr.setEngine sd ((s.ocr.engine sd).discard cause f)))) s

/-- End a COLLECTING frame DISCARDED with a cause (R28, R29). A WAITING engine is left as it is. -/
def discardFrame (sd : Side) (cause : DiscardCause) (s : State) : State :=
  if (s.ocr.engine sd).collecting then discardAs sd cause (s.ocr.engine sd).frame s else s

/-- v_frame of R37; past the field's range a free value (log entry 10). -/
def frameSpeed (sd : Side) (pMean : Nat) : Nat :=
  match sd with
  | .hs =>
    if pMean ≠ 0 ∧ 38400000000 / pMean ≤ max32 then 38400000000 / pMean else (Config.hsFrameSpeedOutOfRange pMean).toNat
  | .ls =>
    if pMean ≠ 0 ∧ 614400000000 / pMean ≤ max32 then 614400000000 / pMean else (Config.lsFrameSpeedOutOfRange pMean).toNat

/-- The frame length N = S × R (R26). -/
def Frame.length (f : Frame) : Nat := f.s * f.r

/-- The first failing completion test of R30, if any. -/
def Frame.failure (f : Frame) : Option DiscardCause :=
  if f.samples ≠ f.length then some .encoder
  else if f.tol * f.pMean < (f.maxP - f.minP) * 1024 then some .nonstationary
  else if f.length < f.reuse * 8 then some .undersampled
  else none

/-- The line as the completion lists it (R38). -/
def CapturedLine.listed (n : Nat) (l : CapturedLine) : ListedLine :=
  ⟨l.line, l.kq, if l.evaluable then some (amplitudeCode n l.i l.q, overRange n l.i l.q) else none⟩

/-- The line result of an EVALUATED completion (R36, R38, R39). -/
def CapturedLine.result (sd : Side) (n seq : Nat) (l : CapturedLine) (old : LineResult) : LineResult :=
  if l.evaluable then ⟨.evaluated, amplitudeCode n l.i l.q, overRange n l.i l.q, l.i, l.q, sd, seq⟩
  else { old with kind := .notEvaluable, source := sd, seq := seq }

/-- The line results after an EVALUATED completion. -/
def storeResults (sd : Side) (n seq : Nat) (ls : List CapturedLine) (rs : List LineResult) : List LineResult :=
  ls.foldl (fun rs l => tmod rs l.line (l.result sd n seq)) rs

/-- The engine after an EVALUATED completion (R37, R40). -/
def Engine.evaluated (sd : Side) (f : Frame) (e : Engine) : Engine :=
  { e.wait .evaluated with
    pMean := f.pMean
    lastMinP := f.minP
    lastMaxP := f.maxP
    vFrame := frameSpeed sd f.pMean
    lastReuse := f.reuse }

/-- An EVALUATED completion: codes and results (R35 to R38), the Gear Condition Monitor's taking (R44), the GL postings as one change
(R52, R121), the pull-forward signals (R159), the Coincidence Watch (R85), and the publish (R39); log entry 17 on the order. -/
def evaluateFrame (sd : Side) (f : Frame) (s : State) : State :=
  let e := (s.ocr.engine sd).evaluated sd f
  let ls := f.lines.map (CapturedLine.listed f.length)
  let handed := (takeLines s.gcm.defs e.seq ls s.gcm.conds).2
  let s1 := gcmEvaluated sd e.seq ls
    ((s.setOcr { s.ocr.setEngine sd e with results := storeResults sd f.length e.seq f.lines s.ocr.results }).raiseIf
      (f.lines.any (fun l => !l.evaluable)) .badOrder)
  startPublish 4 (sourceRecord sd :: f.lines.map (·.line)) s
    (coincTakeFrame sd e.vFrame ls (takePulls handed.pulls (boardChange handed.postings s1)))

/-- The frame after one more revolution (R27). -/
def Frame.revolve (p : Nat) (f : Frame) : Frame :=
  { f with revs := f.revs + 1, periodSum := f.periodSum + p, minP := min f.minP p, maxP := max f.maxP p }

/-- Store a frame in the COLLECTING engine of a source. -/
def setFrame (sd : Side) (f : Frame) (s : State) : State :=
  s.setOcr (s.ocr.setEngine sd { s.ocr.engine sd with frame := f })

/-- A revolution event reaches the engine of its source (R27, R30), and a WAITING engine is then tested as a start (R25; log entry 14).
While a completion's publish is in flight the masters see the engine as it stood before the event, its last revolution not yet counted
(R39; DESIGN CHOICE, log entry 18). -/
def revolutionToFrames (sd : Side) (p v : Nat) (s : State) : State :=
  match (s.ocr.engine sd).current with
  | none => tryStart sd v s
  | some f0 =>
    let f := f0.revolve p
    if v < f.vMin ∨ f.vMax < v then tryStart sd v (discardAs sd .speedBand f s)
    else if f.revs = f.r then
      match f.failure with
      | some cause => tryStart sd v (discardAs sd cause f s)
      | none => tryStart sd v (evaluateFrame sd f s)
    else setFrame sd f s

/-- An angle point reaches the engine of its source (R22, R23). -/
def angleToFrames (sd : Side) (s : State) : State :=
  let fresh := s.ocr.link.isNew sd
  let s1 := s.setOcr { s.ocr with link := s.ocr.link.clearNew sd }
  match (s.ocr.engine sd).current with
  | none => s1
  | some f =>
    if f.samples = f.length then discardFrame sd .encoder s1
    else setFrame sd (f.take (s.ocr.link.latest.getD ⟨0, 0, 0, 0⟩) fresh) s1

/-- A direction change discards the frames of both sources (R28). No rule gives an order between the two; the HS frame ends first, so its
publish and its STALE entry, if any, come first (R4, R28, R54; DESIGN CHOICE, log entry 31). -/
def directionToFrames (s : State) : State := discardFrame .ls .reverse (discardFrame .hs .reverse s)

/-- The engine ended by DISABLE GEAR: sequence and last completion only (R29). -/
def Engine.disable (e : Engine) : Engine :=
  if e.collecting then e.wait (.discarded .disabled) else e

/-! ### The mechanical sample link (R19 to R21) -/

/-- The link receiver after a good set at time `now` (R19). -/
def Link.accept (now : Nat) (ws : List LinkWord) (x : Link) : Link :=
  { x with
    up := true
    latest := some ⟨burstSample ws 0, burstSample ws 1, burstSample ws 2, burstSample ws 3⟩
    timer := some (now + 40000)
    good := (x.good + 1) % 4294967296
    newHs := true
    newLs := true }

/-- A LINK entry (R19, R21). -/
def linkEntry (a b : Bool) (dropped : Nat) : EntryBody :=
  { source := .ocrLink, kind := .link, fromState := some (linkCode a), toState := some (linkCode b), value := dropped }

/-- The arrival of a set (R19, R20). -/
def takeSet (ws : List LinkWord) (s : State) : State :=
  if burstGood 4 ws then
    let t := s.setOcr { s.ocr with link := s.ocr.link.accept s.now ws }
    if s.ocr.link.up then t else t.journal (linkEntry false true s.ocr.link.dropped)
  else
    (s.setOcr { s.ocr with link := { s.ocr.link with dropped := satAdd 65535 s.ocr.link.dropped 1 } }).raise .setDropped

/-- The expiry of the link timer (R21). -/
def linkExpire (s : State) : State :=
  let t := s.setOcr { s.ocr with link := { s.ocr.link with timer := none, up := false } }
  if s.ocr.link.up then
    discardFrame .ls .linkLost (discardFrame .hs .linkLost
      ((t.raise .linkLost).journal (linkEntry true false s.ocr.link.dropped)))
  else t

/-! ### Meanings -/

/-- SAMPLE_SET (R19, R20). -/
def execSampleSet (dt : Nat) (words : List LinkWord) (s : State) : Host.Outcome State Fault Refusal :=
  .next (takeSet words (s.advance dt))

/-- LINK_TIMER_EXPIRY (R21): the clock moves to the deadline; a stopped timer does not expire. -/
def execLinkTimerExpiry (s : State) : Host.Outcome State Fault Refusal :=
  match s.ocr.link.timer with
  | none => .next s
  | some d => .next (linkExpire (s.advanceTo d))

end Sys2Proof.Machine
end

