-- ==== Sys2Proof/Machine/Commands.lean ====
section
/-! DEFINITION. The commands of the GEAR, COINC and MAINT jobs, of the board, of the journal and of attention: what each owning block
checks, does and answers (R58, R59, R94 to R96, R131, R165 to R168, R174, R181). -/

namespace Sys2Proof.Machine

/-! ### GEAR (R58, R59) -/

/-- ENABLE GEAR (R58). -/
def enableGear (s : State) : Reply :=
  if s.jobs.gear then refuse .wrongState s
  else if !s.jobs.shaft then refuse .dependency s
  else if s.gcm.defs.any (·.enabled) then accept (s.setJobs { s.jobs with gear := true })
  else refuse .badConfig s

/-- The monitor at an accepted DISABLE GEAR (R59). -/
def Gcm.disable (g : Gcm) : Gcm := { g with conds := g.conds.map Cond.unrate, discHs := 0, discLs := 0 }

/-- The records DISABLE GEAR replaces: the source records it changes and the line records it changes (R29, R39, R56). -/
def disableGearRecords (s : State) : List Nat :=
  setWhere 24 (fun n => tget s.gcm.conds n ≠ (tget s.gcm.conds n).unrate)
    ++ (if s.ocr.hs.collecting ∨ s.gcm.discHs ≠ 0 then [24] else [])
    ++ (if s.ocr.ls.collecting ∨ s.gcm.discLs ≠ 0 then [25] else [])

/-- The effects of an accepted DISABLE GEAR: frames ended, LEVEL entries, lines UNRATED, GL slots withdrawn as one change, one publish, and
the mechanical table emptied (R29, R56, R59, R85, R121). -/
def stopGear (s : State) : State :=
  let t := boardChange (unratePostings s.gcm.conds)
    (((s.setOcr { s.ocr with hs := s.ocr.hs.disable, ls := s.ocr.ls.disable }).setGcm s.gcm.disable).journalAll
      (unrateEntries s.gcm.conds))
  let recs := disableGearRecords s
  coincForgetLines (if recs.isEmpty then t else startPublish 4 recs s t)

/-- DISABLE GEAR (R59). -/
def disableGear (s : State) : Reply :=
  if s.jobs.coinc then refuse .dependency s
  else if s.jobs.gear then accept ((stopGear s).setJobs { s.jobs with gear := false })
  else accept s

/-! ### COINC (R94 to R96) -/

/-- The watch with its sets empty (R94, R95). -/
def Cw.cleared (c : Cw) : Cw :=
  { c with liveLines := [], liveEntries := [], latchedLines := [], latchedEntries := [], firstPair := none }

/-- ENABLE COINC (R94). -/
def enableCoinc (s : State) : Reply :=
  if s.jobs.coinc then refuse .wrongState s
  else if !(s.jobs.gear && s.jobs.grid) then refuse .dependency s
  else if s.cw.config.m.all (· = 0) then refuse .badConfig s
  else
    accept (startPublish 7 [1] s (boardChange [⟨slotCoinc, .withdraw⟩]
      ((s.setCw { s.cw.cleared with count := 0 }).setJobs { s.jobs with coinc := true })))

/-- The COINC entry of a command that empties the latched sets (R95, R96). -/
def emptiedReport (before after : Cw) : List EntryBody :=
  if !before.latchedLines.isEmpty && after.latchedLines.isEmpty then [emptiedEntry] else []

/-- DISABLE COINC, in the order of R95: the live sets empty and slot COINC withdrawn, then the latched sets emptied with their entry, then the
job and the publish. The live words of records 2..33 then read 0, and the visible words stand (DESIGN CHOICE, log entry 55). -/
def disableCoinc (s : State) : Reply :=
  if s.jobs.coinc then
    let t := boardChange [⟨slotCoinc, .withdraw⟩] (s.setCw { s.cw with liveLines := [], liveEntries := [] })
    accept (startPublish 7 coincRecords s
      (((t.setCw t.cw.cleared.show).journalAll (emptiedReport s.cw s.cw.cleared)).setJobs { t.jobs with coinc := false }))
  else accept s

/-- The watch after CLEAR COINCIDENCE: each latched set takes the live set (R96). -/
def Cw.forget (c : Cw) : Cw :=
  { c with
    latchedLines := c.liveLines
    latchedEntries := c.liveEntries
    firstPair := if c.liveLines.isEmpty then none else c.firstPair }

/-- CLEAR COINCIDENCE (R96). -/
def clearCoincidence (s : State) : Reply :=
  if s.jobs.coinc then
    accept (publishing 7 coincRecords (fun s => (s.setCw s.cw.forget.show).journalAll (emptiedReport s.cw s.cw.forget)) s)
  else refuse .wrongState s

/-! ### ACK CAP (R131) -/

/-- ACK CAP(g) (R131). -/
def ackCap (g : Nat) (s : State) : Reply := if g = s.lb.gen then accept (acknowledge g s) else refuse .staleGeneration s

/-! ### MAINT (R165 to R168) -/

/-- The refusal of an item whose source is not valid (R165). -/
def invalidSource : ItemKind → Reason
  | .date => .clockUnset
  | _ => .unrestored

/-- The entry of a command on an item (R165, R166). -/
def itemCommandEntry (k : Kind) (n : Nat) (a b : ItemState) (code : Nat) : EntryBody :=
  { source := .ms, inst := some n, kind := k, fromState := some a.code, toState := some b.code, value := code }

/-- Put a state part in a slot. -/
def setPart (n : Nat) (y : ItemPart) (s : State) : State :=
  s.setMs { s.ms with items := tmod s.ms.items n (fun x => { x with part := some y }) }

/-- The effect of an accepted ITEM DONE, with the immediate judgement of R158 (R165): the DONE entry, then the ITEM entry of that judgement,
then slot MAINT (DEDUCED, log entry 24). -/
def finishItem (n : Nat) (y : ItemPart) (s : State) : State :=
  let x := tget s.ms.items n
  let v := s.ms.sample.value x.inForce.kind
  let y1 := y.done v x.inForce.interval
  let y2 := judgeNow s.jobs.maint (s.ms.sample.valid x.inForce.kind) v y1
  (setPart n y2 s).journalAll
    (itemCommandEntry .done n y.state .pending x.inForce.code :: changeEntry n x.inForce.code y1 y2)

/-- ITEM DONE(item) (R165). -/
def itemDone (n : Nat) (s : State) : Reply :=
  if 32 ≤ n then refuse .badArgument s
  else
    match (tget s.ms.items n).part with
    | none => refuse .wrongState s
    | some y =>
      if s.ms.sample.valid (tget s.ms.items n).inForce.kind then accept (scheduleEvent (finishItem n y) s)
      else refuse (invalidSource (tget s.ms.items n).inForce.kind) s

/-- The effect of an accepted ITEM DEFER (R166). -/
def postponeItem (n : Nat) (y : ItemPart) (s : State) : State :=
  (setPart n (y.postpone s.ms.deferArg) s).journal
    (itemCommandEntry .defer n y.state .deferred (tget s.ms.items n).inForce.code)

/-- ITEM DEFER(item, until), until read from the defer argument record (R166). -/
def itemDefer (n : Nat) (s : State) : Reply :=
  if 32 ≤ n then refuse .badArgument s
  else
    let x := tget s.ms.items n
    match x.part with
    | none => refuse .wrongState s
    | some y =>
      if y.state = .pending then refuse .wrongState s
      else if y.state = .deferred ∨ y.mark then refuse .alreadyDeferred s
      else if s.ms.deferArg ≤ s.ms.sample.value x.inForce.kind ∨ y.due + x.inForce.maxDefer < s.ms.deferArg then
        refuse .deferLimit s
      else accept (scheduleEvent (postponeItem n y) s)

/-- ENABLE MAINT (R167). -/
def enableMaint (s : State) : Reply :=
  if s.jobs.maint then refuse .wrongState s
  else if s.ms.items.any (·.inForce.present) then
    accept (scheduleEvent (fun s => evaluateItems (s.setJobs { s.jobs with maint := true })) s)
  else refuse .badConfig s

/-- The effects of an accepted DISABLE MAINT: the slot withdrawn when it was posted, the records published (R168). -/
def stopMaint (s : State) : State :=
  let t := (s.setJobs { s.jobs with maint := false }).setMs { s.ms with posted := none }
  startPublish 13 (changedSchedule s t) s (boardChange (if s.ms.posted.isSome then [⟨slotMaint, .withdraw⟩] else []) t)

/-- DISABLE MAINT (R168). -/
def disableMaint (s : State) : Reply := if s.jobs.maint then accept (stopMaint s) else accept s

/-! ### The journal and attention (R174, R181) -/

/-- JOURNAL ADVANCE(n) of port `p` (R174). -/
def journalAdvance (p : PortId) (n : Nat) (s : State) : Reply :=
  let r := s.rep.get p
  accept (s.setRepPort p { r with cursor := (r.cursor + min n (pendingCount s.ej r)) % seqModulus })

/-- The mask an argument word makes of a mask, `none` when the word is refused (R181, R199). -/
def maskAfter (arg : Word) (m : BitVec 4) : Option (BitVec 4) :=
  if bitsOf arg 13 4 ≠ 0 then none
  else
    match bitsOf arg 15 14 with
    | 1 => some (m ||| arg.setWidth 4)
    | 2 => some (m &&& ~~~(arg.setWidth 4))
    | _ => none

/-- ATTN MASK(op, causes) of port `p` (R181). -/
def attnMask (p : PortId) (arg : Word) (s : State) : Reply :=
  match maskAfter arg (s.rep.get p).mask with
  | some m => accept (s.setRepPort p { s.rep.get p with mask := m })
  | none => refuse .badArgument s

end Sys2Proof.Machine
end

