-- ==== Sys2Proof/Machine/Grid.lean ====
section
/-! DEFINITION. The Grid Harmonic Monitor (chapter 4): period and lock, convert strobes, grid frames, windows, blocks, conformance, and
the two commands of the GRID job. -/

namespace Sys2Proof.Machine

/-! ### Period and lock (R63, R64) -/

/-- The least and the greatest valid period (R63). -/
def periodValid (p : Nat) : Bool := decide (615385 ≤ p) && decide (p ≤ 888888)

/-- An edge inside the hold-off of the reference (R63). -/
def Ghm.heldOff (now : Nat) (g : Ghm) : Bool :=
  match g.edgeRef with
  | some r => decide (now < r + 200000)
  | none => false

/-- The new lock state of R64's table, from the period's validity and the valid count after it. -/
def LockState.next (valid : Bool) (count : Nat) (l : LockState) : LockState :=
  match l, valid with
  | .unlocked, true => if count = 2 then .locked else .unlocked
  | .unlocked, false => .unlocked
  | .locked, true => .locked
  | .locked, false => .freqOut
  | .freqOut, true => if count = 2 then .locked else .freqOut
  | .freqOut, false => .freqOut

/-- The lock machine takes a measured period (R63 step 1, R64). -/
def Ghm.measure (p : Nat) (g : Ghm) : Ghm :=
  let v := periodValid p
  let count := if v then satAdd 2 g.valid 1 else 0
  { g with measured := p, held := if v then p else g.held, valid := count, lock := g.lock.next v count }

/-- A LOCK entry (R66). -/
def lockEntry (a b : LockState) (value : Nat) : EntryBody :=
  { source := .ghm, kind := .lock, fromState := some a.code, toState := some b.code, value := value }

/-! ### Windows: sums (R71, R72) -/

/-- The table index of sample `p` at harmonic `h`: phase p × 512 × h mod 65536 (R72, R32). -/
def gridIndex (h p : Nat) : Nat := tableIndex (p * (512 * h) % 65536)

/-- Sums of one channel after sample `x` at position `p`; a disabled slot takes nothing (R72). -/
def addSlots (slots : List Nat) (p : Nat) (x : Int) (acc : List IQ) : List IQ :=
  List.zipWith (fun h a => if h = 0 then a else a.add x (gridIndex h p)) slots acc

/-- The window after position `i` of its cycle closes with the held samples (R70, R72). -/
def Window.close (samples : List Int) (missing : Bool) (i : Nat) (w : Window) : Window :=
  { w with
    positions := w.positions + 1
    missing := if missing then w.missing + 1 else w.missing
    acc := List.zipWith (addSlots w.slots (128 * w.cycles + i)) samples w.acc }

/-- A position closes with the held samples; outside a window nothing is summed (R70, R72). -/
def Ghm.closePosition (missing : Bool) (i : Nat) (g : Ghm) : Ghm :=
  { g with window := g.window.map (Window.close g.samples missing i) }

/-- The outstanding position, if any, closes as missing and becomes none (R68, R70). -/
def Ghm.closeOutstanding (g : Ghm) : Ghm :=
  match g.outstanding with
  | some i => { g.closePosition true i with outstanding := none }
  | none => g

/-- The strobe numbers a cycle has not issued (R68). -/
def unstrobed (g : Ghm) : List Nat :=
  match g.gen with
  | some x => (List.range (128 - x.next)).map (x.next + ·)
  | none => []

/-- An edge that closes a cycle: the outstanding and the unstrobed positions close as missing, in increasing order (R68). -/
def Ghm.closeCycle (g : Ghm) : Ghm := (unstrobed g).foldl (fun g i => g.closePosition true i) g.closeOutstanding

/-! ### Strobes (R67) -/

/-- The interval before strobe `i` of a cycle (R67). -/
def StrobeGen.interval (x : StrobeGen) (i : Nat) : Nat := if i ≤ x.r then x.base + 1 else x.base

/-- A cycle that starts at an edge issues strobe 0 (R67). -/
def Ghm.startCycle (now : Nat) (g : Ghm) : Ghm :=
  let x : StrobeGen := ⟨g.held, g.held / 128, g.held % 128, 1, none⟩
  { g with gen := some { x with due := some (now + x.interval 1) }, outstanding := some 0, strobes := g.strobes + 1 }

/-- The generator after it issues its next strobe (R67). -/
def StrobeGen.issue (now : Nat) (x : StrobeGen) : StrobeGen :=
  { x with next := x.next + 1, due := if x.next + 1 ≤ 127 then some (now + x.interval (x.next + 1)) else none }

/-- A strobe: a position still outstanding closes as missing, and the strobe number is outstanding (R67, R69). -/
def Ghm.strobe (now : Nat) (x : StrobeGen) (g : Ghm) : Ghm :=
  { g.closeOutstanding with gen := some (x.issue now), outstanding := some x.next, strobes := g.strobes + 1 }

/-! ### Windows: start and completion (R71, R73, R74) -/

/-- A window started at an edge with the slot list captured (R71). -/
def startWindow (now : Nat) (c : GridConfig) : Window :=
  ⟨1 :: c.h, now, 0, 0, 0, List.replicate 6 (List.replicate 16 ⟨0, 0⟩)⟩

/-- An IDLE window starts (R71). -/
def Ghm.openWindow (now : Nat) (g : Ghm) : Ghm :=
  match g.window with
  | some _ => g
  | none => { g with window := some (startWindow now g.config) }

/-- Positions of a window, the N of R73. -/
def windowLength : Nat := 1280

/-- The codes of one channel: the amplitude code of an enabled slot, 0 of a disabled one (R73). -/
def windowCodes (slots : List Nat) (acc : List IQ) : List Nat :=
  List.zipWith (fun h a => if h = 0 then 0 else amplitudeCode windowLength a.i a.q) slots acc

/-- The OVER_RANGE marks of one channel (R73). The mark of a disabled slot is clear (DESIGN CHOICE, log entry 54). -/
def windowMarks (slots : List Nat) (acc : List IQ) : List Bool :=
  List.zipWith (fun h a => if h = 0 then false else overRange windowLength a.i a.q) slots acc

/-- Σ of squares over the enabled slots 1..15 (R74). -/
def harmonicSum (slots codes : List Nat) : Nat :=
  ((List.zip slots codes).drop 1).foldl (fun a x => if x.1 = 0 then a else a + x.2 * x.2) 0

/-- THD and NO_FUND of a channel from its codes; below the floor THD is not computed and `old` stands (R74; log entry 41). -/
def thdOf (floor old : Nat) (slots codes : List Nat) : Nat × Bool :=
  let f := tget codes 0
  if f < floor then (old, true) else (min 65535 (10000 * isqrt (harmonicSum slots codes) / f), false)

/-- The fundamental floor of a channel's group (R74). -/
def GridConfig.fundFloor (c : GridConfig) (n : Nat) : Nat := if n < 3 then c.fundFloorV else c.fundFloorI

/-- The results of channel `n` of an EVALUATED window (R73, R74). -/
def Ghm.channelWindow (g : Ghm) (w : Window) (n : Nat) : ChannelWindow :=
  let acc := tget w.acc n
  let codes := windowCodes w.slots acc
  let t := thdOf (g.config.fundFloor n) (tget g.chan n).thd w.slots codes
  ⟨codes, windowMarks w.slots acc, t.1, t.2⟩

/-- The monitor after an EVALUATED completion at time `now` (R73, R74), before the block. -/
def Ghm.evaluateWindow (now : Nat) (w : Window) (g : Ghm) : Ghm :=
  let p := (now - w.start) / 10
  { g with
    window := none
    windowSeq := (g.windowSeq + 1) % 65536
    outcome := .evaluated
    degraded := decide (1 ≤ w.missing)
    cause := .none
    lastSlots := w.slots
    lastMissing := w.missing
    chan := (List.range 6).map (g.channelWindow w)
    pWin := p
    fWin := gridFrequency p }

/-- The monitor after a discarded completion: the outcome fields alone change, the last codes remain (R73, R75; log entry 28). -/
def Ghm.discardWindow (cause : WindowCause) (g : Ghm) : Ghm :=
  { g with window := none, windowSeq := (g.windowSeq + 1) % 65536, outcome := .discarded, degraded := false, cause := cause }

/-! ### Blocks (R76 to R78) -/

/-- Squares of a valid window's codes added to the block's sums (R76). -/
def addSquares (slots : List Nat) (codes sums : List Nat) : List Nat :=
  List.zipWith (fun h x => if h = 0 then x.2 else x.2 + x.1 * x.1) slots (List.zip codes sums)

/-- The block takes an EVALUATED completion of a window with slot list `slots` (R76). -/
def Block.takeWindow (slots : List Nat) (chan : List ChannelWindow) (b : Block) : Block :=
  let own := b.slots.getD slots
  if own = slots then
    { count := b.count + 1
      nValid := b.nValid + 1
      slots := some own
      sums := List.zipWith (fun c xs => addSquares slots c.codes xs) chan b.sums }
  else { b with count := b.count + 1 }

/-- The block counts a discarded completion (R76). -/
def Block.countOne (b : Block) : Block := { b with count := b.count + 1 }

/-- The aggregates of one channel: isqrt(floor(sum / n_valid)) of an enabled slot, 0 of a disabled one (R77). -/
def aggregates (slots : List Nat) (n : Nat) (sums : List Nat) : List Nat :=
  List.zipWith (fun h x => if h = 0 then 0 else isqrt (x / n)) slots sums

/-- The results of channel `n` of a VALID block (R77). -/
def Ghm.channelBlock (g : Ghm) (slots : List Nat) (n : Nat) : ChannelBlock :=
  let aggs := aggregates slots g.block.nValid (tget g.block.sums n)
  let t := thdOf (g.config.fundFloor n) (tget g.blockChan n).thd slots aggs
  ⟨aggs, t.1, t.2⟩

/-- Whether slot `n` of the block slot list is exceeded (R78). -/
def slotExceeded (c : GridConfig) (slots : List Nat) (chan : List ChannelBlock) (n : Nat) : Bool :=
  decide (n ≠ 0) && decide (tget slots n ≠ 0)
    && ((chan.take 3).any (fun x => tget c.limitV (n - 1) < tget x.aggs n)
      || (chan.drop 3).any (fun x => tget c.limitI (n - 1) < tget x.aggs n))

/-- The THD mark of channel `n` after a VALID block; with NO_FUND it keeps its mark (R78). -/
def thdMark (c : GridConfig) (chan : List ChannelBlock) (old : List Bool) (n : Nat) : Bool :=
  let x := tget chan n
  if x.noFund then tget old n else decide ((if n < 3 then c.thdLimitV else c.thdLimitI) < x.thd)

/-- The number of exceedances (R78). -/
def exceedances (slots thd : List Bool) : Nat := slots.countP id + thd.countP id

/-- The monitor with the results and marks of a VALID block (R77, R78), before conformance. -/
def Ghm.judgeBlock (slots : List Nat) (g : Ghm) : Ghm :=
  let chan := (List.range 6).map (g.channelBlock slots)
  { g with
    blockChan := chan
    exceeded := (List.range 16).map (slotExceeded g.config slots chan)
    thdMarks := (List.range 6).map (thdMark g.config chan g.thdMarks)
    blockOutcome := .valid
    blockSeq := (g.blockSeq + 1) % 65536
    block := .empty }

/-- Conformance after a VALID block that shows an exceedance or not (R79). -/
def Ghm.conform (shows : Bool) (g : Ghm) : Ghm :=
  if g.exceeding then
    let n := if shows then 0 else satAdd 20 g.clearCount 1
    if g.config.kg ≤ n then { g with exceeding := false, exceedCount := 0, clearCount := 0 }
    else { g with exceedCount := 0, clearCount := n }
  else
    let n := if shows then satAdd 20 g.exceedCount 1 else 0
    if g.config.kg ≤ n then { g with exceeding := true, exceedCount := 0, clearCount := 0 }
    else { g with exceedCount := n, clearCount := 0 }

/-- A CONFORMANCE entry (R79). -/
def conformanceEntry (a b : Bool) (value : Nat) : EntryBody :=
  { source := .ghm, kind := .conformance, fromState := some (twoCode a), toState := some (twoCode b), value := value }

/-- What a conformance change journals (R79). -/
def conformanceReport (before after : Ghm) : List EntryBody :=
  if before.exceeding = after.exceeding then []
  else [conformanceEntry before.exceeding after.exceeding (exceedances after.exceeded after.thdMarks)]

/-- What a conformance change hands the board (R79). -/
def conformancePosting (before after : Ghm) : List SlotChange :=
  if before.exceeding = after.exceeding then []
  else if after.exceeding then [⟨slotGrid, .post after.config.gridCap .exceeding⟩]
  else [⟨slotGrid, .withdraw⟩]

/-- The monitor after a VALID block and its conformance. -/
def Ghm.validBlock (slots : List Nat) (g : Ghm) : Ghm :=
  let j := g.judgeBlock slots
  j.conform (decide (0 < exceedances j.exceeded j.thdMarks))

/-- The monitor after an INVALID block: results and counts are held (R77). -/
def Ghm.invalidBlock (g : Ghm) : Ghm :=
  { g with blockOutcome := .invalid, blockSeq := (g.blockSeq + 1) % 65536, block := .empty }

/-- The records a block completion replaces (R75). -/
def blockRecords : List Nat := [6, 7, 8, 9, 10, 11, 12]

/-- The records a window completion replaces (R75). -/
def windowRecords : List Nat := [0, 1, 2, 3, 4, 5, 12]

/-- The evaluation of a block and its hand-off in the order of R80: judgement and conformance with its posting, publish, Coincidence
Watch. -/
def evaluateBlock (s : State) : State :=
  if s.ghm.block.nValid < 8 then publishing 6 blockRecords (fun s => s.setGhm s.ghm.invalidBlock) s
  else
    let slots := s.ghm.block.slots.getD (List.replicate 16 0)
    let g := s.ghm.validBlock slots
    let t := boardChange (conformancePosting s.ghm g) ((s.setGhm g).journalAll (conformanceReport s.ghm g))
    coincTakeBlock slots (startPublish 6 blockRecords s t)

/-- The fifteenth completion evaluates the block (R76). -/
def tryBlock (s : State) : State := if 15 ≤ s.ghm.block.count then evaluateBlock s else s

/-- An EVALUATED completion: results, block, publish (R73, R75, R76). -/
def windowEvaluated (w : Window) (s : State) : State :=
  tryBlock (publishing 6 windowRecords
    (fun s =>
      let g := s.ghm.evaluateWindow s.now w
      s.setGhm { g with block := g.block.takeWindow w.slots g.chan }) s)

/-- A discarded completion that counts for the block (R73, R75, R76). An IDLE window is not discarded. -/
def windowDiscarded (cause : WindowCause) (s : State) : State :=
  if s.ghm.window.isSome then
    tryBlock (publishing 6 windowRecords
      (fun s =>
        let g := s.ghm.discardWindow cause
        s.setGhm { g with block := g.block.countOne }) s)
  else s

/-- The edge that closes the tenth cycle completes the window (R73). -/
def completeWindow (w : Window) (s : State) : State :=
  if 32 < w.missing then windowDiscarded .missing s else windowEvaluated w s

/-- A closed cycle counts in a COLLECTING window, and the tenth completes it (R73). The completion's publish holds the window back as it stood
before this count (log entry 18). -/
def countCycle (s : State) : State :=
  match s.ghm.window with
  | none => s
  | some w =>
    let w' := { w with cycles := w.cycles + 1 }
    if w'.cycles < 10 then s.setGhm { s.ghm with window := some w' } else completeWindow w' s

/-! ### Edges (R63 to R68) -/

/-- Leaving LOCKED: the generator stops, the outstanding position closes, a COLLECTING window is discarded (R66, R68). -/
def leaveLocked (cause : WindowCause) (s : State) : State :=
  windowDiscarded cause (s.setGhm { s.ghm.closeOutstanding with gen := none })

/-- An edge that leaves the lock state LOCKED closes the running cycle, if any, and starts the next (R67, R68, R71). -/
def lockedEdge (s : State) : State :=
  let t := if s.ghm.gen.isSome then countCycle (s.setGhm s.ghm.closeCycle) else s
  t.setGhm ((t.ghm.startCycle t.now).openWindow t.now)

/-- What a change of lock state reports at an edge (R66). -/
def lockReport (a b : LockState) (value : Nat) (s : State) : State :=
  if a = b then s else (s.raiseIf (b = .freqOut) .freqOut).journal (lockEntry a b value)

/-- An accepted edge becomes the reference and restarts the loss timer (R63 step 3). -/
def Ghm.refer (now : Nat) (g : Ghm) : Ghm := { g with edgeRef := some now, loss := some (now + 2000000) }

/-- An accepted edge that measures period `p` (R63 to R68). -/
def measuredEdge (p : Nat) (s : State) : State :=
  let t := lockReport s.ghm.lock (s.ghm.measure p).lock p (s.setGhm ((s.ghm.measure p).refer s.now))
  if t.ghm.lock = .locked then lockedEdge t
  else if s.ghm.lock = .locked then leaveLocked .freqOut t
  else t

/-- A rising GZX edge while GRID is enabled (R63). -/
def takeZeroCross (s : State) : State :=
  if s.ghm.heldOff s.now then s.setGhm { s.ghm with ignored := satAdd 65535 s.ghm.ignored 1 }
  else
    match s.ghm.edgeRef with
    | some r => measuredEdge (s.now - r) s
    | none => s.setGhm (s.ghm.refer s.now)

/-- The loss timer expires (R65, R66). -/
def lossExpire (s : State) : State :=
  let t := s.setGhm { s.ghm with loss := none, edgeRef := none, valid := 0, lock := .unlocked }
  if s.ghm.lock = .unlocked then t
  else
    let u := (t.raise .unlocked).journal (lockEntry s.ghm.lock .unlocked 0)
    if s.ghm.lock = .locked then leaveLocked .unlocked u else u

/-! ### Grid frames (R69, R70) -/

/-- A dropped frame (R70). -/
def dropGridFrame (s : State) : State :=
  (s.setGhm { s.ghm with droppedFrames := satAdd 65535 s.ghm.droppedFrames 1 }).raise .gridFrameDropped

/-- A good frame taken for the outstanding position `i` (R69). -/
def Ghm.takeFrame (ws : List LinkWord) (i : Nat) (g : Ghm) : Ghm :=
  { ({ g with samples := (List.range 6).map (burstSample ws) } : Ghm).closePosition false i with outstanding := none }

/-- A grid frame arrives while GRID is enabled (R69, R70). -/
def takeGridFrame (ws : List LinkWord) (s : State) : State :=
  match s.ghm.outstanding with
  | some i => if burstGood 6 ws then s.setGhm (s.ghm.takeFrame ws i) else dropGridFrame s
  | none => dropGridFrame s

/-! ### Commands (R81, R82) -/

/-- The monitor at an accepted ENABLE GRID (R81). -/
def Ghm.enable (g : Ghm) : Ghm :=
  { g with
    lock := .unlocked
    edgeRef := none
    valid := 0
    loss := none
    gen := none
    outstanding := none
    window := none
    block := .empty
    exceeding := false
    exceedCount := 0
    clearCount := 0 }

/-- ENABLE GRID (R81). -/
def enableGrid (s : State) : Reply :=
  if s.jobs.grid then refuse .wrongState s
  else if s.ghm.config.h.all (· = 0) then refuse .badConfig s
  else accept ((s.setGhm s.ghm.enable).setJobs { s.jobs with grid := true })

/-- The monitor at an accepted DISABLE GRID; a COLLECTING window ends DISABLED (R82). -/
def Ghm.disable (g : Ghm) : Ghm := if g.window.isSome then (g.discardWindow .disabled).enable else g.enable

/-- The journal entries of DISABLE GRID (R82). -/
def disableGridEntries (g : Ghm) : List EntryBody :=
  (if g.lock = .unlocked then [] else [lockEntry g.lock .unlocked 0])
    ++ (if g.exceeding then [conformanceEntry true false 0] else [])

/-- The effects of an accepted DISABLE GRID in the order of R82: states, entries and slot, then record 12 published, with the outcome fields of
records 0..5 when a window was discarded; the watch's snapshot becomes absent (R86). -/
def stopGrid (s : State) : State :=
  let t := boardChange (if s.ghm.exceeding then [⟨slotGrid, .withdraw⟩] else [])
    ((s.setGhm s.ghm.disable).journalAll (disableGridEntries s.ghm))
  coincForgetGrid (startPublish 6 (if s.ghm.window.isSome then windowRecords else [12]) s t)

/-- DISABLE GRID (R82). -/
def disableGrid (s : State) : Reply :=
  if s.jobs.coinc then refuse .dependency s
  else if s.jobs.grid then accept ((stopGrid s).setJobs { s.jobs with grid := false })
  else accept s

/-! ### Meanings -/

/-- GZX_EDGE (R63 to R68): a falling edge does nothing; while GRID is disabled edges are ignored. -/
def execGzxEdge (dt : Nat) (rising : Bool) (s : State) : Host.Outcome State Fault Refusal :=
  let t := s.advance dt
  .next (if rising ∧ t.jobs.grid then takeZeroCross t else t)

/-- LOSS_TIMER_EXPIRY (R65): a stopped timer does not expire (log entry 2). -/
def execLossTimerExpiry (s : State) : Host.Outcome State Fault Refusal :=
  match s.ghm.loss with
  | none => .next s
  | some d => .next (lossExpire (s.advanceTo d))

/-- STROBE (R67): the next strobe of the cycle falls due; a generator that waits for an edge issues nothing. -/
def execStrobe (s : State) : Host.Outcome State Fault Refusal :=
  match s.ghm.gen with
  | none => .next s
  | some x =>
    match x.due with
    | none => .next s
    | some d =>
      let t := s.advanceTo d
      .next (t.setGhm (t.ghm.strobe t.now x))

/-- GRID_FRAME (R69, R70): while GRID is disabled a frame is ignored and counts nothing. -/
def execGridFrame (dt : Nat) (words : List LinkWord) (s : State) : Host.Outcome State Fault Refusal :=
  let t := s.advance dt
  .next (if t.jobs.grid then takeGridFrame words t else t)

end Sys2Proof.Machine
end

