-- ==== Sys2Proof/Machine/Records.lean ====
section
/-! DEFINITION. Writes to the records of RECORD space (R189): each record's fields, clamps, orders and enumeration checks, what a write
hands its owning block, and the completion that changes every written record as one change. -/

namespace Sys2Proof.Machine

/-! ### Fields of a written record -/

/-- What the write left for word `n`. -/
def maskedAt (ms : List MaskedWord) (n : Nat) : MaskedWord := ms.getD n MaskedWord.blank

/-- Whether some byte of `k` words from word `n` is written. -/
def wrote (ms : List MaskedWord) (n k : Nat) : Bool := (List.range k).any (fun i => (maskedAt ms (n + i)).written)

/-- A field in `k` words from word `n`: its new value when some byte of it is written, else the value held (R189). -/
def field {α : Type} (ms : List MaskedWord) (n k : Nat) (old new : α) : α := if wrote ms n k then new else old

/-- A field in the high byte of word `n`. -/
def fieldHi {α : Type} (ms : List MaskedWord) (n : Nat) (old new : α) : α := if (maskedAt ms n).hi then new else old

/-- A field in the low byte of word `n`. -/
def fieldLo {α : Type} (ms : List MaskedWord) (n : Nat) (old new : α) : α := if (maskedAt ms n).lo then new else old

/-- One-word fields from word `n`, as many as `old` holds, each passed through its clamp `f`. -/
def fieldList (ms : List MaskedWord) (ws : List Word) (n : Nat) (f : Nat → Nat) (old : List Nat) : List Nat :=
  (List.range old.length).map (fun i => field ms (n + i) 1 (tget old i) (f (numAt ws (n + i))))

/-- Fields of `k` words each from word `n`. -/
def fieldWide (ms : List MaskedWord) (ws : List Word) (n k : Nat) (old : List Nat) : List Nat :=
  (List.range old.length).map (fun i => field ms (n + k * i) k (tget old i) (wideAt ws (n + k * i) k))

/-- Whether a written enumeration names none of its values. -/
def badEnum {α : Type} (touched : Bool) (x : Option α) : Bool := touched && x.isNone

/-! ### Group 2: shaft configuration (R1, R2) -/

/-- E_lines as R1 allows it. -/
def eLinesOf (n : Nat) : Option Nat := if n = 256 ∨ n = 512 ∨ n = 1024 ∨ n = 2048 then some n else none

/-- D as R1 allows it. -/
def decOf (n : Nat) : Option Nat :=
  if n = 1 ∨ n = 2 ∨ n = 4 ∨ n = 8 ∨ n = 16 ∨ n = 32 ∨ n = 64 then some n else none

/-- The shaft configuration a write leaves (R1). -/
def ShaftConfig.write (ms : List MaskedWord) (c : ShaftConfig) : ShaftConfig :=
  let ws := overlay (shaftConfigImage c) ms
  { eLines := field ms 0 1 c.eLines ((eLinesOf (numAt ws 0)).getD c.eLines)
    mode := field ms 1 1 c.mode ((DecodeMode.ofCode (numAt ws 1)).getD c.mode)
    dec := field ms 2 1 c.dec ((decOf (numAt ws 2)).getD c.dec)
    holdOff := field ms 3 1 c.holdOff (min 100 (numAt ws 3))
    quadA := field ms 4 1 c.quadA (bitOf (wordAt ws 4) 1)
    quadB := field ms 4 1 c.quadB (bitOf (wordAt ws 4) 0)
    tStand := field ms 5 1 c.tStand (clampNat 1 60 (numAt ws 5))
    gearRatio := field ms 6 1 c.gearRatio (numAt ws 6) }

/-- Whether the write holds an invalid enumeration (R1). -/
def ShaftConfig.bad (ms : List MaskedWord) (c : ShaftConfig) : Bool :=
  let ws := overlay (shaftConfigImage c) ms
  badEnum (wrote ms 0 1) (eLinesOf (numAt ws 0)) || badEnum (wrote ms 1 1) (DecodeMode.ofCode (numAt ws 1))
    || badEnum (wrote ms 2 1) (decOf (numAt ws 2))

/-- A permitted write to the shaft configuration; while SHAFT is enabled it is discarded whole (R2). -/
def writeShaft (ms : List MaskedWord) (s : State) : State :=
  if s.jobs.shaft then s.raise .writeWhileEnabled
  else (s.setSau { s.sau with config := s.sau.config.write ms }).raiseIf (s.sau.config.bad ms) .badValue

/-! ### Group 3: line definitions and correlator configuration (R24, R42, R43) -/

/-- The three steps of R43. -/
def LineDef.order (d : LineDef) : LineDef :=
  let on := max d.dangerOn d.alertOn
  { d with dangerOn := on, alertOff := min d.alertOff d.alertOn, dangerOff := min d.dangerOff on }

/-- Channel codes 0..3 (R42). -/
def channelOf (n : Nat) : Option Nat := if n < 4 then some n else none

/-- The line definition a write leaves (R42, R43). An absent item link keeps no number (DESIGN CHOICE, log entry 53). -/
def LineDef.write (ms : List MaskedWord) (d : LineDef) : LineDef :=
  let ws := overlay (lineDefImage d) ms
  LineDef.order
    { enabled := fieldHi ms 0 d.enabled (bitOf (wordAt ws 0) 15)
      source := fieldHi ms 0 d.source ((sideOfCode (bitsOf (wordAt ws 0) 9 8)).getD d.source)
      channel := fieldLo ms 0 d.channel ((channelOf (bitsOf (wordAt ws 0) 2 0)).getD d.channel)
      kq := field ms 1 1 d.kq (clampNat 1 16383 (numAt ws 1))
      alertOn := field ms 2 1 d.alertOn (numAt ws 2)
      alertOff := field ms 3 1 d.alertOff (numAt ws 3)
      dangerOn := field ms 4 1 d.dangerOn (numAt ws 4)
      dangerOff := field ms 5 1 d.dangerOff (numAt ws 5)
      alpha := fieldHi ms 6 d.alpha (min 7 (bitsOf (wordAt ws 6) 15 8))
      kp := fieldLo ms 6 d.kp (clampNat 1 15 (bitsOf (wordAt ws 6) 7 0))
      alertCap := fieldHi ms 7 d.alertCap (min 100 (bitsOf (wordAt ws 7) 15 8))
      dangerCap := fieldLo ms 7 d.dangerCap (min 100 (bitsOf (wordAt ws 7) 7 0))
      item := field ms 8 1 d.item (if bitOf (wordAt ws 8) 15 then some (bitsOf (wordAt ws 8) 4 0) else none)
      floor := field ms 9 1 d.floor (numAt ws 9) }

/-- Whether the write holds an invalid source or channel code (R42). -/
def LineDef.bad (ms : List MaskedWord) (d : LineDef) : Bool :=
  let ws := overlay (lineDefImage d) ms
  badEnum (maskedAt ms 0).hi (sideOfCode (bitsOf (wordAt ws 0) 9 8))
    || badEnum (maskedAt ms 0).lo (channelOf (bitsOf (wordAt ws 0) 2 0))

/-- A permitted write to line definition `n` (R42). -/
def writeLine (n : Nat) (ms : List MaskedWord) (s : State) : State :=
  (s.setGcm { s.gcm with defs := tmod s.gcm.defs n (LineDef.write ms) }).raiseIf ((tget s.gcm.defs n).bad ms) .badValue

/-- The correlator configuration a write leaves (R24). -/
def CorrConfig.write (ms : List MaskedWord) (c : CorrConfig) : CorrConfig :=
  let ws := overlay (corrImage c) ms
  let maxHs := field ms 3 1 c.vMaxHs (numAt ws 3)
  let maxLs := field ms 5 1 c.vMaxLs (numAt ws 5)
  { rHs := field ms 0 1 c.rHs (clampNat 1 64 (numAt ws 0))
    rLs := field ms 1 1 c.rLs (clampNat 1 8 (numAt ws 1))
    vMinHs := min (field ms 2 1 c.vMinHs (numAt ws 2)) maxHs
    vMaxHs := maxHs
    vMinLs := min (field ms 4 1 c.vMinLs (numAt ws 4)) maxLs
    vMaxLs := maxLs
    tol := field ms 6 1 c.tol (min 1023 (numAt ws 6)) }

/-- A permitted write to the correlator configuration (R24). -/
def writeCorr (ms : List MaskedWord) (s : State) : State := s.setOcr { s.ocr with config := s.ocr.config.write ms }

/-! ### Group 5: grid configuration (R61) -/

/-- h on write: 1 becomes 2, above 50 becomes 50 (R61). -/
def harmonicOf (n : Nat) : Nat := if n = 1 then 2 else min 50 n

/-- The grid configuration a write leaves (R61). -/
def GridConfig.write (ms : List MaskedWord) (c : GridConfig) : GridConfig :=
  let ws := overlay (gridConfigImage c) ms
  { h := fieldList ms ws 0 harmonicOf c.h
    limitV := fieldList ms ws 15 id c.limitV
    limitI := fieldList ms ws 30 id c.limitI
    thdLimitV := field ms 45 1 c.thdLimitV (numAt ws 45)
    thdLimitI := field ms 46 1 c.thdLimitI (numAt ws 46)
    fundFloorV := field ms 47 1 c.fundFloorV (max 1 (numAt ws 47))
    fundFloorI := field ms 48 1 c.fundFloorI (max 1 (numAt ws 48))
    kg := field ms 49 1 c.kg (clampNat 1 20 (numAt ws 49))
    gridCap := field ms 50 1 c.gridCap (min 100 (numAt ws 50)) }

/-- A permitted write to the grid configuration (R61). -/
def writeGrid (ms : List MaskedWord) (s : State) : State := s.setGhm { s.ghm with config := s.ghm.config.write ms }

/-! ### Group 7: watch configuration (R84) -/

/-- The watch configuration a write leaves (R84). -/
def WatchConfig.write (ms : List MaskedWord) (c : WatchConfig) : WatchConfig :=
  let ws := overlay (watchConfigImage c) ms
  { m := fieldList ms ws 0 (min 60) c.m
    slot := fieldList ms ws 8 (min 15) c.slot
    floor := fieldList ms ws 16 id c.floor
    tol := field ms 24 1 c.tol (min 255 (numAt ws 24))
    coincCap := field ms 25 1 c.coincCap (min 100 (numAt ws 25)) }

/-- A permitted write to the watch configuration (R84). -/
def writeWatch (ms : List MaskedWord) (s : State) : State := s.setCw { s.cw with config := s.cw.config.write ms }

/-! ### Group 8: operating record (R98, R99) -/

/-- The operating record a write leaves; a signed field is clamped on its resulting word (R98, chapter 12). -/
def OpRecord.write (ms : List MaskedWord) (x : OpRecord) : OpRecord :=
  let ws := overlay (opImage x) ms
  { sequence := field ms 0 1 x.sequence (numAt ws 0)
    turbine := field ms 1 1 x.turbine ((TurbineState.ofCode (numAt ws 1)).getD x.turbine)
    wind := field ms 2 1 x.wind (min 600 (numAt ws 2))
    power := field ms 3 1 x.power (min 30000 (numAt ws 3))
    torque := field ms 4 1 x.torque (clampInt (-1500) 1500 (intAt ws 4))
    temp := field ms 5 1 x.temp (clampInt (-600) 600 (intAt ws 5))
    humidity := field ms 6 1 x.humidity (min 100 (numAt ws 6)) }

/-- Whether the write holds an invalid turbine state code (R98). -/
def OpRecord.bad (ms : List MaskedWord) (x : OpRecord) : Bool :=
  badEnum (wrote ms 1 1) (TurbineState.ofCode (numAt (overlay (opImage x) ms) 1))

/-- A permitted write to the operating record is an operating arrival (R98, R99). -/
def writeOperating (ms : List MaskedWord) (s : State) : State :=
  operatingArrived ((s.setIcd { s.icd with op := s.icd.op.write ms }).raiseIf (s.icd.op.bad ms) .badValue)

/-! ### Group 9: icing configuration and power curve (R101, R102) -/

/-- An imbalance line word: FFFFh is ABSENT, 0..23 a line, any other invalid (R101, R200). -/
def imbalanceLineOf (n : Nat) : Option (Option Nat) :=
  if n = 65535 then some none else if n < 24 then some (some n) else none

/-- The two orders of R101. -/
def IcingConfig.order (c : IcingConfig) : IcingConfig :=
  { c with tThaw := max c.tThaw c.tIce, cutIn := min c.cutIn c.rated }

/-- The icing configuration a write leaves (R101). -/
def IcingConfig.write (ms : List MaskedWord) (c : IcingConfig) : IcingConfig :=
  let ws := overlay (icingConfigImage c) ms
  IcingConfig.order
    { tIce := field ms 0 1 c.tIce (clampInt (-600) 600 (intAt ws 0))
      tHyst := field ms 1 1 c.tHyst (min 200 (numAt ws 1))
      hIce := field ms 2 1 c.hIce (min 100 (numAt ws 2))
      tThaw := field ms 3 1 c.tThaw (clampInt (-600) 600 (intAt ws 3))
      dSuspect := field ms 4 1 c.dSuspect (min 1000 (numAt ws 4))
      dIce := field ms 5 1 c.dIce (min 1000 (numAt ws 5))
      ns := field ms 6 1 c.ns (clampNat 1 60 (numAt ws 6))
      ni := field ms 7 1 c.ni (clampNat 1 60 (numAt ws 7))
      iIce := field ms 8 1 c.iIce (clampNat 100 1000 (numAt ws 8))
      line := field ms 9 1 c.line ((imbalanceLineOf (numAt ws 9)).getD c.line)
      thawTime := field ms 10 1 c.thawTime (clampNat 1 1440 (numAt ws 10))
      cutIn := field ms 11 1 c.cutIn (min 310 (numAt ws 11))
      rated := field ms 12 1 c.rated (min 310 (numAt ws 12))
      suspectCap := field ms 13 1 c.suspectCap (min 100 (numAt ws 13)) }

/-- Whether the write holds an invalid line number (R101). -/
def IcingConfig.bad (ms : List MaskedWord) (c : IcingConfig) : Bool :=
  badEnum (wrote ms 9 1) (imbalanceLineOf (numAt (overlay (icingConfigImage c) ms) 9))

/-- A permitted write to the icing configuration; a changed imbalance line sets B to 0, and a change of B is published (R101, R102, R113). -/
def writeIcing (ms : List MaskedWord) (s : State) : State :=
  let c := s.icd.config.write ms
  let f (s : State) : State :=
    s.setIcd { s.icd with config := c, base := if c.line = s.icd.config.line then s.icd.base else 0 }
  let t := if c.line ≠ s.icd.config.line ∧ s.icd.base ≠ 0 then publishing 8 [1] f s else f s
  t.raiseIf (s.icd.config.bad ms) .badValue

/-- A permitted write to the power curve (R102). -/
def writeCurve (ms : List MaskedWord) (s : State) : State :=
  let ws := overlay (s.icd.curve.map word) ms
  s.setIcd { s.icd with curve := fieldList ms ws 0 (min 30000) s.icd.curve }

/-! ### Groups 10, 11, 12: board, counters, staging (R125, R142, R146, R150) -/

/-- A permitted write to the board configuration (R125). -/
def writeBoard (ms : List MaskedWord) (s : State) : State :=
  let ws := overlay [word s.lb.tAck] ms
  s.setLb { s.lb with tAck := field ms 0 1 s.lb.tAck (clampNat 1 120 (numAt ws 0)) }

/-- The counter configuration a write leaves (R146). -/
def CounterConfig.write (ms : List MaskedWord) (c : CounterConfig) : CounterConfig :=
  let ws := overlay (counterConfigImage c) ms
  { vRunHs := field ms 0 1 c.vRunHs (max 1 (numAt ws 0))
    vRunLs := field ms 1 1 c.vRunLs (max 1 (numAt ws 1))
    weights := fieldList ms ws 2 id c.weights }

/-- A permitted write to the counter configuration (R146). -/
def writeCounters (ms : List MaskedWord) (s : State) : State := s.setCc { s.cc with config := s.cc.config.write ms }

/-- The clock staging record stores every field as written (R142). -/
def ClockStaging.write (ms : List MaskedWord) (x : ClockStaging) : ClockStaging :=
  let ws := overlay (stagingImage x) ms
  ⟨wordAt ws 0, wordAt ws 1, wordAt ws 2, wordAt ws 3, wordAt ws 4, wordAt ws 5⟩

/-- A permitted write to the clock staging record (R142). -/
def writeStaging (ms : List MaskedWord) (s : State) : State := s.setCc { s.cc with staging := s.cc.staging.write ms }

/-- A permitted write to the restore staging record: every field takes every value of its width (R150). -/
def writeRestore (ms : List MaskedWord) (s : State) : State :=
  let ws := overlay (restoreImage s.cc) ms
  s.setCc { s.cc with
    baseSeconds := field ms 0 2 s.cc.baseSeconds (wideAt ws 0 2)
    baseBins := fieldWide ms ws 2 3 s.cc.baseBins
    baseDamage := field ms 50 4 s.cc.baseDamage (wideAt ws 50 4) }

/-! ### Group 13: item definitions and the defer argument (R154, R164) -/

/-- The definition a write leaves (R154; log entry 22 on set-or-clear words). -/
def ItemDef.write (ms : List MaskedWord) (d : ItemDef) : ItemDef :=
  let ws := overlay (itemDefImage d) ms
  { present := field ms 0 1 d.present (bitOf (wordAt ws 0) 0)
    code := field ms 1 1 d.code (numAt ws 1)
    kind := field ms 2 1 d.kind ((ItemKind.ofCode (numAt ws 2)).getD d.kind)
    interval := field ms 3 4 d.interval (max 1 (wideAt ws 3 4))
    firstDue := field ms 7 4 d.firstDue (wideAt ws 7 4)
    grace := field ms 11 4 d.grace (wideAt ws 11 4)
    maxDefer := field ms 15 4 d.maxDefer (wideAt ws 15 4)
    leadAlert := field ms 19 4 d.leadAlert (wideAt ws 19 4)
    leadDanger := field ms 23 4 d.leadDanger (wideAt ws 23 4)
    cap := field ms 27 1 d.cap (min 100 (numAt ws 27))
    lock := field ms 28 1 d.lock (bitOf (wordAt ws 28) 0) }

/-- Whether the write holds an invalid kind code (R154). -/
def ItemDef.bad (ms : List MaskedWord) (d : ItemDef) : Bool :=
  badEnum (wrote ms 2 1) (ItemKind.ofCode (numAt (overlay (itemDefImage d) ms) 2))

/-- A permitted write to item slot `n`: the definition as written changes, words of the state part are ignored, and TAKE_PENDING is set
(R154). -/
def writeItem (n : Nat) (ms : List MaskedWord) (s : State) : State :=
  let x := tget s.ms.items n
  (s.setMs { s.ms with
    items := tmod s.ms.items n (fun x => { x with written := x.written.write ms, takePending := true }) }).raiseIf
    (x.written.bad ms) .badValue

/-- A permitted write to the defer argument record (R164). -/
def writeDeferArg (ms : List MaskedWord) (s : State) : State :=
  let ws := overlay (natWords 4 s.ms.deferArg) ms
  s.setMs { s.ms with deferArg := field ms 0 4 s.ms.deferArg (wideAt ws 0 4) }

/-! ### Group 15: status records (R176) -/

/-- The bits a masked word writes as 1. -/
def MaskedWord.ones (m : MaskedWord) : Word := m.value &&& m.mask

/-- The reporting state a write to the port's own status record leaves (R176; log entry 23 on the gap count). The report enables in bits 6..4
have ADVISORY at bit 4, DEGRADED at bit 5 and PROTECTIVE at bit 6 (DEDUCED, log entry 46). -/
def RepPort.write (ms : List MaskedWord) (r : RepPort) : RepPort :=
  let ctl := maskedAt ms 3
  let gap := maskedAt ms 4
  { r with
    advisory := r.advisory &&& ~~~((MaskedWord.ones (maskedAt ms 0)).setWidth 9)
    degraded := r.degraded &&& ~~~((MaskedWord.ones (maskedAt ms 1)).setWidth 6)
    protective := r.protective &&& ~~~((MaskedWord.ones (maskedAt ms 2)).setWidth 5)
    latch := r.latch && !(ctl.lo && bitOf ctl.value 0)
    enAdvisory := if ctl.lo then bitOf ctl.value 4 else r.enAdvisory
    enDegraded := if ctl.lo then bitOf ctl.value 5 else r.enDegraded
    enProtective := if ctl.lo then bitOf ctl.value 6 else r.enProtective
    gap := if gap.written && gap.over (word r.gap) == 0 then 0 else r.gap }

/-- A permitted write of port `p` to its status record (R176). -/
def writeStatus (p : PortId) (ms : List MaskedWord) (s : State) : State := s.setRepPort p ((s.rep.get p).write ms)

/-! ### Completion (R189) -/

/-- A written record of a group changes; read-only records keep their values and drop the bytes without a flag (R189). -/
def writeRecord (p : PortId) (g r : Nat) (ms : List MaskedWord) (s : State) : State :=
  match g with
  | 2 => writeShaft ms s
  | 3 => if r < 24 then writeLine r ms s else if r = 24 then writeCorr ms s else s
  | 5 => writeGrid ms s
  | 7 => if r = 0 then writeWatch ms s else s
  | 8 => if r = 0 then writeOperating ms s else s
  | 9 => if r = 0 then writeIcing ms s else if r = 1 then writeCurve ms s else s
  | 10 => if r = 0 then writeBoard ms s else s
  | 11 => if r = 0 then writeCounters ms s else s
  | 12 => if r = 0 then writeStaging ms s else if r = 1 then writeRestore ms s else s
  | 13 => if r < 32 then writeItem r ms s else if r = 32 then writeDeferArg ms s else s
  | 15 => writeStatus p ms s
  | _ => s

/-- The GL postings of a definition write that changes the cap of the level in force (R51). -/
def linePostings (s t : State) : List SlotChange :=
  (List.range 24).flatMap (fun n =>
    let d := tget s.gcm.defs n
    let e := tget t.gcm.defs n
    match (tget s.gcm.conds n).level with
    | .alert => if d.alertCap = e.alertCap then [] else [⟨glSlot n, .post e.alertCap .alert⟩]
    | .danger => if d.dangerCap = e.dangerCap then [] else [⟨glSlot n, .post e.dangerCap .danger⟩]
    | _ => [])

/-- What the completion of a write from `s` to `t` hands the board: each changed cap whose slot stands posted (R51, R79, R84, R102). -/
def writePostings (s t : State) : List SlotChange :=
  linePostings s t
    ++ (if s.ghm.exceeding ∧ s.ghm.config.gridCap ≠ t.ghm.config.gridCap then
        [⟨slotGrid, .post t.ghm.config.gridCap .exceeding⟩] else [])
    ++ (if s.cw.liveLines ≠ [] ∧ s.cw.config.coincCap ≠ t.cw.config.coincCap then
        [⟨slotCoinc, .post t.cw.config.coincCap .live⟩] else [])
    ++ (if s.icd.state = .suspect ∧ s.icd.config.suspectCap ≠ t.icd.config.suspectCap then
        [⟨slotIcing, .post t.icd.config.suspectCap .suspect⟩] else [])

/-- One record at the completion: it changes when at least one of its bytes is written (R189). -/
def applyRecord (p : PortId) (g : Nat) (buf : List BufferWord) (s : State) (r : Nat) : State :=
  let ms := bufferRecord buf r (recordLength g r)
  if anyWritten ms then writeRecord p g r ms s else s

/-- The completion of a RECORD write: every record with a written byte changes, then the board takes the postings as one change (R189). -/
def completeWrite (p : PortId) (g : Nat) (buf : List BufferWord) (s : State) : State :=
  let t := ((List.range (recordCount g)).filter (fun r => buf.any (·.record = r))).foldl (applyRecord p g buf) s
  boardChange (writePostings s t) t

end Sys2Proof.Machine
end

