-- ==== Sys2Proof/Machine/Port.lean ====
section
/-! DEFINITION. The transactions of the Port Interface (R185 to R190, R192): headers, wait answers, delivery by sweeps, write buffers and
completion. -/

namespace Sys2Proof.Machine

/-! ### Sweep positions (R188) -/

/-- Records of the space a header names. -/
def Header.records (h : Header) : Nat := if h.control then 2 else recordCount h.group

/-- Length of a record of the space a header names. -/
def Header.length (h : Header) (r : Nat) : Nat := if h.control then controlLength r else recordLength h.group r

/-- Word 0 of the record after `r`, back to record 0 after the last (R188). -/
def Header.nextRecord (h : Header) (r : Nat) : Nat := if r + 1 < h.records then r + 1 else 0

/-- The position after a data word: record, offset, whether the first pass goes on, and whether a new pass begins (R188). -/
def Header.advance (h : Header) (r o : Nat) (first : Bool) : Nat × Nat × Bool × Bool :=
  let wrap := if o + 1 < h.length r then o + 1 else 0
  match h.sweep with
  | some .running => if o + 1 < h.length r then (r, o + 1, first, false) else (h.nextRecord r, 0, false, true)
  | some .confinedThenRunning =>
    if first then
      if wrap = h.offset then (h.nextRecord r, 0, false, true) else (r, wrap, true, false)
    else if o + 1 < h.length r then (r, o + 1, false, false) else (h.nextRecord r, 0, false, true)
  | _ => (r, wrap, first, wrap = h.offset)

/-- The port after a data word: the position moves, and a pass that ends leaves no snapshot (R187, R188). -/
def PiPort.sweepOn (h : Header) (x : PiPort) : PiPort :=
  let a := h.advance x.record x.offset x.firstPass
  { x with record := a.1, offset := a.2.1, firstPass := a.2.2.1, snapshot := if a.2.2.2 then [] else x.snapshot }

/-! ### Start and header (R185, R186) -/

/-- The port as a transaction begins (R185). -/
def PiPort.opened (x : PiPort) : PiPort :=
  { x with
    phase := .header
    words := []
    header := none
    answer := none
    filler := 0
    record := 0
    offset := 0
    firstPass := true
    snapshot := []
    denied := false
    buffer := []
    command := none }

/-- Select becomes active: an IDLE port that is not held in port reset begins a transaction (R185, R196). -/
def startTransaction (p : PortId) (s : State) : State :=
  let x := s.pi.get p
  if x.phase = .idle ∧ !x.held then s.setPort p x.opened else s

/-- The first or second header word arrives (R185). -/
def takeHeaderWord (p : PortId) (w : Word) (s : State) : State :=
  let x := s.pi.get p
  if x.phase = .header ∧ x.words.length < 2 then s.setPort p { x with words := x.words ++ [w] } else s

/-- The wait answer: HELD for a RECORD read in range whose group has a publish in flight (R186). -/
def waitAnswer (h : Header) (s : State) : WaitAnswer :=
  if !h.write && !h.control && !h.outOfRange && inFlight h.group s then .held else .prompt

/-- The third header word arrives: decoded, answered, and the sweep placed (R185, R186, R188); the cursor is taken (R173). -/
def takeHeader (p : PortId) (w : Word) (s : State) : State :=
  let x := s.pi.get p
  match x.phase, x.words with
  | .header, [w0, w1] =>
    let h := decodeHeader w0 w1 w
    s.setPort p { x with
      phase := .wait
      words := [w0, w1, w]
      header := some h
      answer := some (waitAnswer h s)
      filler := 0
      bound := s.pub.next
      record := h.record
      offset := h.offset
      firstPass := true
      snapshot := []
      headCursor := (s.rep.get p).cursor }
  | _, _ => s

/-- Filler words of a wait answer (R186). -/
def fillerCount : WaitAnswer → Nat
  | .prompt => 2
  | .held => 34

/-- The first filler word carries the wait answer, every other is 0 (R186, R199). -/
def fillerWord (a : WaitAnswer) (n : Nat) : Word := if n = 0 ∧ a = .held then 1 else 0

/-- A filler word is clocked: after the last one the phase is DATA, and every publish to the group of a HELD read that was in flight at its
header has replaced its records (R186). -/
def takeFiller (p : PortId) (s : State) : State :=
  let x := s.pi.get p
  match x.phase, x.answer, x.header with
  | .wait, some a, some h =>
    let y := { x with dataOut := fillerWord a x.filler, filler := x.filler + 1 }
    if x.filler + 1 < fillerCount a then s.setPort p y
    else
      (match a with
        | .held => completeBefore h.group x.bound s
        | .prompt => s).setPort p { y with phase := .data }
  | _, _, _ => s

/-! ### Reads (R187, R192, R173) -/

/-- The words of the record that a pass entering it delivers. -/
def passImage (p : PortId) (h : Header) (r : Nat) (s : State) : List Word :=
  let x := s.pi.get p
  if h.control then (if r = 0 then identImage x else resultImage x.result)
  else if h.group = 14 then journalImage s.ej x.headCursor r
  else visible h.group r s

/-- The snapshot a data word comes from: the one of its pass, taken at the pass's first word (R187). -/
def passSnapshot (p : PortId) (h : Header) (s : State) : List Word :=
  let x := s.pi.get p
  if x.snapshot.isEmpty then passImage p h x.record s else x.snapshot

/-- The master clocks a data word of a read (R187). -/
def takeRead (p : PortId) (s : State) : State :=
  let x := s.pi.get p
  match x.phase, x.header with
  | .data, some h =>
    if h.write then s
    else if h.outOfRange then s.setPort p { x with dataOut := 0xFFFF }
    else
      let snap := passSnapshot p h s
      s.setPort p (({ x with dataOut := wordAt snap x.offset, snapshot := snap } : PiPort).sweepOn h)
  | _, _ => s

/-! ### Writes (R189, R190) -/

/-- A discarded word: the first of a transaction sets ACCESS_DENIED in every copy (R189, R190). -/
def discardWord (p : PortId) (s : State) : State :=
  let x := s.pi.get p
  (s.setPort p { x with denied := true }).raiseIf (!x.denied) .accessDenied

/-- Whether the check of R190 refuses a word to record `r`, or the header is out of range (R189). -/
def wordRefused (p : PortId) (x : PiPort) (h : Header) (r : Nat) : Bool := h.outOfRange || !mayWrite x.role p h.group r

/-- A data word of a RECORD write arrives with its masks: placed at the sweep's position, or discarded (R189, R190). -/
def takeWrite (p : PortId) (m : MaskedWord) (s : State) : State :=
  let x := s.pi.get p
  match x.phase, x.header with
  | .data, some h =>
    if h.write ∧ !h.control then
      let t := if wordRefused p x h x.record then discardWord p s
        else s.setPort p { x with buffer := x.buffer ++ [⟨x.record, x.offset, m⟩] }
      if h.outOfRange then t else t.setPort p ((t.pi.get p).sweepOn h)
    else s
  | _, _ => s

/-- The port IDLE with its buffers empty (R185, R196). -/
def PiPort.close (x : PiPort) : PiPort :=
  { x with
    phase := .idle
    words := []
    header := none
    answer := none
    filler := 0
    snapshot := []
    denied := false
    buffer := []
    command := none }

/-- Select becomes inactive: the transaction completes, and a RECORD write changes its records (R185, R189). A control word's unpaired first
word is discarded (R193). -/
def completeTransaction (p : PortId) (s : State) : State :=
  let x := s.pi.get p
  let t := s.setPort p x.close
  match x.phase, x.header with
  | .data, some h => if h.write ∧ !h.control then completeWrite p h.group x.buffer t else t
  | _, _ => t

/-! ### Whole one-record writes (log entry 3) -/

/-- The write buffer of a CONFINED write of `words` from word 0 of record `r` (R188, R189). -/
def wholeBuffer (r len : Nat) (words : List MaskedWord) : List BufferWord :=
  words.zipIdx.map (fun w => ⟨r, w.2 % len, w.1⟩)

/-- A whole write transaction of `words` to record `r` of group `g` on an IDLE port that is not held (R185 to R190). -/
def writeWhole (p : PortId) (g r : Nat) (words : List MaskedWord) (s : State) : State :=
  let x := s.pi.get p
  if x.phase = .idle ∧ !x.held then
    if words.isEmpty then s
    else if r < recordCount g ∧ mayWrite x.role p g r then completeWrite p g (wholeBuffer r (recordLength g r) words) s
    else s.raise .accessDenied
  else s

/-! ### Meanings -/

/-- TRANSACTION_START (R185). -/
def execTransactionStart (dt : Nat) (p : PortId) (s : State) : Host.Outcome State Fault Refusal :=
  .next (startTransaction p (s.advance dt))

/-- HEADER_WORD (R185). -/
def execHeaderWord (dt : Nat) (p : PortId) (word : Word) (s : State) : Host.Outcome State Fault Refusal :=
  .next (takeHeaderWord p word (s.advance dt))

/-- TRANSACTION_HEADER (R185, R186). -/
def execTransactionHeader (dt : Nat) (p : PortId) (word : Word) (s : State) : Host.Outcome State Fault Refusal :=
  .next (takeHeader p word (s.advance dt))

/-- FILLER_WORD (R186): "Words the master sends during WAIT are ignored". -/
def execFillerWord (dt : Nat) (p : PortId) (_word : Word) (s : State) : Host.Outcome State Fault Refusal :=
  .next (takeFiller p (s.advance dt))

/-- READ_DATA_WORD (R187, R188). -/
def execReadDataWord (dt : Nat) (p : PortId) (s : State) : Host.Outcome State Fault Refusal :=
  .next (takeRead p (s.advance dt))

/-- WRITE_DATA_WORD (R189, R190). -/
def execWriteDataWord (dt : Nat) (p : PortId) (word : MaskedWord) (s : State) : Host.Outcome State Fault Refusal :=
  .next (takeWrite p word (s.advance dt))

/-- RECORD_WRITE (R185, R189): the completion of the transaction. -/
def execRecordWrite (dt : Nat) (p : PortId) (s : State) : Host.Outcome State Fault Refusal :=
  .next (completeTransaction p (s.advance dt))

/-- PUBLISH_COMPLETE (R39, R75, R93, R113, R135, R164): the oldest publish in flight of a group has replaced its records. -/
def execPublishComplete (dt : Nat) (group : Nat) (s : State) : Host.Outcome State Fault Refusal :=
  .next (completeOldest group (s.advance dt))

/-- OPERATING_ARRIVAL (R98, R99). -/
def execOperatingArrival (dt : Nat) (p : PortId) (words : List MaskedWord) (s : State) : Host.Outcome State Fault Refusal :=
  .next (writeWhole p 8 0 words (s.advance dt))

/-- STATUS_WRITE (R176): a write of port `p` to its own status record. -/
def execStatusWrite (dt : Nat) (p : PortId) (words : List MaskedWord) (s : State) : Host.Outcome State Fault Refusal :=
  .next (writeWhole p 15 (portNumber p) words (s.advance dt))

/-- LINE_DEFINITION_WRITE (R42, R43): a line above 23 is no line definition and the row does nothing (log entry 3). -/
def execLineDefinitionWrite (dt : Nat) (p : PortId) (line : Nat) (words : List MaskedWord) (s : State) :
    Host.Outcome State Fault Refusal :=
  .next (if line < 24 then writeWhole p 3 line words (s.advance dt) else s.advance dt)

/-- SHAFT_CONFIGURATION_WRITE (R1, R2). -/
def execShaftConfigurationWrite (dt : Nat) (p : PortId) (words : List MaskedWord) (s : State) :
    Host.Outcome State Fault Refusal :=
  .next (writeWhole p 2 0 words (s.advance dt))

/-- GRID_CONFIGURATION_WRITE (R61, R79). -/
def execGridConfigurationWrite (dt : Nat) (p : PortId) (words : List MaskedWord) (s : State) :
    Host.Outcome State Fault Refusal :=
  .next (writeWhole p 5 0 words (s.advance dt))

/-- WATCH_CONFIGURATION_WRITE (R84). -/
def execWatchConfigurationWrite (dt : Nat) (p : PortId) (words : List MaskedWord) (s : State) :
    Host.Outcome State Fault Refusal :=
  .next (writeWhole p 7 0 words (s.advance dt))

/-- ICING_CONFIGURATION_WRITE (R101, R102). -/
def execIcingConfigurationWrite (dt : Nat) (p : PortId) (words : List MaskedWord) (s : State) :
    Host.Outcome State Fault Refusal :=
  .next (writeWhole p 9 0 words (s.advance dt))

/-- ITEM_DEFINITION_WRITE (R154): a number above 31 is no item slot and the row does nothing (log entry 3). -/
def execItemDefinitionWrite (dt : Nat) (p : PortId) (item : Nat) (words : List MaskedWord) (s : State) :
    Host.Outcome State Fault Refusal :=
  .next (if item < 32 then writeWhole p 13 item words (s.advance dt) else s.advance dt)

end Sys2Proof.Machine
end

