-- ==== Sys2Proof/Machine/Shaft.lean ====
section
/-! DEFINITION. The Shaft Angle Unit (chapter 1): edges, counts, indexes, periods, slips, standstill, the ratio check, and the two
commands of the SHAFT job. -/

namespace Sys2Proof.Machine

/-! ### Lines (R3) -/

/-- The five SAU lines. -/
inductive SauLine where
  | a
  | b
  | z
  | t
  | lsz
deriving DecidableEq, Repr, Inhabited

/-- The side a line belongs to. -/
def SauLine.side : SauLine → Side
  | .a => .hs
  | .b => .hs
  | .z => .hs
  | .t => .ls
  | .lsz => .ls

/-- What the SAU holds of a line. -/
def Sau.line (x : Sau) : SauLine → EdgeLine
  | .a => x.la
  | .b => x.lb
  | .z => x.lz
  | .t => x.lt
  | .lsz => x.llsz

/-- Replace what the SAU holds of a line. -/
def Sau.setLine (x : Sau) (l : SauLine) (y : EdgeLine) : Sau :=
  match l with
  | .a => { x with la := y }
  | .b => { x with lb := y }
  | .z => { x with lz := y }
  | .t => { x with lt := y }
  | .lsz => { x with llsz := y }

/-- A side that drops every edge: OFF or FAULT (R3). -/
def ShaftSide.deaf (x : ShaftSide) : Bool := x.state = .off || x.state = .fault

/-- An edge inside the hold-off of its line (R3). -/
def EdgeLine.heldOff (holdOff now : Nat) (x : EdgeLine) : Bool :=
  match x.last with
  | some t => decide (holdOff ≠ 0) && decide (now < t + holdOff)
  | none => false

/-- Whether R3 accepts an edge of a line at this moment. -/
def edgeAccepted (l : SauLine) (s : State) : Bool :=
  !(s.sau.side l.side).deaf && !(s.sau.line l).heldOff s.sau.active.holdOff s.now

/-- Whether an accepted edge changes the held level of its line (R3). -/
def edgeChanges (l : SauLine) (level : Bool) (s : State) : Bool := edgeAccepted l s && decide ((s.sau.line l).held ≠ level)

/-- The SAU after an edge of a line: the present level always follows the line; a drop by the hold-off is counted; an accepted edge
gives the line its time and level (R3). An edge that both drop sentences of R3 meet, on an OFF or FAULT side and inside the hold-off, is
dropped by the first and adds nothing to the dropped edge count (DESIGN CHOICE, log entry 47). -/
def Sau.takeEdge (now : Nat) (l : SauLine) (level : Bool) (x : Sau) : Sau :=
  let y := x.line l
  if (x.side l.side).deaf then x.setLine l { y with present := level }
  else if y.heldOff x.active.holdOff now then
    (x.setLine l { y with present := level }).setSide l.side
      { x.side l.side with dropped := satAdd 65535 (x.side l.side).dropped 1 }
  else x.setLine l ⟨level, level, some now⟩

/-- An edge of a line, followed by `f` when it is accepted and changes the held level. -/
def onEdge (l : SauLine) (level : Bool) (f : State → State) (s : State) : State :=
  let t := s.setSau (s.sau.takeEdge s.now l level)
  if edgeChanges l level s then f t else t

/-! ### Hand-offs (R13 to R15) -/

/-- The journal source of a side. -/
def sideSource : Side → Source
  | .hs => .sauHs
  | .ls => .sauLs

/-- The STATE entry of a side (R15). -/
def stateEntry (sd : Side) (a b : SideState) (value : Nat) : EntryBody :=
  { source := sideSource sd, kind := .state, fromState := some a.code, toState := some b.code, value := value }

/-- The ratio check disarmed with r at 0 (R13). -/
def Sau.disarm (x : Sau) : Sau := { x with armed := false, ratio := 0 }

/-- Disarm the ratio check (R13). -/
def disarmRatio (s : State) : State := s.setSau s.sau.disarm

/-- Replace a side's state. -/
def State.setSide (s : State) (sd : Side) (y : ShaftSide) : State := s.setSau (s.sau.setSide sd y)

/-- An angle point: index recorded, then taken by the Order Correlator (R5, R11, R14). -/
def anglePoint (sd : Side) (index : Nat) (s : State) : State :=
  angleToFrames sd (s.setSau { s.sau with lastAngle := some (sd, index) })

/-- Whether the ratio test of R13 finds a mismatch: |256 × r − G| × 64 > G. -/
def ratioMismatch (r g : Nat) : Bool := decide (g < ((256 * r : Nat) - (g : Int)).natAbs * 64)

/-- Both sides TRACKING. -/
def Sau.bothTracking (x : Sau) : Bool := x.hs.state = .tracking && x.ls.state = .tracking

/-- The ratio check takes an LS revolution event (R13). -/
def ratioTest (s : State) : State :=
  let r := s.sau.ratio
  let again (x : Sau) : Sau := { x with ratio := 0, armed := x.bothTracking }
  if s.sau.armed ∧ s.sau.active.gearRatio ≠ 0 then
    let bad := ratioMismatch r s.sau.active.gearRatio
    let t := s.setSau (again { s.sau with testedR := r, mismatch := bad })
    if bad then (t.raise .ratioMismatch).journal { source := .sauLs, kind := .ratioMismatch, value := r } else t
  else s.setSau (again s.sau)

/-- The ratio check takes a revolution event of a side (R13). -/
def revolutionToRatio (sd : Side) (s : State) : State :=
  match sd with
  | .hs => s.setSau { s.sau with ratio := satAdd 65535 s.sau.ratio 1 }
  | .ls => ratioTest s

/-- A revolution event is taken by the Order Correlator, the ratio check and, of the HS side, the counters (R14; log entry 13). -/
def revolutionEvent (sd : Side) (p v : Nat) (s : State) : State :=
  let t := revolutionToRatio sd (revolutionToFrames sd p v s)
  match sd with
  | .hs => countRevolution t
  | .ls => t

/-! ### Counts (R4, R5) -/

/-- Whether an edge on an encoder line gives a count in a decode mode (R4). -/
def edgeCounts (m : DecodeMode) (line : EncoderLine) (level : Bool) : Bool :=
  match line with
  | .a => level || m ≠ .x1
  | .b => m = .x4

/-- Whether the count of an edge is +1, judged on the held level of the other line (R4). -/
def edgeForward (line : EncoderLine) (level other : Bool) : Bool :=
  match line with
  | .a => level != other
  | .b => level == other

/-- The position count moved by a count, saturating at its range ends (R4). -/
def movePosition (p : Int) (up : Bool) : Int := clampInt (-2147483648) 2147483647 (if up then p + 1 else p - 1)

/-- REVERSE becomes clear or set; a change is handed to the Order Correlator, and setting it clears TIMED on both sides, REFERENCED on
the LS side and the ratio check (R4, R12, R13). -/
def setDirection (rev : Bool) (s : State) : State :=
  if s.sau.reverse = rev then s
  else
    let x := { s.sau with reverse := rev }
    directionToFrames (s.setSau
      (if rev then
        { x with hs := { x.hs with timed := false }, ls := { x.ls with timed := false, referenced := false } }.disarm
      else x))

/-- The angle point index of a position: (position mod C_hs) / D (R5). -/
def angleIndex (c : ShaftConfig) (p : Int) : Nat := (p % (c.counts : Int)).toNat / c.dec

/-- A count of the HS position, in the order position, direction, angle point (R4, R5; log entry 40). -/
def countEdge (up : Bool) (s : State) : State :=
  let p := movePosition s.sau.hs.position up
  let t := setDirection (!up) (s.setSide .hs { s.sau.hs with position := p })
  if up ∧ p % (s.sau.active.dec : Int) = 0 then anglePoint .hs (angleIndex s.sau.active p) t else t

/-- An encoder line as a line of the SAU, and the held level of the other one. -/
def encoderSauLine : EncoderLine → SauLine
  | .a => .a
  | .b => .b

def otherHeld (x : Sau) : EncoderLine → Bool
  | .a => x.lb.held
  | .b => x.la.held

/-- The decoding of an A or B edge that changed its held level (R4). -/
def decodeEdge (line : EncoderLine) (level : Bool) (s : State) : State :=
  if edgeCounts s.sau.active.mode line level then countEdge (edgeForward line level (otherHeld s.sau line)) s else s

/-! ### Indexes (R6 to R8, R10, R12) -/

/-- v_hs and v_ls of a closed period; past the range of the field a free value (R8, R12; log entry 9). -/
def sideSpeed (sd : Side) (p : Nat) : Nat :=
  match sd with
  | .hs => if p ≠ 0 ∧ 38400000000 / p ≤ max32 then 38400000000 / p else (Config.hsSpeedOutOfRange p).toNat
  | .ls => if p ≠ 0 ∧ 614400000000 / p ≤ max32 then 614400000000 / p else (Config.lsSpeedOutOfRange p).toNat

/-- The count a correct index finds: C_hs, or 128 teeth (R6, R12). -/
def fullTurn (c : ShaftConfig) : Side → Nat
  | .hs => c.counts
  | .ls => 128

/-- The deadline of a standstill timer started now (R9). -/
def standstillDeadline (s : State) : Nat := s.now + s.sau.active.tStand * 40000000

/-- The reload of step 2 of R6. -/
def ShaftSide.reload (x : ShaftSide) : ShaftSide := { x with position := 0, referenced := true }

/-- Step 3 of R6 where no period is closed: the counter restarts and TIMED is set. -/
def ShaftSide.restart (x : ShaftSide) : ShaftSide := { x with counter := 0, timed := true }

/-- Step 4 of R6: in TRACKING the standstill timer restarts. -/
def ShaftSide.rearm (deadline : Nat) (x : ShaftSide) : ShaftSide :=
  if x.state = .tracking then { x with standstill := some deadline } else x

/-- A closed period: last period, speed, TRACKING and its timer (R8, R9). -/
def ShaftSide.close (sd : Side) (deadline : Nat) (x : ShaftSide) : ShaftSide :=
  { x with
    counter := 0
    lastPeriod := x.counter
    speed := sideSpeed sd x.counter
    speedValid := true
    state := .tracking
    standstill := some deadline }

/-- A slip counted (R10). -/
def ShaftSide.slip (x : ShaftSide) : ShaftSide :=
  { x with consecutive := x.consecutive + 1, total := satAdd 65535 x.total 1 }

/-- Entry to FAULT on the side's own items (R10). -/
def ShaftSide.enterFault (x : ShaftSide) : ShaftSide :=
  { x with state := .fault, speed := 0, speedValid := false, standstill := none, timed := false }

/-- The value of a journal entry of a position. -/
def slipEntry (sd : Side) (position : Int) : EntryBody := { source := sideSource sd, kind := .slip, value := position }

/-- The PROTECTIVE flag of a side's FAULT (R10). -/
def faultFlag : Side → Flag
  | .hs => .hsFault
  | .ls => .lsFault

/-- The SLIP that brings FAULT: the side is in FAULT when the slip event is handed on, and the state change follows it (R10, R14; log
entry 12 on the reload). -/
def slipToFault (sd : Side) (s : State) : State :=
  let x := s.sau.side sd
  let t := (disarmRatio (s.setSide sd x.slip.reload.enterFault)).raise .slip
  let u := (t.journal (slipEntry sd x.position)).raise (faultFlag sd)
  let w := u.journal (stateEntry sd x.state .fault 0)
  discardFrame sd .encoder (match sd with | .hs => setDirection false w | .ls => w)

/-- A SLIP that leaves the side where it is: timing restarts from the slipped index (R6, R10). -/
def slipAlone (sd : Side) (s : State) : State :=
  let x := s.sau.side sd
  let t := (disarmRatio (s.setSide sd (x.slip.reload.restart.rearm (standstillDeadline s)))).raise .slip
  discardFrame sd .encoder (t.journal (slipEntry sd x.position))

/-- A forward index that is a SLIP (R10). -/
def slipIndex (sd : Side) (s : State) : State :=
  if (s.sau.side sd).consecutive + 1 < 3 then slipAlone sd s else slipToFault sd s

/-- A forward index that closes a period: the state change is handed on before the revolution event (R8, R14). -/
def closePeriod (sd : Side) (x : ShaftSide) (s : State) : State :=
  let y := x.close sd (standstillDeadline s)
  let t := s.setSide sd y
  let u := if x.state = .tracking then t
    else t.journal (stateEntry sd x.state .tracking (min y.lastPeriod 2147483647))
  revolutionEvent sd y.lastPeriod y.speed u

/-- A forward index of a side (R6, R12). -/
def forwardIndex (sd : Side) (s : State) : State :=
  let x := s.sau.side sd
  if x.referenced ∧ x.position ≠ (fullTurn s.sau.active sd : Int) then slipIndex sd s
  else
    let y := (if x.referenced then { x with consecutive := 0 } else x).reload
    if x.timed then closePeriod sd y s
    else s.setSide sd (y.restart.rearm (standstillDeadline s))

/-- A reverse index: position at C_hs and REFERENCED, nothing else (R7). -/
def reverseIndex (s : State) : State :=
  s.setSide .hs { s.sau.hs with position := s.sau.active.counts, referenced := true }

/-- A Z edge that changed its held level (R6, R7). -/
def takeIndex (level : Bool) (s : State) : State :=
  if level ∧ s.sau.la.held = s.sau.active.quadA ∧ s.sau.lb.held = s.sau.active.quadB then
    if s.sau.reverse then reverseIndex s else forwardIndex .hs s
  else s

/-- An LSZ edge that changed its held level (R12). -/
def takeLsIndex (level : Bool) (s : State) : State := if level ∧ !s.sau.reverse then forwardIndex .ls s else s

/-- A T edge that changed its held level (R11). -/
def takeTooth (level : Bool) (s : State) : State :=
  if level ∧ !s.sau.reverse then
    let p := s.sau.ls.position
    anglePoint .ls (p % 128).toNat (s.setSide .ls { s.sau.ls with position := min 65535 (p + 1) })
  else s

/-! ### Standstill (R9) -/

/-- The side at the expiry of its standstill timer. -/
def ShaftSide.stand (x : ShaftSide) : ShaftSide :=
  { x with state := .standstill, speed := 0, speedValid := true, timed := false, standstill := none }

/-- The standstill timer of a side expires: the state change is journalled and discards the side's frame (R9, R13, R15, R28). -/
def standstillExpire (sd : Side) (s : State) : State :=
  let x := s.sau.side sd
  discardFrame sd .speedBand
    ((disarmRatio (s.setSide sd x.stand)).journal (stateEntry sd x.state .standstill 0))

/-! ### Commands (R16, R17) -/

/-- A side at an accepted ENABLE SHAFT (R16). -/
def ShaftSide.seek (_ : ShaftSide) : ShaftSide := { ShaftSide.initial with state := .seeking }

/-- A line at an accepted ENABLE SHAFT: held from the present level, no accepted edge (R3). -/
def EdgeLine.arm (x : EdgeLine) : EdgeLine := ⟨x.present, x.present, none⟩

/-- S_hs is 128, 256, 512 or 1024 (R16). -/
def ShaftConfig.samplesOk (c : ShaftConfig) : Bool :=
  c.samples = 128 || c.samples = 256 || c.samples = 512 || c.samples = 1024

/-- The SAU at an accepted ENABLE SHAFT (R16). -/
def Sau.enable (x : Sau) : Sau :=
  { x with
    active := x.config
    la := x.la.arm
    lb := x.lb.arm
    lz := x.lz.arm
    lt := x.lt.arm
    llsz := x.llsz.arm
    reverse := false
    hs := x.hs.seek
    ls := x.ls.seek
    ratio := 0
    armed := false }

/-- ENABLE SHAFT (R16). -/
def enableShaft (s : State) : Reply :=
  if s.jobs.shaft then refuse .wrongState s
  else if s.sau.config.samplesOk then
    accept (((s.setSau s.sau.enable).setJobs { s.jobs with shaft := true }).journalAll
      [stateEntry .hs s.sau.hs.state .seeking 0, stateEntry .ls s.sau.ls.state .seeking 0])
  else refuse .badConfig s

/-- A side at an accepted DISABLE SHAFT: the total slip count and the dropped edge count are kept (R17). -/
def ShaftSide.stop (x : ShaftSide) : ShaftSide := { ShaftSide.initial with total := x.total, dropped := x.dropped }

/-- The SAU at an accepted DISABLE SHAFT (R17). -/
def Sau.disable (x : Sau) : Sau :=
  { x with reverse := false, hs := x.hs.stop, ls := x.ls.stop, ratio := 0, armed := false }

/-- The STATE entry of a side that enters OFF, if it changes state (R17). -/
def offEntry (sd : Side) (x : ShaftSide) : List EntryBody := if x.state = .off then [] else [stateEntry sd x.state .off 0]

/-- DISABLE SHAFT (R17). R17 gives no order between the STATE entries of the two sides: the HS entry comes first (DESIGN CHOICE, log
entry 48). -/
def disableShaft (s : State) : Reply :=
  if s.jobs.gear then refuse .dependency s
  else if s.jobs.shaft then
    accept (((s.setSau s.sau.disable).setJobs { s.jobs with shaft := false }).journalAll
      (offEntry .hs s.sau.hs ++ offEntry .ls s.sau.ls))
  else accept s

/-! ### Meanings -/

/-- ENCODER_EDGE (R3, R4, R5). -/
def execEncoderEdge (dt : Nat) (line : EncoderLine) (level : Bool) (s : State) : Host.Outcome State Fault Refusal :=
  .next (onEdge (encoderSauLine line) level (decodeEdge line level) (s.advance dt))

/-- INDEX_EDGE (R3, R6, R7). -/
def execIndexEdge (dt : Nat) (level : Bool) (s : State) : Host.Outcome State Fault Refusal :=
  .next (onEdge .z level (takeIndex level) (s.advance dt))

/-- TOOTH_EDGE (R3, R11). -/
def execToothEdge (dt : Nat) (level : Bool) (s : State) : Host.Outcome State Fault Refusal :=
  .next (onEdge .t level (takeTooth level) (s.advance dt))

/-- LS_INDEX_EDGE (R3, R12). -/
def execLsIndexEdge (dt : Nat) (level : Bool) (s : State) : Host.Outcome State Fault Refusal :=
  .next (onEdge .lsz level (takeLsIndex level) (s.advance dt))

/-- STANDSTILL_TIMER_EXPIRY (R9): the clock moves to the deadline; a stopped timer does not expire (log entry 2). -/
def execStandstillTimerExpiry (side : Side) (s : State) : Host.Outcome State Fault Refusal :=
  match (s.sau.side side).standstill with
  | none => .next s
  | some d => .next (standstillExpire side (s.advanceTo d))

end Sys2Proof.Machine
end

