-- ==== Sys2Proof/Machine/Control.lean ====
section
/-! DEFINITION. Control words (R193, R194, R199): how a control word is taken, the checks of the Port Interface, the result record, and one
meaning for each command. -/

namespace Sys2Proof.Machine

/-! ### Taking a control word -/

/-- The command word a control-word row takes, or `none` when the port cannot take it. On an IDLE port with an empty command buffer the row
stands for the whole word pair and `canonical` is the word as received; in DATA of a CONTROL write the command buffer must hold a word that
meets `ok` (R193; log entry 4). -/
def controlRaw (x : PiPort) (canonical : Word) (ok : Word → Bool) : Option Word :=
  if x.held then none
  else
    match x.phase with
    | .idle => if x.command.isNone then some canonical else none
    | .data =>
      match x.header, x.command with
      | some h, some w => if h.write && h.control && ok w then some w else none
      | _, _ => none
    | _ => none

/-- The result record after a control word (R194). -/
def ResultRecord.after (raw arg : Word) (a : Answer) (r : Reason) (x : ResultRecord) : ResultRecord :=
  ⟨(x.count + 1) % 65536, raw, arg, a, r⟩

/-- The answer written into the issuing port's result record, the command buffer empty (R193, R194). -/
def writeResult (p : PortId) (raw arg : Word) (r : Reply) : State :=
  let x := r.state.pi.get p
  r.state.setPort p { x with command := none, result := x.result.after raw arg r.answer r.reason }

/-- A control word is taken when its second word arrives (R193). -/
def takeControl (p : PortId) (canonical : Word) (ok : Word → Bool) (arg : Word) (body : State → Reply) (s : State) : State :=
  match controlRaw (s.pi.get p) canonical ok with
  | none => s
  | some raw => writeResult p raw arg (body s)

/-- The third check of R193, then the owning block. -/
def permitted (c : Command) (p : PortId) (body : State → Reply) (s : State) : Reply :=
  if c.allows (s.pi.get p).role then body s else refuse .notPermitted s

/-- A control word that names a command (R193). -/
def giveCommand (c : Command) (p : PortId) (arg : Word) (body : State → Reply) (s : State) : State :=
  takeControl p c.word (fun w => commandOfWord w = .command c) arg (permitted c p body) s

/-- The first word of a control word arrives in DATA of a CONTROL write and waits for its second (R193). -/
def takeCommandWord (p : PortId) (w : Word) (s : State) : State :=
  let x := s.pi.get p
  match x.phase, x.header with
  | .data, some h => if h.write && h.control && x.command.isNone then s.setPort p { x with command := some w } else s
  | _, _ => s

/-- A control word whose command word names no command (R193, check 1). -/
def takeUnknown (p : PortId) (command arg : Word) (s : State) : State :=
  if commandOfWord command = .unknown then takeControl p command (fun w => w = command) arg (refuse .unknownCommand) s else s

/-- The command word of ENABLE or DISABLE with a job code. -/
def jobWord (enable : Bool) (job : Byte) : Word := (if enable then 1 else 2 : Byte) ++ job

/-- ENABLE or DISABLE with a job code that names no job (R193, check 2). -/
def takeNoJob (p : PortId) (enable : Bool) (job : Byte) (arg : Word) (s : State) : State :=
  if jobOfCode job.toNat = none then
    takeControl p (jobWord enable job) (fun w => w = jobWord enable job) arg (refuse .badArgument) s
  else s

/-! ### Meanings -/

/-- COMMAND_WORD (R193). -/
def execCommandWord (dt : Nat) (p : PortId) (word : Word) (s : State) : Host.Outcome State Fault Refusal :=
  .next (takeCommandWord p word (s.advance dt))

/-- UNKNOWN_COMMAND (R193). -/
def execUnknownCommand (dt : Nat) (p : PortId) (command arg : Word) (s : State) : Host.Outcome State Fault Refusal :=
  .next (takeUnknown p command arg (s.advance dt))

/-- INVALID_JOB_CODE (R193). -/
def execInvalidJobCode (dt : Nat) (p : PortId) (enable : Bool) (job : Byte) (arg : Word) (s : State) :
    Host.Outcome State Fault Refusal :=
  .next (takeNoJob p enable job arg (s.advance dt))

/-- ENABLE_SHAFT (R16). -/
def execEnableShaft (dt : Nat) (p : PortId) (arg : Word) (s : State) : Host.Outcome State Fault Refusal :=
  .next (giveCommand (.enable .shaft) p arg enableShaft (s.advance dt))

/-- DISABLE_SHAFT (R17). -/
def execDisableShaft (dt : Nat) (p : PortId) (arg : Word) (s : State) : Host.Outcome State Fault Refusal :=
  .next (giveCommand (.disable .shaft) p arg disableShaft (s.advance dt))

/-- ENABLE_GEAR (R58). -/
def execEnableGear (dt : Nat) (p : PortId) (arg : Word) (s : State) : Host.Outcome State Fault Refusal :=
  .next (giveCommand (.enable .gear) p arg enableGear (s.advance dt))

/-- DISABLE_GEAR (R59). -/
def execDisableGear (dt : Nat) (p : PortId) (arg : Word) (s : State) : Host.Outcome State Fault Refusal :=
  .next (giveCommand (.disable .gear) p arg disableGear (s.advance dt))

/-- ENABLE_GRID (R81). -/
def execEnableGrid (dt : Nat) (p : PortId) (arg : Word) (s : State) : Host.Outcome State Fault Refusal :=
  .next (giveCommand (.enable .grid) p arg enableGrid (s.advance dt))

/-- DISABLE_GRID (R82). -/
def execDisableGrid (dt : Nat) (p : PortId) (arg : Word) (s : State) : Host.Outcome State Fault Refusal :=
  .next (giveCommand (.disable .grid) p arg disableGrid (s.advance dt))

/-- ENABLE_COINC (R94). -/
def execEnableCoinc (dt : Nat) (p : PortId) (arg : Word) (s : State) : Host.Outcome State Fault Refusal :=
  .next (giveCommand (.enable .coinc) p arg enableCoinc (s.advance dt))

/-- DISABLE_COINC (R95). -/
def execDisableCoinc (dt : Nat) (p : PortId) (arg : Word) (s : State) : Host.Outcome State Fault Refusal :=
  .next (giveCommand (.disable .coinc) p arg disableCoinc (s.advance dt))

/-- CLEAR_COINCIDENCE (R96). -/
def execClearCoincidence (dt : Nat) (p : PortId) (arg : Word) (s : State) : Host.Outcome State Fault Refusal :=
  .next (giveCommand .clearCoincidence p arg clearCoincidence (s.advance dt))

/-- ENABLE_ICING (R114). -/
def execEnableIcing (dt : Nat) (p : PortId) (arg : Word) (s : State) : Host.Outcome State Fault Refusal :=
  .next (giveCommand (.enable .icing) p arg enableIcing (s.advance dt))

/-- DISABLE_ICING (R115). -/
def execDisableIcing (dt : Nat) (p : PortId) (arg : Word) (s : State) : Host.Outcome State Fault Refusal :=
  .next (giveCommand (.disable .icing) p arg disableIcing (s.advance dt))

/-- ICING_REPORT (R116). -/
def execIcingReport (dt : Nat) (p : PortId) (arg : Word) (s : State) : Host.Outcome State Fault Refusal :=
  .next (giveCommand .icingReport p arg icingReport (s.advance dt))

/-- ICING_RELEASE (R117). -/
def execIcingRelease (dt : Nat) (p : PortId) (arg : Word) (s : State) : Host.Outcome State Fault Refusal :=
  .next (giveCommand .icingRelease p arg icingRelease (s.advance dt))

/-- LEARN_BASELINE (R118). -/
def execLearnBaseline (dt : Nat) (p : PortId) (arg : Word) (s : State) : Host.Outcome State Fault Refusal :=
  .next (giveCommand .learnBaseline p arg learnBaseline (s.advance dt))

/-- RESTART_REQUEST (R119). -/
def execRestartRequest (dt : Nat) (p : PortId) (arg : Word) (s : State) : Host.Outcome State Fault Refusal :=
  .next (giveCommand .restartRequest p arg restartRequest (s.advance dt))

/-- ACK_CAP (R131): the argument word is the generation. -/
def execAckCap (dt : Nat) (p : PortId) (arg : Word) (s : State) : Host.Outcome State Fault Refusal :=
  .next (giveCommand .ackCap p arg (ackCap arg.toNat) (s.advance dt))

/-- CLOCK_ARM (R143): the argument word is the mode. -/
def execClockArm (dt : Nat) (p : PortId) (arg : Word) (s : State) : Host.Outcome State Fault Refusal :=
  .next (giveCommand .clockArm p arg (clockArm arg.toNat) (s.advance dt))

/-- COUNTER_RESTORE (R151): the argument word is a. -/
def execCounterRestore (dt : Nat) (p : PortId) (arg : Word) (s : State) : Host.Outcome State Fault Refusal :=
  .next (giveCommand .counterRestore p arg (counterRestore arg.toNat) (s.advance dt))

/-- ITEM_DONE (R165): the argument word is the item number. -/
def execItemDone (dt : Nat) (p : PortId) (arg : Word) (s : State) : Host.Outcome State Fault Refusal :=
  .next (giveCommand .itemDone p arg (itemDone arg.toNat) (s.advance dt))

/-- ITEM_DEFER (R166): the argument word is the item number. -/
def execItemDefer (dt : Nat) (p : PortId) (arg : Word) (s : State) : Host.Outcome State Fault Refusal :=
  .next (giveCommand .itemDefer p arg (itemDefer arg.toNat) (s.advance dt))

/-- ENABLE_MAINT (R167). -/
def execEnableMaint (dt : Nat) (p : PortId) (arg : Word) (s : State) : Host.Outcome State Fault Refusal :=
  .next (giveCommand (.enable .maint) p arg enableMaint (s.advance dt))

/-- DISABLE_MAINT (R168). -/
def execDisableMaint (dt : Nat) (p : PortId) (arg : Word) (s : State) : Host.Outcome State Fault Refusal :=
  .next (giveCommand (.disable .maint) p arg disableMaint (s.advance dt))

/-- JOURNAL_ADVANCE (R174): the argument word is n. -/
def execJournalAdvance (dt : Nat) (p : PortId) (arg : Word) (s : State) : Host.Outcome State Fault Refusal :=
  .next (giveCommand .journalAdvance p arg (journalAdvance p arg.toNat) (s.advance dt))

/-- ATTN_MASK (R181). -/
def execAttnMask (dt : Nat) (p : PortId) (arg : Word) (s : State) : Host.Outcome State Fault Refusal :=
  .next (giveCommand .attnMask p arg (attnMask p arg) (s.advance dt))

end Sys2Proof.Machine
end

