-- ==== Sys2Proof/Machine/Reset.lean ====
section
/-! DEFINITION. Resets: the port-reset input (R183, R196) and part reset with its role check (R182, R184, R197). -/

namespace Sys2Proof.Machine

/-! ### Port reset -/

/-- The reporting state of a port after a port reset: the cursor and the gap count are kept (R183). -/
def RepPort.portReset (r : RepPort) : RepPort :=
  { r with
    advisory := 0
    degraded := 0
    protective := 0
    latch := false
    enAdvisory := false
    enDegraded := false
    enProtective := true
    mask := 0 }

/-- The Port Interface's state of a port after a port reset: the transaction abandoned, the result record reset (R196). -/
def PiPort.portReset (x : PiPort) : PiPort := { x.close with held := true, result := .initial }

/-- The port-reset input of port `p` becomes active (R183, R196). -/
def resetPort (p : PortId) (s : State) : State :=
  (s.setPort p (s.pi.get p).portReset).setRepPort p (s.rep.get p).portReset

/-! ### Part reset -/

/-- The role a port takes: OBSERVER when another port straps the same role, else its own (R184). -/
def roleAfter (own other1 other2 : Role) : Role := if own = other1 ∨ own = other2 then .observer else own

/-- Whether a port is made OBSERVER by the role check (R184). -/
def isDemoted (own other1 other2 : Role) : Bool := own ≠ .observer && (own = other1 || own = other2)

/-- The number of ports made OBSERVER (R184). -/
def demotedCount (a b c : Role) : Nat :=
  (if isDemoted a b c then 1 else 0) + (if isDemoted b a c then 1 else 0) + (if isDemoted c a b then 1 else 0)

/-- A line after part reset keeps its present level: it is an input (R18; log entry 8). -/
def EdgeLine.partReset (x : EdgeLine) : EdgeLine := { EdgeLine.initial with present := x.present }

/-- The SAU after part reset (R18). -/
def Sau.partReset (x : Sau) : Sau :=
  { Sau.initial with
    la := x.la.partReset
    lb := x.lb.partReset
    lz := x.lz.partReset
    lt := x.lt.partReset
    llsz := x.llsz.partReset }

/-- Part reset with the straps of P0, P1, P2 (R18, R41, R60, R83, R97, R120, R136, R153, R169, R182, R184, R197). The port-reset inputs and
the waiting commands are not the part's own and stand. -/
def partReset (a b c : Role) (s : State) : State :=
  let n := demotedCount a b c
  { State.reset with
    sau := s.sau.partReset
    ej := .initial n
    rep := ⟨.initial (decide (0 < n)), .initial (decide (0 < n)), .initial (decide (0 < n))⟩
    pi := ⟨.initial (roleAfter a b c) a s.pi.p0.held, .initial (roleAfter b a c) b s.pi.p1.held,
      .initial (roleAfter c a b) c s.pi.p2.held⟩
    pending := s.pending }

/-! ### Meanings -/

/-- PORT_RESET (R183, R196). -/
def execPortReset (dt : Nat) (p : PortId) (s : State) : Host.Outcome State Fault Refusal := .next (resetPort p (s.advance dt))

/-- PORT_RESET_RELEASE (R196). -/
def execPortResetRelease (dt : Nat) (p : PortId) (s : State) : Host.Outcome State Fault Refusal :=
  let t := s.advance dt
  .next (t.setPort p { t.pi.get p with held := false })

/-- PART_RESET (R182, R184, R197). -/
def execPartReset (strap0 strap1 strap2 : Role) (s : State) : Host.Outcome State Fault Refusal :=
  .next (partReset strap0 strap1 strap2 s)

end Sys2Proof.Machine
end

