-- ==== Sys2Proof/Machine/Dispatch.lean ====
section
/-! DEFINITION. One arm for each command: the dispatch of `exec`. -/

namespace Sys2Proof.Machine

/-- The effect of a command on everything but the queue. -/
def exec (i : Instr) (s : State) : Host.Outcome State Fault Refusal :=
  match i with
  | .encoderEdge dt line level => Sys2Proof.Machine.execEncoderEdge dt line level s
  | .indexEdge dt level => Sys2Proof.Machine.execIndexEdge dt level s
  | .toothEdge dt level => Sys2Proof.Machine.execToothEdge dt level s
  | .lsIndexEdge dt level => Sys2Proof.Machine.execLsIndexEdge dt level s
  | .standstillTimerExpiry side => Sys2Proof.Machine.execStandstillTimerExpiry side s
  | .sampleSet dt words => Sys2Proof.Machine.execSampleSet dt words s
  | .linkTimerExpiry => Sys2Proof.Machine.execLinkTimerExpiry s
  | .gzxEdge dt rising => Sys2Proof.Machine.execGzxEdge dt rising s
  | .lossTimerExpiry => Sys2Proof.Machine.execLossTimerExpiry s
  | .strobe => Sys2Proof.Machine.execStrobe s
  | .gridFrame dt words => Sys2Proof.Machine.execGridFrame dt words s
  | .ppsEdge dt rising order => Sys2Proof.Machine.execPpsEdge dt rising order s
  | .secondTick order => Sys2Proof.Machine.execSecondTick order s
  | .clockSetDeadline => Sys2Proof.Machine.execClockSetDeadline s
  | .ackTimerExpiry order => Sys2Proof.Machine.execAckTimerExpiry order s
  | .thawTimerExpiry order => Sys2Proof.Machine.execThawTimerExpiry order s
  | .operatingRecordStale order => Sys2Proof.Machine.execOperatingRecordStale order s
  | .intervalClose order => Sys2Proof.Machine.execIntervalClose order s
  | .publishComplete dt group => Sys2Proof.Machine.execPublishComplete dt group s
  | .transactionStart dt p => Sys2Proof.Machine.execTransactionStart dt p s
  | .transactionHeader dt p w => Sys2Proof.Machine.execTransactionHeader dt p w s
  | .readDataWord dt p => Sys2Proof.Machine.execReadDataWord dt p s
  | .writeDataWord dt p w => Sys2Proof.Machine.execWriteDataWord dt p w s
  | .recordWrite dt p => Sys2Proof.Machine.execRecordWrite dt p s
  | .operatingArrival dt p words => Sys2Proof.Machine.execOperatingArrival dt p words s
  | .statusWrite dt p words => Sys2Proof.Machine.execStatusWrite dt p words s
  | .lineDefinitionWrite dt p line words => Sys2Proof.Machine.execLineDefinitionWrite dt p line words s
  | .shaftConfigurationWrite dt p words => Sys2Proof.Machine.execShaftConfigurationWrite dt p words s
  | .gridConfigurationWrite dt p words => Sys2Proof.Machine.execGridConfigurationWrite dt p words s
  | .watchConfigurationWrite dt p words => Sys2Proof.Machine.execWatchConfigurationWrite dt p words s
  | .icingConfigurationWrite dt p words => Sys2Proof.Machine.execIcingConfigurationWrite dt p words s
  | .itemDefinitionWrite dt p item words => Sys2Proof.Machine.execItemDefinitionWrite dt p item words s
  | .enableShaft dt p arg => Sys2Proof.Machine.execEnableShaft dt p arg s
  | .disableShaft dt p arg => Sys2Proof.Machine.execDisableShaft dt p arg s
  | .enableGear dt p arg => Sys2Proof.Machine.execEnableGear dt p arg s
  | .disableGear dt p arg => Sys2Proof.Machine.execDisableGear dt p arg s
  | .enableGrid dt p arg => Sys2Proof.Machine.execEnableGrid dt p arg s
  | .disableGrid dt p arg => Sys2Proof.Machine.execDisableGrid dt p arg s
  | .enableCoinc dt p arg => Sys2Proof.Machine.execEnableCoinc dt p arg s
  | .disableCoinc dt p arg => Sys2Proof.Machine.execDisableCoinc dt p arg s
  | .clearCoincidence dt p arg => Sys2Proof.Machine.execClearCoincidence dt p arg s
  | .enableIcing dt p arg => Sys2Proof.Machine.execEnableIcing dt p arg s
  | .disableIcing dt p arg => Sys2Proof.Machine.execDisableIcing dt p arg s
  | .icingReport dt p arg => Sys2Proof.Machine.execIcingReport dt p arg s
  | .icingRelease dt p arg => Sys2Proof.Machine.execIcingRelease dt p arg s
  | .learnBaseline dt p arg => Sys2Proof.Machine.execLearnBaseline dt p arg s
  | .restartRequest dt p arg => Sys2Proof.Machine.execRestartRequest dt p arg s
  | .ackCap dt p arg => Sys2Proof.Machine.execAckCap dt p arg s
  | .clockArm dt p arg => Sys2Proof.Machine.execClockArm dt p arg s
  | .counterRestore dt p arg => Sys2Proof.Machine.execCounterRestore dt p arg s
  | .itemDone dt p arg => Sys2Proof.Machine.execItemDone dt p arg s
  | .itemDefer dt p arg => Sys2Proof.Machine.execItemDefer dt p arg s
  | .enableMaint dt p arg => Sys2Proof.Machine.execEnableMaint dt p arg s
  | .disableMaint dt p arg => Sys2Proof.Machine.execDisableMaint dt p arg s
  | .journalAdvance dt p arg => Sys2Proof.Machine.execJournalAdvance dt p arg s
  | .attnMask dt p arg => Sys2Proof.Machine.execAttnMask dt p arg s
  | .unknownCommand dt p command arg => Sys2Proof.Machine.execUnknownCommand dt p command arg s
  | .portReset dt p => Sys2Proof.Machine.execPortReset dt p s
  | .partReset strap0 strap1 strap2 => Sys2Proof.Machine.execPartReset strap0 strap1 strap2 s
  | .headerWord dt p w => Sys2Proof.Machine.execHeaderWord dt p w s
  | .fillerWord dt p w => Sys2Proof.Machine.execFillerWord dt p w s
  | .commandWord dt p w => Sys2Proof.Machine.execCommandWord dt p w s
  | .invalidJobCode dt p enable job arg => Sys2Proof.Machine.execInvalidJobCode dt p enable job arg s
  | .portResetRelease dt p => Sys2Proof.Machine.execPortResetRelease dt p s

end Sys2Proof.Machine
end

