-- ==== Sys2Proof/Safety.lean ====
section
/-! DEFINITION. The vocabulary of the statements: what a command may touch, when an edge or a control word is taken, and the invariants of the
block, each in the words of the rule it follows. -/

namespace Sys2Proof.Machine

/-! ### Frames -/

/-- The components of the state. -/
inductive Component where
  | now
  | jobs
  | sau
  | ocr
  | gcm
  | ghm
  | cw
  | icd
  | lb
  | cc
  | ms
  | ej
  | rep
  | pi
  | pub
  | pending
deriving DecidableEq, Repr, Inhabited

/-- A component is the same in two states. -/
def Component.Same (s t : State) : Component → Prop
  | .now => t.now = s.now
  | .jobs => t.jobs = s.jobs
  | .sau => t.sau = s.sau
  | .ocr => t.ocr = s.ocr
  | .gcm => t.gcm = s.gcm
  | .ghm => t.ghm = s.ghm
  | .cw => t.cw = s.cw
  | .icd => t.icd = s.icd
  | .lb => t.lb = s.lb
  | .cc => t.cc = s.cc
  | .ms => t.ms = s.ms
  | .ej => t.ej = s.ej
  | .rep => t.rep = s.rep
  | .pi => t.pi = s.pi
  | .pub => t.pub = s.pub
  | .pending => t.pending = s.pending

/-- Every component of the state outside the list is as it was. -/
def OnlyTouches (cs : List Component) (s t : State) : Prop := ∀ c, c ∉ cs → c.Same s t

/-- The reference ticks a command brings with it; an expiry and a part reset bring none (log entry 2). -/
def ticksOf : Instr → Option Nat
  | .encoderEdge dt _ _ => some dt
  | .indexEdge dt _ => some dt
  | .toothEdge dt _ => some dt
  | .lsIndexEdge dt _ => some dt
  | .standstillTimerExpiry _ => none
  | .sampleSet dt _ => some dt
  | .linkTimerExpiry => none
  | .gzxEdge dt _ => some dt
  | .lossTimerExpiry => none
  | .strobe => none
  | .gridFrame dt _ => some dt
  | .ppsEdge dt _ _ => some dt
  | .secondTick _ => none
  | .clockSetDeadline => none
  | .ackTimerExpiry _ => none
  | .thawTimerExpiry _ => none
  | .operatingRecordStale _ => none
  | .intervalClose _ => none
  | .publishComplete dt _ => some dt
  | .transactionStart dt _ => some dt
  | .transactionHeader dt _ _ => some dt
  | .readDataWord dt _ => some dt
  | .writeDataWord dt _ _ => some dt
  | .recordWrite dt _ => some dt
  | .operatingArrival dt _ _ => some dt
  | .statusWrite dt _ _ => some dt
  | .lineDefinitionWrite dt _ _ _ => some dt
  | .shaftConfigurationWrite dt _ _ => some dt
  | .gridConfigurationWrite dt _ _ => some dt
  | .watchConfigurationWrite dt _ _ => some dt
  | .icingConfigurationWrite dt _ _ => some dt
  | .itemDefinitionWrite dt _ _ _ => some dt
  | .enableShaft dt _ _ => some dt
  | .disableShaft dt _ _ => some dt
  | .enableGear dt _ _ => some dt
  | .disableGear dt _ _ => some dt
  | .enableGrid dt _ _ => some dt
  | .disableGrid dt _ _ => some dt
  | .enableCoinc dt _ _ => some dt
  | .disableCoinc dt _ _ => some dt
  | .clearCoincidence dt _ _ => some dt
  | .enableIcing dt _ _ => some dt
  | .disableIcing dt _ _ => some dt
  | .icingReport dt _ _ => some dt
  | .icingRelease dt _ _ => some dt
  | .learnBaseline dt _ _ => some dt
  | .restartRequest dt _ _ => some dt
  | .ackCap dt _ _ => some dt
  | .clockArm dt _ _ => some dt
  | .counterRestore dt _ _ => some dt
  | .itemDone dt _ _ => some dt
  | .itemDefer dt _ _ => some dt
  | .enableMaint dt _ _ => some dt
  | .disableMaint dt _ _ => some dt
  | .journalAdvance dt _ _ => some dt
  | .attnMask dt _ _ => some dt
  | .unknownCommand dt _ _ _ => some dt
  | .portReset dt _ => some dt
  | .partReset _ _ _ => none
  | .headerWord dt _ _ => some dt
  | .fillerWord dt _ _ => some dt
  | .commandWord dt _ _ => some dt
  | .invalidJobCode dt _ _ _ _ => some dt
  | .portResetRelease dt _ => some dt

/-! ### Edges of the shaft lines (R3, R4, R6, R12) -/

/-- The command that is an edge of a line of the Shaft Angle Unit. -/
def edgeOf (l : SauLine) (dt : Nat) (level : Bool) : Instr :=
  match l with
  | .a => .encoderEdge dt .a level
  | .b => .encoderEdge dt .b level
  | .z => .indexEdge dt level
  | .t => .toothEdge dt level
  | .lsz => .lsIndexEdge dt level

/-- The hold-off of R3: not 0, and less than its ticks since the last accepted edge of the line. -/
def HeldOff (l : SauLine) (s : State) : Prop :=
  s.sau.active.holdOff ≠ 0 ∧ ∃ e, (s.sau.line l).last = some e ∧ s.now < e + s.sau.active.holdOff

/-- The side of a line drops every edge (R3). -/
def Deaf (l : SauLine) (s : State) : Prop := (s.sau.side l.side).state = .off ∨ (s.sau.side l.side).state = .fault

/-- An edge that R3 accepts and that changes the held level of its line. -/
def EdgeTaken (l : SauLine) (level : Bool) (s : State) : Prop :=
  ¬Deaf l s ∧ ¬HeldOff l s ∧ (s.sau.line l).held ≠ level

/-- The SAU once a line has taken an edge: present and held level follow it, and the edge has its time (R3). -/
def State.seen (s : State) (l : SauLine) (level : Bool) : Sau := s.sau.setLine l ⟨level, level, some s.now⟩

/-- The table of R4: the count of an edge, from the line, the level it rises or falls to, the other line's held level and the mode. -/
def countTable (line : EncoderLine) (level other : Bool) (mode : DecodeMode) : Int :=
  match line, level, other, mode with
  | .a, true, false, _ => 1
  | .a, true, true, _ => -1
  | .a, false, _, .x1 => 0
  | .a, false, true, _ => 1
  | .a, false, false, _ => -1
  | .b, true, true, .x4 => 1
  | .b, true, false, .x4 => -1
  | .b, false, false, .x4 => 1
  | .b, false, true, .x4 => -1
  | .b, _, _, _ => 0

/-- The line a side's index arrives on. -/
def indexLine : Side → SauLine
  | .hs => .z
  | .ls => .lsz

/-- A forward index of a side: a rising edge taken while REVERSE is clear, on Z with the held A and B levels in the configured quadrant (R6,
R12). -/
def ForwardIndex (sd : Side) (s : State) : Prop :=
  EdgeTaken (indexLine sd) true s ∧ s.sau.reverse = false ∧
    (sd = .hs → s.sau.la.held = s.sau.active.quadA ∧ s.sau.lb.held = s.sau.active.quadB)

/-- The slip check of R6: REFERENCED, and a count that is not a full turn (C_hs, or 128 teeth). -/
def IsSlip (sd : Side) (s : State) : Prop :=
  (s.sau.side sd).referenced = true ∧
    (s.sau.side sd).position ≠ (match sd with | .hs => ((s.sau.active.counts : Nat) : Int) | .ls => 128)

/-- The other side. -/
def otherSide : Side → Side
  | .hs => .ls
  | .ls => .hs

/-- A command that is an angle point of a side while REVERSE stands clear, and goes on standing clear: a forward count that brings the HS
position to a multiple of D (R4, R5), or a tooth (R11). -/
def AnglePoint (sd : Side) (i : Instr) (u : State) : Prop :=
  u.sau.reverse = false ∧
    match sd with
    | .hs => ∃ dt line level, i = .encoderEdge dt line level ∧
        EdgeTaken (match line with | .a => .a | .b => .b) level u ∧
        countTable line level (match line with | .a => u.sau.lb.held | .b => u.sau.la.held) u.sau.active.mode = 1 ∧
        max (-2147483648) (min 2147483647 (u.sau.hs.position + 1)) % (u.sau.active.dec : Int) = 0
    | .ls => ∃ dt, i = .toothEdge dt true ∧ EdgeTaken .t true u

/-! ### Journal entries of one event (R172) -/

/-- The event that leaves `t` appends first these entries, in this order, to the journal of `s`; others may follow. Every entry of an event
carries the present time as the event leaves it. -/
def JournalsFirst (bs : List EntryBody) (s t : State) : Prop :=
  ∃ rest, t.ej = ((s.setCc t.cc).journalAll (bs ++ rest)).ej

/-- The event that leaves `t` appends this entry to the journal of `s`, among others. -/
def Journals (b : EntryBody) (s t : State) : Prop :=
  ∃ first rest, t.ej = ((s.setCc t.cc).journalAll (first ++ b :: rest)).ej

/-- The event that leaves `t` appends these entries, one after the other, to the journal of `s`, among others. -/
def JournalsRun (bs : List EntryBody) (s t : State) : Prop :=
  ∃ first rest, t.ej = ((s.setCc t.cc).journalAll (first ++ bs ++ rest)).ej

/-! ### Completions of frames, windows and blocks (R35, R74, R85) -/

/-- "c = min(65535, floor(isqrt(I² + Q²) / (N × 1024)))", and whether the min took 65535 in place of a greater value (R35, R73). -/
def codeOf (n : Nat) (i q : Int) : Nat × Bool :=
  let x := isqrt (i ^ 2 + q ^ 2).toNat / (n * 1024)
  (min 65535 x, decide (65535 < x))

/-- The LEVEL entries of an evaluation of line `n` with code `code` that takes its condition from `a` to `b`: an UNRATED line first becomes
NORMAL at E_code = code, and a level it is then judged into has its own entry (R46, R50). -/
def levelChanges (n code : Nat) (a b : Cond) : List EntryBody :=
  let entry := fun (x y : Level) (v : Nat) =>
    ({ source := .gcm, inst := some n, kind := .level, fromState := some x.code, toState := some y.code, value := v } : EntryBody)
  if a.level = .unrated then
    entry .unrated .normal code :: (if b.level = .normal then [] else [entry .normal b.level (b.e / 256)])
  else if b.level = a.level then []
  else [entry a.level b.level (b.e / 256)]

/-- The results of one channel: codes and marks, the THD of its codes, and whether it is NO_FUND, where the last THD stands (R74; log entry
41). -/
def thdFrom (floor old : Nat) (slots codes : List Nat) : Nat × Bool :=
  let sum := ((List.range 16).filter (fun k => k ≠ 0 ∧ tget slots k ≠ 0)).map (fun k => tget codes k ^ 2)
  if tget codes 0 < floor then (old, true) else (min 65535 (10000 * isqrt sum.sum / tget codes 0), false)

/-- The highest current aggregates that the entry records show at a publish of them: the greatest of the three aggregates of the entry's slot,
and 0 while the snapshot is absent (R93; log entry 43). -/
def shownHigh (c : Cw) : List Nat :=
  (List.range 8).map (fun e =>
    match c.elec with
    | some y => (y.aggs.map (fun a => tget a (tget c.config.slot e))).foldl max 0
    | none => 0)

/-- What an evaluation of the Coincidence Watch with this cause leaves, from its tables as they now stand (R87 to R92): visible lines and
entries, live pairs, the union of the latched sets, the first pair in line order and then entry order, the latch of every port with its COINC
entry when the latched sets come to hold something, and slot COINC. -/
def Evaluated (cause : EvalCause) (s t : State) : Prop :=
  let c := t.cw
  let seen := fun n => ∃ x, tget c.mech n = some x ∧ (tget t.gcm.defs n).enabled = true ∧ (tget t.gcm.defs n).source = x.source ∧
    (tget t.gcm.defs n).floor ≤ x.code
  let heard := fun e => tget c.config.m e ≠ 0 ∧ ∃ x, c.elec = some x ∧ tget x.slots (tget c.config.slot e) ≠ 0 ∧
    ∃ a ∈ x.aggs, tget c.config.floor e ≤ tget a (tget c.config.slot e)
  let pair := fun (n e : Nat) (fm fe : Nat) => n < 24 ∧ e < 8 ∧ seen n ∧ heard e ∧
    (∃ x, tget c.mech n = some x ∧ fm = x.fm) ∧ (∃ y, c.elec = some y ∧ fe = tget c.config.m e * y.fWin) ∧
    ((fm : Int) - (fe : Int)).natAbs ≤ c.config.tol
  let live := fun n e => ∃ fm fe, pair n e fm fe
  c.count = (s.cw.count + 1) % 65536 ∧ c.cause = cause ∧ c.entryHigh = shownHigh c ∧
  (∀ n, n ∈ c.visLines ↔ n < 24 ∧ seen n) ∧ (∀ e, e ∈ c.visEntries ↔ e < 8 ∧ heard e) ∧
  (∀ e y, e < 8 → c.elec = some y → tget c.entryFreq e = tget c.config.m e * y.fWin) ∧
  (∀ n, n ∈ c.liveLines ↔ ∃ e, live n e) ∧ (∀ e, e ∈ c.liveEntries ↔ ∃ n, live n e) ∧
  (∀ n, n ∈ c.latchedLines ↔ n < 24 ∧ (n ∈ s.cw.latchedLines ∨ n ∈ c.liveLines)) ∧
  (∀ e, e ∈ c.latchedEntries ↔ e < 8 ∧ (e ∈ s.cw.latchedEntries ∨ e ∈ c.liveEntries)) ∧
  ((s.cw.latchedLines ≠ [] ∨ c.liveLines = []) →
    c.firstPair = s.cw.firstPair ∧ ∀ p, (t.rep.get p).latch = (s.rep.get p).latch) ∧
  (s.cw.latchedLines = [] → ∀ n e fm fe, pair n e fm fe → (∀ m k, live m k → n < m ∨ (n = m ∧ e ≤ k)) →
    c.firstPair = some ⟨n, e, fm, fe⟩ ∧ (∀ p, (t.rep.get p).latch = true) ∧
    Journals { source := .cw, inst := some n, kind := .coinc, fromState := some 0, toState := some 1, value := (e : Int) } s t) ∧
  (s.cw.liveLines = [] → c.liveLines ≠ [] → 2 < s.lb.slots.length →
    (tget t.lb.slots 2).active = true ∧ (tget t.lb.slots 2).cap = c.config.coincCap ∧ (tget t.lb.slots 2).code = .live) ∧
  (s.cw.liveLines ≠ [] → c.liveLines = [] → (tget t.lb.slots 2).active = false) ∧
  ((s.cw.liveLines = [] ↔ c.liveLines = []) → tget t.lb.slots 2 = tget s.lb.slots 2)

/-- The watch takes a table and evaluates nothing: its sets, its first pair, the latches and slot COINC stand (R85, R86, R87). -/
def TakenOnly (s t : State) : Prop :=
  t.cw = { s.cw with mech := t.cw.mech, elec := t.cw.elec, entryHigh := shownHigh t.cw } ∧
    tget t.lb.slots 2 = tget s.lb.slots 2 ∧ ∀ p, (t.rep.get p).latch = (s.rep.get p).latch

/-! ### Control words (R193, R194) -/

/-- A control word: port, command and argument. -/
structure ControlWord where
  dt : Nat
  port : PortId
  command : Command
  arg : Word
deriving DecidableEq, Repr

/-- The control word of a row of the table that gives a command. -/
def controlOf : Instr → Option ControlWord
  | .enableShaft dt p arg => some ⟨dt, p, .enable .shaft, arg⟩
  | .disableShaft dt p arg => some ⟨dt, p, .disable .shaft, arg⟩
  | .enableGear dt p arg => some ⟨dt, p, .enable .gear, arg⟩
  | .disableGear dt p arg => some ⟨dt, p, .disable .gear, arg⟩
  | .enableGrid dt p arg => some ⟨dt, p, .enable .grid, arg⟩
  | .disableGrid dt p arg => some ⟨dt, p, .disable .grid, arg⟩
  | .enableCoinc dt p arg => some ⟨dt, p, .enable .coinc, arg⟩
  | .disableCoinc dt p arg => some ⟨dt, p, .disable .coinc, arg⟩
  | .clearCoincidence dt p arg => some ⟨dt, p, .clearCoincidence, arg⟩
  | .enableIcing dt p arg => some ⟨dt, p, .enable .icing, arg⟩
  | .disableIcing dt p arg => some ⟨dt, p, .disable .icing, arg⟩
  | .icingReport dt p arg => some ⟨dt, p, .icingReport, arg⟩
  | .icingRelease dt p arg => some ⟨dt, p, .icingRelease, arg⟩
  | .learnBaseline dt p arg => some ⟨dt, p, .learnBaseline, arg⟩
  | .restartRequest dt p arg => some ⟨dt, p, .restartRequest, arg⟩
  | .ackCap dt p arg => some ⟨dt, p, .ackCap, arg⟩
  | .clockArm dt p arg => some ⟨dt, p, .clockArm, arg⟩
  | .counterRestore dt p arg => some ⟨dt, p, .counterRestore, arg⟩
  | .itemDone dt p arg => some ⟨dt, p, .itemDone, arg⟩
  | .itemDefer dt p arg => some ⟨dt, p, .itemDefer, arg⟩
  | .enableMaint dt p arg => some ⟨dt, p, .enable .maint, arg⟩
  | .disableMaint dt p arg => some ⟨dt, p, .disable .maint, arg⟩
  | .journalAdvance dt p arg => some ⟨dt, p, .journalAdvance, arg⟩
  | .attnMask dt p arg => some ⟨dt, p, .attnMask, arg⟩
  | _ => none

/-- The roles that may give a command, as its own rule and R193 list them. -/
def givers : Command → List Role
  | .enable .grid => [.turbine, .converter, .farm]
  | .disable .grid => [.turbine, .converter, .farm]
  | .enable _ => [.turbine, .farm]
  | .disable _ => [.turbine, .farm]
  | .clearCoincidence => [.turbine, .converter, .farm]
  | .icingReport => [.turbine]
  | .icingRelease => [.farm]
  | .learnBaseline => [.farm]
  | .restartRequest => [.turbine]
  | .ackCap => [.turbine]
  | .clockArm => [.farm]
  | .counterRestore => [.farm]
  | .itemDone => [.farm]
  | .itemDefer => [.farm]
  | .journalAdvance => [.turbine, .converter, .farm, .observer]
  | .attnMask => [.turbine, .converter, .farm, .observer]

/-- A port can take the control word whose command word, as received, is `raw`: it is not held in port reset, and either it is IDLE with an
empty command buffer and the row stands for the whole word pair, `raw` being `canonical`, or it is in DATA of a CONTROL write whose command
buffer holds `raw` (R193; log entry 4). -/
def PortTakes (p : PortId) (canonical raw : Word) (s : State) : Prop :=
  (s.pi.get p).held = false ∧
    (((s.pi.get p).phase = .idle ∧ (s.pi.get p).command = none ∧ raw = canonical) ∨
      ((s.pi.get p).phase = .data ∧ (s.pi.get p).command = some raw ∧
        ∃ h, (s.pi.get p).header = some h ∧ h.write = true ∧ h.control = true))

/-- A port can take a command as the command word `raw`. -/
def Delivers (p : PortId) (c : Command) (raw : Word) (s : State) : Prop :=
  PortTakes p c.word raw s ∧ commandOfWord raw = .command c

/-- The state with an answer in the issuing port's result record: the count goes up by 1, wrapping at 65535, the record takes command, argument,
answer and reason, and the command buffer is empty (R194). -/
def State.answered (s : State) (p : PortId) (raw arg : Word) (a : Answer) (r : Reason) : State :=
  s.setPort p { s.pi.get p with
    command := none
    result := ⟨((s.pi.get p).result.count + 1) % 65536, raw, arg, a, r⟩ }

/-! ### Whole writes -/

/-- Every word written, both bytes of each. -/
def whole (ws : List Word) : List MaskedWord := ws.map (fun w => ⟨w, true, true⟩)

/-- A port that can begin a transaction (R185, R196). -/
def PortReady (p : PortId) (s : State) : Prop := (s.pi.get p).phase = .idle ∧ (s.pi.get p).held = false

/-- The last byte of a half that a write buffer holds for a position, in the order of arrival (R189). -/
def lastByte (high : Bool) (buf : List BufferWord) (r o : Nat) : Option Byte :=
  ((buf.filter (fun b => decide (b.record = r) && decide (b.offset = o) && (if high then b.word.hi else b.word.lo))).map
    (fun b => b.word.value.extractLsb' (if high then 8 else 0) 8)).getLast?

/-- What a write buffer holds for a position: the last byte written of each half, and which halves are written (R189). -/
def bufferedWord (buf : List BufferWord) (r o : Nat) : MaskedWord :=
  ⟨(lastByte true buf r o).getD 0 ++ (lastByte false buf r o).getD 0, (lastByte true buf r o).isSome, (lastByte false buf r o).isSome⟩

/-- A port in DATA of a RECORD write to a group, whose write buffer holds the words `ws` of record `r`, both bytes of each, from word 0 on
(R189). -/
def Closing (p : PortId) (g r : Nat) (ws : List Word) (s : State) : Prop :=
  (s.pi.get p).phase = .data ∧
    (∃ h, (s.pi.get p).header = some h ∧ h.write = true ∧ h.control = false ∧ h.group = g) ∧
    (s.pi.get p).buffer = ws.zipIdx.map (fun w => ⟨r, w.2, ⟨w.1, true, true⟩⟩)

/-- The state with a port IDLE and its buffers empty, as the end of its transaction leaves it (R185). -/
def State.portClosed (s : State) (p : PortId) : State :=
  s.setPort p { s.pi.get p with
    phase := .idle, words := [], header := none, answer := none, filler := 0, snapshot := [], denied := false, buffer := [],
    command := none }

/-- Every slot of the board outside the list is as it was. -/
def SlotsElsewhere (ks : List Nat) (s t : State) : Prop := ∀ k, k ∉ ks → tget t.lb.slots k = tget s.lb.slots k

/-- Every port's copy has a flag set (R175). -/
def FlagInEveryCopy (f : Flag) (s : State) : Prop := ∀ p, (s.rep.get p).hasFlag f = true

/-- A whole one-record write: ticks, port, group, record and masked words. -/
structure WholeWrite where
  dt : Nat
  port : PortId
  group : Nat
  record : Nat
  words : List MaskedWord
deriving DecidableEq, Repr

/-- The rows of the table that are whole writes to one record. -/
def wholeWriteOf : Instr → Option WholeWrite
  | .operatingArrival dt p ws => some ⟨dt, p, 8, 0, ws⟩
  | .statusWrite dt p ws => some ⟨dt, p, 15, portNumber p, ws⟩
  | .lineDefinitionWrite dt p n ws => if n < 24 then some ⟨dt, p, 3, n, ws⟩ else none
  | .shaftConfigurationWrite dt p ws => some ⟨dt, p, 2, 0, ws⟩
  | .gridConfigurationWrite dt p ws => some ⟨dt, p, 5, 0, ws⟩
  | .watchConfigurationWrite dt p ws => some ⟨dt, p, 7, 0, ws⟩
  | .icingConfigurationWrite dt p ws => some ⟨dt, p, 9, 0, ws⟩
  | .itemDefinitionWrite dt p n ws => if n < 32 then some ⟨dt, p, 13, n, ws⟩ else none
  | _ => none

/-- The roles that write a group other than 15 (R190). -/
def writers : Nat → List Role
  | 2 => [.turbine, .farm]
  | 3 => [.farm]
  | 5 => [.converter, .farm]
  | 7 => [.farm]
  | 8 => [.turbine]
  | 9 => [.farm]
  | 10 => [.farm]
  | 11 => [.farm]
  | 12 => [.farm]
  | 13 => [.farm]
  | _ => []

/-! ### The sample links and the grid lock (R19, R69, R64) -/

/-- "Its parity is correct when the count of ones in those 17 bits is odd" (R19, R69). -/
def OddParity (w : LinkWord) : Prop :=
  ((List.range 16).countP (fun n => w.sample.getLsbD n) + (if w.parity then 1 else 0)) % 2 = 1

/-- The table of R64: the new lock state, from the old one, the validity of the period, and the valid count after it. -/
def lockTable (l : LockState) (valid : Bool) (count : Nat) : LockState :=
  match l, valid with
  | .locked, true => .locked
  | .locked, false => .freqOut
  | .unlocked, true => if count = 2 then .locked else .unlocked
  | .freqOut, true => if count = 2 then .locked else .freqOut
  | .unlocked, false => .unlocked
  | .freqOut, false => .freqOut

/-! ### The Limit Board -/

/-- The board shows the least cap of its active slots, the governing slot is the first that has it, and the ack timer runs only at a cap
below A_cap (R122, R125, R127, R128). Caps lie in 0..100 where they are configured and where they are posted (R121). -/
def BoardOk (s : State) : Prop :=
  s.lb.slots.length = 28 ∧
  (∀ x ∈ s.lb.slots, x.cap ≤ 100) ∧
  (∀ d ∈ s.gcm.defs, d.alertCap ≤ 100 ∧ d.dangerCap ≤ 100) ∧
  s.ghm.config.gridCap ≤ 100 ∧ s.cw.config.coincCap ≤ 100 ∧ s.icd.config.suspectCap ≤ 100 ∧
  (∀ x ∈ s.lb.slots, x.active = true → s.lb.cap ≤ x.cap) ∧
  (s.lb.gov = none → s.lb.cap = 100 ∧ ∀ x ∈ s.lb.slots, x.active = false) ∧
  (∀ i, s.lb.gov = some i →
    i < 28 ∧ (tget s.lb.slots i).active = true ∧ (tget s.lb.slots i).cap = s.lb.cap ∧
      ∀ j, j < i → (tget s.lb.slots j).active = true → s.lb.cap < (tget s.lb.slots j).cap) ∧
  (1 ≤ s.lb.tAck ∧ s.lb.tAck ≤ 120) ∧
  (∀ n, s.lb.timer = some n → 1 ≤ n ∧ n ≤ 120 ∧ s.lb.cap < s.lb.aCap)

/-- "The hard-stop line is never asserted while the effective cap is above 0 and the acknowledged generation equals the current generation"
(R130). -/
def StopSafe (s : State) : Prop := s.lb.line = true → s.lb.cap = 0 ∨ s.lb.gen ≠ s.lb.aGen

/-- A slot as a poster left it. -/
def Posted (x : Slot) (cap : Nat) (code : SlotCode) : Prop := x.active = true ∧ x.cap = cap ∧ x.code = code

/-- Slot GL(n) stands as the level of line n says, with the cap of that level (R51). -/
def GearSlotsOk (s : State) : Prop :=
  s.lb.slots.length = 28 ∧ s.gcm.defs.length = 24 ∧ s.gcm.conds.length = 24 ∧
  ∀ n, n < 24 →
    match (tget s.gcm.conds n).level with
    | .alert => Posted (tget s.lb.slots (4 + n)) (tget s.gcm.defs n).alertCap .alert
    | .danger => Posted (tget s.lb.slots (4 + n)) (tget s.gcm.defs n).dangerCap .danger
    | _ => (tget s.lb.slots (4 + n)).active = false

/-- Slot ICING stands as the icing state says (R112). -/
def IcingSlotOk (s : State) : Prop :=
  s.lb.slots.length = 28 ∧
  match s.icd.state with
  | .iced => Posted (tget s.lb.slots 0) 0 .iced
  | .thaw => Posted (tget s.lb.slots 0) 0 .thaw
  | .suspect => Posted (tget s.lb.slots 0) s.icd.config.suspectCap .suspect
  | _ => (tget s.lb.slots 0).active = false

/-- The slots MAINT, COINC and GRID stand as the schedule, the watch and the conformance say (R161, R92, R79); a disabled schedule has nothing
posted (R168), and a disabled grid monitor is CONFORMING with its loss timer stopped (R82). -/
def OtherSlotsOk (s : State) : Prop :=
  s.lb.slots.length = 28 ∧
  (s.ms.posted = if s.jobs.maint then maintCap s.ms.items else none) ∧
  (match s.ms.posted with
    | some c => Posted (tget s.lb.slots 1) c .overdue
    | none => (tget s.lb.slots 1).active = false) ∧
  (s.cw.liveLines ≠ [] → Posted (tget s.lb.slots 2) s.cw.config.coincCap .live) ∧
  (s.cw.liveLines = [] → (tget s.lb.slots 2).active = false) ∧
  (s.jobs.grid = false → s.ghm.exceeding = false ∧ s.ghm.loss = none) ∧
  (s.ghm.exceeding = true → Posted (tget s.lb.slots 3) s.ghm.config.gridCap .exceeding) ∧
  (s.ghm.exceeding = false → (tget s.lb.slots 3).active = false)

/-! ### The journal -/

/-- "The journal holds at most 256 entries with consecutive sequence numbers, and every port cursor lies between the oldest retained sequence
and one past the newest" (R170). -/
def JournalOk (s : State) : Prop :=
  s.ej.ring ≠ [] ∧ s.ej.ring.length ≤ 256 ∧ s.ej.next < 4294967296 ∧
  (∀ i, i < s.ej.ring.length →
    (tget s.ej.ring i).seq = (s.ej.next + 4294967296 - (s.ej.ring.length - i)) % 4294967296) ∧
  ∀ p, (s.rep.get p).cursor < 4294967296 ∧ pendingCount s.ej (s.rep.get p) ≤ s.ej.ring.length

/-! ### The Coincidence Watch -/

/-- Every live line and entry is also latched, each set holds a number at most once, the sets of a kind are empty together, and the first pair is
present exactly while something is latched (R90, R91). -/
def WatchOk (s : State) : Prop :=
  (∀ n ∈ s.cw.liveLines, n ∈ s.cw.latchedLines) ∧ (∀ e ∈ s.cw.liveEntries, e ∈ s.cw.latchedEntries) ∧
  (∀ n ∈ s.cw.latchedLines, n < 24) ∧ (∀ e ∈ s.cw.latchedEntries, e < 8) ∧
  s.cw.liveLines.Nodup ∧ s.cw.liveEntries.Nodup ∧ s.cw.latchedLines.Nodup ∧ s.cw.latchedEntries.Nodup ∧
  (s.cw.liveLines = [] ↔ s.cw.liveEntries = []) ∧ (s.cw.latchedLines = [] ↔ s.cw.latchedEntries = []) ∧
  (s.cw.latchedLines = [] ↔ s.cw.firstPair = none)

/-! ### The frame engines -/

/-- The tables of lines hold 24 entries; a WAITING engine has no in-frame item (R41, log entry 15), and the lines of a frame are line
numbers in line order (R26). -/
def FramesOk (s : State) : Prop :=
  s.gcm.defs.length = 24 ∧ s.gcm.conds.length = 24 ∧ s.ocr.results.length = 24 ∧ s.cw.mech.length = 24 ∧
  ∀ sd : Side,
    ((s.ocr.engine sd).collecting = false →
      (s.ocr.engine sd).frame = ⟨0, 0, 0, 0, 0, [], 0, 0, 0, 4294967295, 0, 0⟩) ∧
    (∀ l ∈ (s.ocr.engine sd).frame.lines, l.line < 24) ∧ (s.ocr.engine sd).frame.lines.Pairwise (fun a b => a.line < b.line)

/-! ### Configurations -/

/-- The orders that writes keep: the thresholds of a line (R43), the speed bands of the correlator (R24), and the two orders of the icing
configuration (R101). -/
def OrderedOk (s : State) : Prop :=
  (∀ d ∈ s.gcm.defs, d.alertOff ≤ d.alertOn ∧ d.alertOn ≤ d.dangerOn ∧ d.dangerOff ≤ d.dangerOn) ∧
  s.ocr.config.vMinHs ≤ s.ocr.config.vMaxHs ∧ s.ocr.config.vMinLs ≤ s.ocr.config.vMaxLs ∧
  s.icd.config.tIce ≤ s.icd.config.tThaw ∧ s.icd.config.cutIn ≤ s.icd.config.rated

/-! ### The operating counters -/

/-- Every operating counter lies within its width, and there are sixteen bins (R149). -/
def CountersOk (s : State) : Prop :=
  s.cc.seconds ≤ 4294967295 ∧ s.cc.bins.length = 16 ∧ s.cc.baseBins.length = 16 ∧
  (∀ b ∈ s.cc.bins, b ≤ 281474976710655) ∧ s.cc.damage ≤ 18446744073709551615

/-! ### Ports -/

/-- A port has its strapped role or OBSERVER, and no two ports have the same role other than OBSERVER (R184). -/
def RolesOk (s : State) : Prop :=
  (∀ p, (s.pi.get p).role = (s.pi.get p).strapped ∨ (s.pi.get p).role = .observer) ∧
  ∀ p q, p ≠ q → (s.pi.get p).role = (s.pi.get q).role → (s.pi.get p).role = .observer

/-- The sweep of a transaction in range stands on a word that exists, in the record of its header while the sweep is CONFINED or in its first
pass (R188). A CONTROL write has no positions. -/
def SweepOk (s : State) : Prop :=
  ∀ p h, (s.pi.get p).header = some h → h.outOfRange = false → (h.write && h.control) = false →
    h.sweep ≠ none ∧ h.record < h.records ∧ h.offset < h.length h.record ∧
    (s.pi.get p).record < h.records ∧ (s.pi.get p).offset < h.length (s.pi.get p).record ∧
    (h.sweep = some .confined → (s.pi.get p).record = h.record) ∧
    (h.sweep = some .confinedThenRunning → (s.pi.get p).firstPass = true → (s.pi.get p).record = h.record)

/-- A command that can clear flags of port `p`: a port reset of that port, a part reset, or the completion of a write of that port to group 15
(R175, R176). -/
def ClearsFlags (c : Instr) (p : PortId) (s : State) : Prop :=
  (∃ dt, c = .portReset dt p) ∨ (∃ a b d, c = .partReset a b d) ∨ (∃ dt ws, c = .statusWrite dt p ws) ∨
    (∃ dt h, c = .recordWrite dt p ∧ (s.pi.get p).header = some h ∧ h.write = true ∧ h.control = false ∧ h.group = 15)

/-! ### The schedule -/

/-- "While the schedule is enabled and an item's source is valid, a PENDING item's due value is above its current value" (R158). -/
def ScheduleOk (s : State) : Prop :=
  s.jobs.maint = true → ∀ x ∈ s.ms.items, ∀ y, x.part = some y → y.state = .pending →
    s.ms.sample.valid x.inForce.kind = true → s.ms.sample.value x.inForce.kind < y.due

/-- The three steps of R157 on one present item whose source is valid, read together: what an evaluation at value `v` makes of a state part. -/
def evaluated (grace v : Nat) (y : ItemPart) : ItemPart :=
  match y.state with
  | .pending =>
    if v < y.due then y else if v < y.due + grace then { y with state := .due } else { y with state := .overdue }
  | .due => if v < y.due + grace then y else { y with state := .overdue }
  | .overdue => y
  | .deferred => if v < y.deferUntil.getD 0 then y else { y with state := .overdue, deferUntil := none }

/-- The table of R155: an item slot once a second tick has taken its written definition into force. -/
def taken (x : Item) : Item :=
  let starts : ItemPart := ⟨.pending, x.written.firstDue, none, none, none, false⟩
  if x.takePending then
    { written := x.written
      inForce := x.written
      takePending := false
      part :=
        match x.inForce.present, x.written.present with
        | false, false => x.part
        | false, true => some starts
        | true, true => if x.inForce.kind = x.written.kind then x.part else some starts
        | true, false => none }
  else x

/-- The ITEM entry that taking the definition of slot `n` makes, if any (R155; the value where an item becomes absent: log entry 35). -/
def takenEntries (n : Nat) (x : Item) : List EntryBody :=
  let entry := fun (a b v : Nat) =>
    ({ source := .ms, inst := some n, kind := .item, fromState := some a, toState := some b, value := v } : EntryBody)
  if x.takePending then
    match x.inForce.present, x.written.present with
    | false, false => []
    | false, true => [entry 0 ItemState.pending.code x.written.code]
    | true, true => if x.inForce.kind = x.written.kind then [] else [entry (itemCode x.part) ItemState.pending.code x.written.code]
    | true, false => [entry (itemCode x.part) 0 x.inForce.code]
  else []

/-- An item slot once the evaluation of a second tick has judged it on the sample, while the schedule is enabled (R157). -/
def judged (maint : Bool) (smp : Sample) (x : Item) : Item :=
  { x with part := x.part.map (fun y =>
      if maint && smp.valid x.inForce.kind then evaluated x.inForce.grace (smp.value x.inForce.kind) y else y) }

/-- The ITEM entries of that evaluation of slot `n`: one for each change, through DUE where a PENDING item becomes OVERDUE (R157). -/
def judgedEntries (maint : Bool) (smp : Sample) (n : Nat) (x : Item) : List EntryBody :=
  let entry := fun (a b : ItemState) =>
    ({ source := .ms, inst := some n, kind := .item, fromState := some a.code, toState := some b.code, value := x.inForce.code } : EntryBody)
  match x.part, (judged maint smp x).part with
  | some y, some z =>
    if y.state = z.state then []
    else if y.state = .pending ∧ z.state = .overdue then [entry .pending .due, entry .due .overdue]
    else [entry y.state z.state]
  | _, _ => []

end Sys2Proof.Machine
end

