-- ==== Sys2Proof/Certificates/Slice0/Obligations.lean ====
section
/-! DEFINITION. The statements for the provers, in the order of the spec's chapters. `u` is the state after the ticks a command brings with
it (or after the clock has moved to the deadline of an expiry); what a command leaves is said against `u`. -/

section Statements

open Sys2Proof Sys2Proof.Machine

/-! ### The step -/

/-- The block takes the command at the front of its queue and runs it with the queue's rest; on an empty queue it idles (log entry 1: the
queue is the model's). -/
def Obligations.StepTakesTheFrontCommand : Prop :=
  (∀ (s : State) (c : Instr) (rest : List Instr), s.pending = c :: rest → step s = exec c { s with pending := rest }) ∧
  (∀ s : State, s.pending = [] → step s = .next s)

/-- Every command of the table answers a next state, leaves the queue alone, and moves the clock by the ticks it brings; an expiry never moves
it back, and the expiry of a stopped link or loss timer does nothing (log entries 1 and 2). -/
def Obligations.EveryCommandAnswersANextState : Prop :=
  (∀ (c : Instr) (s : State), ∃ t, exec c s = .next t ∧ t.pending = s.pending ∧
    match ticksOf c with
    | some dt => t.now = s.now + dt
    | none => (∃ a b d, c = .partReset a b d ∧ t.now = 0) ∨ s.now ≤ t.now) ∧
  (∀ s : State, s.ocr.link.timer = none → exec .linkTimerExpiry s = .next s) ∧
  (∀ s : State, s.ghm.loss = none → exec .lossTimerExpiry s = .next s)

/-! ### Shaft Angle Unit (chapter 1) -/

/-- R3: an edge that its side drops, that the hold-off drops, or that repeats the held level of its line gives no count, index or tooth. That an
edge on an OFF or FAULT side adds nothing to the dropped edge count, inside the hold-off too, is the model's choice, log entry 47. -/
def Obligations.DroppedOrRepeatedEdgeGivesNothing : Prop :=
  ∀ (l : SauLine) (dt : Nat) (level : Bool) (s : State),
    let u := s.advance dt
    (Deaf l u →
      exec (edgeOf l dt level) s = .next (u.setSau (u.sau.setLine l { u.sau.line l with present := level }))) ∧
    (¬Deaf l u → HeldOff l u →
      exec (edgeOf l dt level) s = .next (u.setSau
        ((u.sau.setLine l { u.sau.line l with present := level }).setSide l.side
          { u.sau.side l.side with dropped := min 65535 ((u.sau.side l.side).dropped + 1) }))) ∧
    (¬Deaf l u → ¬HeldOff l u → (u.sau.line l).held = level →
      exec (edgeOf l dt level) s = .next (u.setSau (u.seen l level)))

/-- R4, R5: an A or B edge that is taken moves the position by the count of the table, saturating; a forward count clears REVERSE and, at a
multiple of D, issues the angle point of its index, which is paired with the latest set and clears NEW (HS) (R22); a backward count sets REVERSE
with what R4, R12 and R13 clear. A change of REVERSE ends the COLLECTING frames of both sources with cause REVERSE (R28). (What an angle point
gives a frame is stated with ToothGivesTheFrameASample.) -/
def Obligations.EncoderEdgeCounts : Prop :=
  ∀ (dt : Nat) (line : EncoderLine) (level : Bool) (s : State),
    let u := s.advance dt
    let l := match line with | .a => SauLine.a | .b => SauLine.b
    let other := match line with | .a => u.sau.lb.held | .b => u.sau.la.held
    let n := countTable line level other u.sau.active.mode
    let x := u.seen l level
    let pos := max (-2147483648) (min 2147483647 (x.hs.position + n))
    EdgeTaken l level u →
    ∃ t, exec (.encoderEdge dt line level) s = .next t ∧ OnlyTouches [.sau, .ocr, .gcm, .ej, .rep, .pub] u t ∧
      (n = 0 → t = u.setSau x) ∧
      (n = 1 →
        t.sau = { x with
          hs := { x.hs with position := pos }
          reverse := false
          lastAngle :=
            if pos % (x.active.dec : Int) = 0 then
              some (.hs, (pos % ((x.active.eLines * x.active.mode.counts : Nat) : Int)).toNat / x.active.dec)
            else x.lastAngle }) ∧
      (n = -1 → x.reverse = true → t = u.setSau { x with hs := { x.hs with position := pos } }) ∧
      (n = -1 → x.reverse = false →
        t.sau = { x with
          hs := { x.hs with position := pos, timed := false }
          ls := { x.ls with timed := false, referenced := false }
          reverse := true
          armed := false
          ratio := 0 }) ∧
      (n = 1 → t.ocr.link = { u.ocr.link with newHs := if pos % (x.active.dec : Int) = 0 then false else u.ocr.link.newHs }) ∧
      (n = -1 → t.ocr.link = u.ocr.link) ∧
      (t.sau.reverse ≠ u.sau.reverse →
        t.ocr.hs.collecting = false ∧ t.ocr.ls.collecting = false ∧ t.ocr.results = u.ocr.results ∧
        (u.ocr.hs.collecting = true → t.ocr.hs.last = .discarded .reverse ∧ t.ocr.hs.seq = (u.ocr.hs.seq + 1) % 65536) ∧
        (u.ocr.ls.collecting = true → t.ocr.ls.last = .discarded .reverse ∧ t.ocr.ls.seq = (u.ocr.ls.seq + 1) % 65536))

/-- R6, R7, R12: an index edge that closes no period and is no SLIP. An edge that is not a qualified index gives nothing; a reverse index sets
the position to C_hs and REFERENCED; a forward index that finds TIMED clear reloads the count and starts timing. -/
def Obligations.IndexWithoutAPeriod : Prop :=
  ∀ (dt : Nat) (level : Bool) (s : State),
    let u := s.advance dt
    let quadrant := u.sau.la.held = u.sau.active.quadA ∧ u.sau.lb.held = u.sau.active.quadB
    (EdgeTaken .z level u → ¬(level = true ∧ quadrant) → exec (.indexEdge dt level) s = .next (u.setSau (u.seen .z level))) ∧
    (EdgeTaken .z true u → quadrant → u.sau.reverse = true →
      exec (.indexEdge dt true) s = .next (u.setSau
        { u.seen .z true with
          hs := { u.sau.hs with position := (u.sau.active.eLines * u.sau.active.mode.counts : Nat), referenced := true } })) ∧
    (EdgeTaken .lsz level u → (level = false ∨ u.sau.reverse = true) →
      exec (.lsIndexEdge dt level) s = .next (u.setSau (u.seen .lsz level))) ∧
    (∀ sd : Side,
      let x := u.sau.side sd
      ForwardIndex sd u → ¬IsSlip sd u → x.timed = false →
      exec (edgeOf (indexLine sd) dt true) s = .next (u.setSau ((u.seen (indexLine sd) true).setSide sd
        { x with
          consecutive := if x.referenced then 0 else x.consecutive
          position := 0
          referenced := true
          counter := 0
          timed := true
          standstill := if x.state = .tracking then some (u.now + u.sau.active.tStand * 40000000) else x.standstill })))

/-- R6, R8, R12, R13, R14, R15, R148: a forward index that is no SLIP and finds TIMED set closes the period the counter holds. The speed is the
quotient of R8 or R12 where it fits its field, and some value where the spec states none (log entry 9). A side that was not TRACKING moves to it,
and the STATE entry with the closing period is the first entry of the event. The HS revolution event counts in r and in the operating counters.
The LS one, on an armed check with G not 0, tests r: |256 × r − G| × 64 > G is a mismatch, which sets RATIO_MISMATCH and is journalled with r; then
r starts again, and the check is armed exactly while both sides are TRACKING. -/
def Obligations.ForwardIndexClosesThePeriod : Prop :=
  ∀ (sd : Side) (dt : Nat) (s : State),
    let u := s.advance dt
    let x := u.sau.side sd
    let k := match sd with | .hs => 38400000000 | .ls => 614400000000
    let b := min 15 ((max 0 u.icd.op.torque).toNat / 100)
    ForwardIndex sd u → ¬IsSlip sd u → x.timed = true →
    ∃ t v, exec (edgeOf (indexLine sd) dt true) s = .next t ∧
      OnlyTouches [.sau, .ocr, .gcm, .cw, .lb, .cc, .ms, .ej, .rep, .pub] u t ∧
      t.sau.side sd = { x with
        consecutive := if x.referenced then 0 else x.consecutive
        position := 0
        referenced := true
        counter := 0
        lastPeriod := x.counter
        speed := v
        speedValid := true
        state := .tracking
        standstill := some (u.now + u.sau.active.tStand * 40000000) } ∧
      (x.counter ≠ 0 → k / x.counter ≤ 4294967295 → v = k / x.counter) ∧
      t.sau.side (otherSide sd) = u.sau.side (otherSide sd) ∧ t.sau.reverse = false ∧
      (x.state ≠ .tracking → JournalsFirst
        [{ source := (match sd with | .hs => .sauHs | .ls => .sauLs), kind := .state, fromState := some x.state.code,
           toState := some SideState.tracking.code, value := (min x.counter 2147483647 : Nat) }] u t) ∧
      (sd = .hs →
        t.sau.ratio = min 65535 (u.sau.ratio + 1) ∧ t.sau.armed = u.sau.armed ∧ t.sau.testedR = u.sau.testedR ∧
        t.sau.mismatch = u.sau.mismatch ∧
        t.cc = { u.cc with
          bins := u.cc.bins.set b (min 281474976710655 (tget u.cc.bins b + 1))
          damage := min 18446744073709551615 (u.cc.damage + tget u.cc.config.weights b) }) ∧
      (sd = .ls → t.sau.ratio = 0 ∧ (t.sau.armed = true ↔ u.sau.hs.state = .tracking) ∧ t.cc = u.cc ∧
        let tests := u.sau.armed = true ∧ u.sau.active.gearRatio ≠ 0
        (¬tests → t.sau.testedR = u.sau.testedR ∧ t.sau.mismatch = u.sau.mismatch) ∧
        (tests → t.sau.testedR = u.sau.ratio ∧
          (t.sau.mismatch = true ↔
            u.sau.active.gearRatio < (256 * (u.sau.ratio : Int) - (u.sau.active.gearRatio : Int)).natAbs * 64) ∧
          (t.sau.mismatch = true → FlagInEveryCopy .ratioMismatch t ∧
            Journals { source := .sauLs, kind := .ratioMismatch, value := u.sau.ratio } u t)))

/-- R25, R26: at a revolution event a WAITING engine starts a frame exactly when the GEAR job is enabled, the speed lies in the band, the link is
UP and some enabled line names the source; the frame captures those lines in line order.
R27 to R31, R35 to R39: at a revolution event a COLLECTING frame counts the revolution and its period. A speed outside the band ends it SPEED_BAND.
At revolution R it ends ENCODER, NONSTATIONARY or UNDERSAMPLED by the first test of R30 that fails, else EVALUATED: the codes of R35, NOT_EVALUABLE
with BAD_ORDER, and v_frame, some value where the spec states none (log entry 10). A counted discard leaves every line and can bring STALE (R53,
R54). An EVALUATED completion sets the discard count to 0, moves each evaluable line by Cond.evaluate, journals the LEVEL entries in line
order, hands GL slots and pull-forward signals for changed levels (R44, R50 to R52, R159), and fills the mechanical table, which an enabled watch
evaluates (R85, R87). The model's choices: the revolution that ends a frame is then tested as a start (log entry 14); a frame that ends
leaves the in-frame items idle (log entry 15); results and conditions carry the sequence after its increment (log entry 16); the correlator takes
the event before the ratio check (log entry 13); the entry records show 0 without a snapshot (log entry 43). -/
def Obligations.RevolutionStartsAFrame : Prop :=
  ∀ (sd : Side) (dt : Nat) (s : State),
    let u := s.advance dt
    let x := u.sau.side sd
    let e := u.ocr.engine sd
    let c := u.ocr.config
    let vMin := match sd with | .hs => c.vMinHs | .ls => c.vMinLs
    let vMax := match sd with | .hs => c.vMaxHs | .ls => c.vMaxLs
    let r := match sd with | .hs => c.rHs | .ls => c.rLs
    let fs := match sd with | .hs => u.sau.active.eLines * u.sau.active.mode.counts / u.sau.active.dec | .ls => 128
    let names := fun n => (tget u.gcm.defs n).enabled && decide ((tget u.gcm.defs n).source = sd)
    let fresh : Frame := ⟨fs, r, vMin, vMax, c.tol,
      ((List.range 24).filter names).map (fun n =>
        ⟨n, (tget u.gcm.defs n).channel, (tget u.gcm.defs n).kq, decide ((tget u.gcm.defs n).kq < 8 * fs), 0, 0, 0⟩),
      0, 0, 0, 4294967295, 0, 0⟩
    let idle : Frame := ⟨0, 0, 0, 0, 0, [], 0, 0, 0, 4294967295, 0, 0⟩
    ForwardIndex sd u → ¬IsSlip sd u → x.timed = true →
    ∃ t, exec (edgeOf (indexLine sd) dt true) s = .next t ∧
      OnlyTouches [.sau, .ocr, .gcm, .cw, .lb, .cc, .ms, .ej, .rep, .pub] u t ∧
      let v := (t.sau.side sd).speed
      let starts := u.jobs.gear = true ∧ vMin ≤ v ∧ v ≤ vMax ∧ u.ocr.link.up = true ∧ ∃ n, n < 24 ∧ names n = true
      (e.collecting = false →
        t.gcm = u.gcm ∧ t.cw = u.cw ∧ t.lb = u.lb ∧ t.ms = u.ms ∧ (¬starts → t.ocr = u.ocr) ∧
        (starts → t.ocr = u.ocr.setEngine sd { e with collecting := true, frame := fresh })) ∧
      (e.collecting = true → FramesOk u →
        let p := x.counter
        let f := { e.frame with
          revs := e.frame.revs + 1
          periodSum := e.frame.periodSum + p
          minP := min e.frame.minP p
          maxP := max e.frame.maxP p }
        let mean := f.periodSum / f.revs
        let n := f.s * f.r
        let out := v < f.vMin ∨ f.vMax < v
        let ends : Option DiscardCause :=
          if out then some .speedBand
          else if f.samples ≠ n then some .encoder
          else if f.tol * mean < (f.maxP - f.minP) * 1024 then some .nonstationary
          else if n < f.reuse * 8 then some .undersampled
          else none
        let waits := { e with
          seq := (e.seq + 1) % 65536, pMean := mean, lastMinP := f.minP, lastMaxP := f.maxP, lastReuse := f.reuse }
        let leaves := fun (y : Engine) (z : Ocr) =>
          (¬starts → t.ocr = z.setEngine sd { y with collecting := false, frame := idle }) ∧
          (starts → t.ocr = z.setEngine sd { y with collecting := true, frame := fresh })
        let listed := fun k => ∃ l ∈ f.lines, l.line = k ∧ l.evaluable = true
        let codes := fun (l : CapturedLine) => codeOf n l.i l.q
        let judged := fun (l : CapturedLine) =>
          (tget u.gcm.conds l.line).evaluate (tget u.gcm.defs l.line) (codes l).1 (codes l).2 waits.seq
        let changes := fun (l : CapturedLine) => (judged l).level ≠ (tget u.gcm.conds l.line).level
        let signals := f.lines.flatMap (fun l =>
          match (tget u.gcm.defs l.line).item with
          | some k => if l.evaluable = true ∧ changes l ∧ ((judged l).level = .alert ∨ (judged l).level = .danger) then
              [(⟨k, l.line, (judged l).level⟩ : Pull)] else []
          | none => [])
        let d := min 65535 (u.gcm.discards sd + 1)
        let turnsStale := fun k => 32 ≤ d ∧ names k = true
        let newly := ((List.range 24).filter (fun k => names k && !(tget u.gcm.conds k).stale)).length
        (¬out → f.revs ≠ f.r →
          t.ocr = u.ocr.setEngine sd { e with frame := f } ∧ t.gcm = u.gcm ∧ t.cw = u.cw ∧ t.lb = u.lb ∧ t.ms = u.ms) ∧
        (∀ cause, (out ∨ f.revs = f.r) → ends = some cause →
          leaves { waits with last := .discarded cause } u.ocr ∧ t.cw = u.cw ∧ t.lb = u.lb ∧ t.ms = u.ms ∧
          t.gcm.defs = u.gcm.defs ∧ t.gcm.discards sd = d ∧ t.gcm.discards (otherSide sd) = u.gcm.discards (otherSide sd) ∧
          t.gcm.conds.length = 24 ∧
          (∀ k, turnsStale k → k < 24 → tget t.gcm.conds k = { tget u.gcm.conds k with stale := true }) ∧
          (∀ k, ¬turnsStale k → tget t.gcm.conds k = tget u.gcm.conds k) ∧
          (32 ≤ d → 0 < newly → FlagInEveryCopy .staleLines t ∧
            Journals { source := (match sd with | .hs => .gcmHs | .ls => .gcmLs), kind := .stale, value := (newly : Int) } u t)) ∧
        (¬out → f.revs = f.r → ends = none →
          (∃ (vFrame : Nat) (fm : Nat → Nat), (∀ k, mean ≠ 0 → k = (match sd with | .hs => 38400000000 | .ls => 614400000000) / mean → k ≤ 4294967295 →
              vFrame = k) ∧
            leaves { waits with last := .evaluated, vFrame := vFrame } { u.ocr with results := t.ocr.results } ∧
            (∀ l ∈ f.lines, l.evaluable = true →
              tget t.cw.mech l.line = some ⟨sd, l.kq, (codes l).1, (codes l).2, vFrame, fm l.line⟩ ∧
              (∀ k, k = l.kq * vFrame / (match sd with | .hs => 960 | .ls => 15360) → k ≤ 4294967295 → fm l.line = k))) ∧
          (∀ k, ¬listed k → tget t.cw.mech k = tget u.cw.mech k) ∧ t.cw.elec = u.cw.elec ∧ t.cw.config = u.cw.config ∧
          (u.jobs.coinc = true → Evaluated (match sd with | .hs => .gearHs | .ls => .gearLs) u t) ∧
          (u.jobs.coinc = false → TakenOnly u t) ∧
          (∀ l ∈ f.lines, tget t.ocr.results l.line =
            if l.evaluable then ⟨.evaluated, (codes l).1, (codes l).2, l.i, l.q, sd, waits.seq⟩
            else { tget u.ocr.results l.line with kind := .notEvaluable, source := sd, seq := waits.seq }) ∧
          (∀ k, (∀ l ∈ f.lines, l.line ≠ k) → tget t.ocr.results k = tget u.ocr.results k) ∧
          ((∃ l ∈ f.lines, l.evaluable = false) → FlagInEveryCopy .badOrder t) ∧
          t.gcm.defs = u.gcm.defs ∧ t.gcm.discards sd = 0 ∧ t.gcm.discards (otherSide sd) = u.gcm.discards (otherSide sd) ∧
          (∀ l ∈ f.lines, l.evaluable = true → tget t.gcm.conds l.line = judged l) ∧
          (∀ k, ¬listed k → tget t.gcm.conds k = tget u.gcm.conds k) ∧
          JournalsFirst
            ((if x.state = .tracking then [] else
                [{ source := (match sd with | .hs => .sauHs | .ls => .sauLs), kind := .state, fromState := some x.state.code,
                   toState := some SideState.tracking.code, value := (min p 2147483647 : Nat) }]) ++
              f.lines.flatMap (fun l => if l.evaluable then levelChanges l.line (codes l).1 (tget u.gcm.conds l.line) (judged l) else []))
            u t ∧
          (u.lb.slots.length = 28 → ∀ l ∈ f.lines, l.evaluable = true → changes l →
            match (judged l).level with
            | .alert => Posted (tget t.lb.slots (4 + l.line)) (tget u.gcm.defs l.line).alertCap .alert
            | .danger => Posted (tget t.lb.slots (4 + l.line)) (tget u.gcm.defs l.line).dangerCap .danger
            | _ => (tget t.lb.slots (4 + l.line)).active = false) ∧
          (∀ k, k ≠ 1 → k ≠ 2 → (∀ l ∈ f.lines, l.evaluable = true → changes l → k ≠ 4 + l.line) →
            tget t.lb.slots k = tget u.lb.slots k) ∧
          ((u.jobs.maint = false ∨ signals = []) → t.ms = u.ms) ∧
          (u.jobs.maint = true → signals ≠ [] →
            t.ms.items = signals.foldl (fun ys g => ys.set g.item ((tget ys g.item).pull u.ms.sample g.item g).1) u.ms.items ∧
            t.ms.sample = u.ms.sample ∧ t.ms.posted = maintCap t.ms.items)))

/-- R6, R10, R12, R13: a SLIP counts, disarms the ratio check, sets SLIP in every copy, journals the count as it stood and ends the source's
frame. Below the third it restarts timing; the third puts the side in FAULT with its flag and its STATE entry after the SLIP entry. (What the
third leaves in the position count is the model's reading, log entry 12, and is not stated.) -/
def Obligations.SlipCountsAndTheThirdFaults : Prop :=
  ∀ (sd : Side) (dt : Nat) (s : State),
    let u := s.advance dt
    let x := u.sau.side sd
    let source := match sd with | .hs => Source.sauHs | .ls => Source.sauLs
    ForwardIndex sd u → IsSlip sd u →
    ∃ t, exec (edgeOf (indexLine sd) dt true) s = .next t ∧ OnlyTouches [.sau, .ocr, .gcm, .ej, .rep, .pub] u t ∧
      t.sau.armed = false ∧ t.sau.ratio = 0 ∧ t.sau.reverse = false ∧ t.sau.side (otherSide sd) = u.sau.side (otherSide sd) ∧
      FlagInEveryCopy .slip t ∧ (t.ocr.engine sd).collecting = false ∧
      (∃ e ∈ t.ej.ring, e.seq = u.ej.next ∧ e.source = source ∧ e.kind = .slip ∧ e.inst = none ∧
        e.value = max (-2147483648) (min 2147483647 x.position)) ∧
      (x.consecutive + 1 < 3 →
        t.sau.side sd = { x with
          consecutive := x.consecutive + 1
          total := min 65535 (x.total + 1)
          position := 0
          referenced := true
          counter := 0
          timed := true
          standstill := if x.state = .tracking then some (u.now + u.sau.active.tStand * 40000000) else x.standstill }) ∧
      (3 ≤ x.consecutive + 1 →
        (t.sau.side sd).state = .fault ∧ (t.sau.side sd).consecutive = x.consecutive + 1 ∧
        (t.sau.side sd).total = min 65535 (x.total + 1) ∧ (t.sau.side sd).speed = 0 ∧ (t.sau.side sd).speedValid = false ∧
        (t.sau.side sd).standstill = none ∧ (t.sau.side sd).timed = false ∧ (t.sau.side sd).lastPeriod = x.lastPeriod ∧
        FlagInEveryCopy (match sd with | .hs => .hsFault | .ls => .lsFault) t ∧
        ∃ e ∈ t.ej.ring, e.seq = (u.ej.next + 1) % 4294967296 ∧ e.source = source ∧ e.kind = .state ∧
          e.fromState = some x.state.code ∧ e.toState = some SideState.fault.code ∧ e.value = 0)

/-- R11: a tooth taken while REVERSE is clear issues the LS angle point of its index and adds 1 to the tooth count, saturating at 65535; with
REVERSE set, and at a falling edge, nothing is issued and the count stands. -/
def Obligations.ToothCounts : Prop :=
  ∀ (dt : Nat) (level : Bool) (s : State),
    let u := s.advance dt
    EdgeTaken .t level u →
    ((level = false ∨ u.sau.reverse = true) → exec (.toothEdge dt level) s = .next (u.setSau (u.seen .t level))) ∧
    (level = true → u.sau.reverse = false →
      ∃ t, exec (.toothEdge dt level) s = .next t ∧ OnlyTouches [.sau, .ocr, .gcm, .ej, .rep, .pub] u t ∧
        t.sau = { u.seen .t level with
          ls := { u.sau.ls with position := min 65535 (u.sau.ls.position + 1) }
          lastAngle := some (.ls, (u.sau.ls.position % 128).toNat) })

/-- R9, R13, R15, R28: at its deadline a running standstill timer takes the side to STANDSTILL: speed 0 and valid, TIMED clear, the timer
stopped, REVERSE as it stands; the ratio check is disarmed, the change journalled, and the source's frame ended. A stopped timer does not
expire (log entry 2). -/
def Obligations.StandstillTimerStopsTheSide : Prop :=
  ∀ (sd : Side) (s : State),
    ((s.sau.side sd).standstill = none → exec (.standstillTimerExpiry sd) s = .next s) ∧
    (∀ d, (s.sau.side sd).standstill = some d →
      let u := s.advanceTo d
      let x := u.sau.side sd
      ∃ t, exec (.standstillTimerExpiry sd) s = .next t ∧ OnlyTouches [.sau, .ocr, .gcm, .ej, .rep, .pub] u t ∧
        t.sau = { u.sau.setSide sd
            { x with state := .standstill, speed := 0, speedValid := true, timed := false, standstill := none } with
          armed := false
          ratio := 0 } ∧
        (t.ocr.engine sd).collecting = false ∧
        ∃ e ∈ t.ej.ring, e.seq = u.ej.next ∧ e.kind = .state ∧
          e.source = (match sd with | .hs => Source.sauHs | .ls => Source.sauLs) ∧
          e.fromState = some x.state.code ∧ e.toState = some SideState.standstill.code ∧ e.value = 0)

/-- R16, R17: an accepted ENABLE SHAFT reads the configuration and starts both sides SEEKING with everything 0 and the held levels of the lines;
an accepted DISABLE SHAFT takes both sides to OFF and keeps the total slip and dropped edge counts. Each side that changes state is journalled,
HS first (R16; that DISABLE SHAFT journals HS first is the model's choice, log entry 48).
That an IDLE port takes the row as the whole word pair is the model's choice, log entry 4. -/
def Obligations.ShaftJobCommands : Prop :=
  ∀ (dt : Nat) (p : PortId) (arg raw : Word) (s : State),
    let u := s.advance dt
    let x := u.sau
    let arm := fun (l : EdgeLine) => (⟨l.present, l.present, none⟩ : EdgeLine)
    let seek : ShaftSide := ⟨.seeking, 0, false, false, 0, 0, 0, true, 0, 0, 0, none⟩
    let stop := fun (y : ShaftSide) => (⟨.off, 0, false, false, 0, 0, 0, true, 0, y.total, y.dropped, none⟩ : ShaftSide)
    let entry := fun (src : Source) (a b : SideState) =>
      ({ source := src, kind := .state, fromState := some a.code, toState := some b.code } : EntryBody)
    ((u.pi.get p).role ∈ [Role.turbine, Role.farm] → Delivers p (.enable .shaft) raw s → u.jobs.shaft = false →
      (x.config.eLines * x.config.mode.counts / x.config.dec) ∈ [128, 256, 512, 1024] →
      exec (.enableShaft dt p arg) s = .next
        ((((u.setSau { x with
            active := x.config, la := arm x.la, lb := arm x.lb, lz := arm x.lz, lt := arm x.lt, llsz := arm x.llsz,
            reverse := false, hs := seek, ls := seek, ratio := 0, armed := false }).setJobs
          { u.jobs with shaft := true }).journalAll
          [entry .sauHs x.hs.state .seeking, entry .sauLs x.ls.state .seeking]).answered p raw arg .accepted .none)) ∧
    ((u.pi.get p).role ∈ [Role.turbine, Role.farm] → Delivers p (.disable .shaft) raw s →
      u.jobs.gear = false → u.jobs.shaft = true →
      exec (.disableShaft dt p arg) s = .next
        ((((u.setSau { x with reverse := false, hs := stop x.hs, ls := stop x.ls, ratio := 0, armed := false }).setJobs
          { u.jobs with shaft := false }).journalAll
          ((if x.hs.state = .off then [] else [entry .sauHs x.hs.state .off])
            ++ (if x.ls.state = .off then [] else [entry .sauLs x.ls.state .off]))).answered p raw arg .accepted .none))

/-! ### Order Correlator and Gear Condition Monitor (chapters 2 and 3) -/

/-- R19, R20, R21: a burst of exactly four words of odd parity is a good set: it becomes the latest set, counts, sets both NEW marks and restarts the
link timer at 40,000 ticks, and brings a LOST link UP with a LINK entry. Any other burst is dropped: only the dropped set count and SET_DROPPED
change. The expiry of the timer while the link is UP brings it to LOST with LINK_LOST in every copy and a LINK entry, keeps the latest set and the
counts, and ends every frame LINK_LOST; while it is LOST only the timer stops. -/
def Obligations.LinkTakesGoodSetsAndIsLostWithoutThem : Prop :=
  (∀ (dt : Nat) (words : List LinkWord) (s : State),
      let u := s.advance dt
      let x := u.ocr.link
      (∀ a b c d, words = [a, b, c, d] → (∀ w ∈ words, OddParity w) →
        let t := u.setOcr { u.ocr with link := { x with
          up := true
          latest := some ⟨a.sample.toInt, b.sample.toInt, c.sample.toInt, d.sample.toInt⟩
          timer := some (u.now + 40000)
          good := (x.good + 1) % 4294967296
          newHs := true
          newLs := true } }
        (x.up = true → exec (.sampleSet dt words) s = .next t) ∧
        (x.up = false → exec (.sampleSet dt words) s = .next (t.journal
          { source := .ocrLink, kind := .link, fromState := some (linkCode false), toState := some (linkCode true),
            value := x.dropped }))) ∧
      (¬(words.length = 4 ∧ ∀ w ∈ words, OddParity w) →
        exec (.sampleSet dt words) s = .next
          ((u.setOcr { u.ocr with link := { x with dropped := min 65535 (x.dropped + 1) } }).raise .setDropped))) ∧
  (∀ (s : State) (d : Nat), s.ocr.link.timer = some d →
      let u := s.advanceTo d
      let x := { u.ocr.link with timer := none, up := false }
      (u.ocr.link.up = false → exec .linkTimerExpiry s = .next (u.setOcr { u.ocr with link := x })) ∧
      (u.ocr.link.up = true →
        ∃ t, exec .linkTimerExpiry s = .next t ∧ OnlyTouches [.ocr, .gcm, .ej, .rep, .pub] u t ∧
          t.ocr.link = x ∧ t.ocr.hs.collecting = false ∧ t.ocr.ls.collecting = false ∧ t.ocr.results = u.ocr.results ∧
          FlagInEveryCopy .linkLost t ∧
          (u.ocr.hs.collecting = true → t.ocr.hs.last = .discarded .linkLost ∧ t.ocr.hs.seq = (u.ocr.hs.seq + 1) % 65536) ∧
          (u.ocr.ls.collecting = true → t.ocr.ls.last = .discarded .linkLost ∧ t.ocr.ls.seq = (u.ocr.ls.seq + 1) % 65536) ∧
          ∃ e ∈ t.ej.ring, e.seq = u.ej.next ∧ e.source = .ocrLink ∧ e.kind = .link ∧ e.inst = none ∧
            e.fromState = some (linkCode true) ∧ e.toState = some (linkCode false) ∧
            e.value = min 2147483647 (u.ocr.link.dropped : Int)))

/-- R22, R23, R32, R34: an angle point of a side, a tooth or a forward count at a multiple of D, is paired with the latest set and clears NEW of its
source. A COLLECTING frame with room takes it as its next sample: a reuse is counted when NEW was clear, and each evaluable line adds its channel's
word times the table entries of its phase and moves its phase on. A full frame ends ENCODER; a WAITING engine takes nothing. (The angle point of the
count that clears REVERSE meets no COLLECTING frame, EncoderEdgeCounts.) -/
def Obligations.ToothGivesTheFrameASample : Prop :=
  ∀ (sd : Side) (dt : Nat) (i : Instr) (s : State),
    let u := s.advance dt
    let e := u.ocr.engine sd
    let f := e.frame
    let new := match sd with | .hs => u.ocr.link.newHs | .ls => u.ocr.link.newLs
    let link := match sd with | .hs => { u.ocr.link with newHs := false } | .ls => { u.ocr.link with newLs := false }
    ticksOf i = some dt → AnglePoint sd i u →
    (e.collecting = false →
      ∃ t, exec i s = .next t ∧ OnlyTouches [.sau, .ocr] u t ∧ t.ocr = { u.ocr with link := link }) ∧
    (∀ x, e.collecting = true → u.ocr.link.latest = some x → f.samples ≠ f.s * f.r →
      ∃ t, exec i s = .next t ∧ OnlyTouches [.sau, .ocr] u t ∧
        t.ocr = ({ u.ocr with link := link } : Ocr).setEngine sd { e with
          frame := { f with
            samples := f.samples + 1
            reuse := if new then f.reuse else f.reuse + 1
            lines := f.lines.map (fun l =>
              if l.evaluable then
                { l with
                  i := l.i + x.channel l.channel * cosTable (l.phase / 256)
                  q := l.q + x.channel l.channel * cosTable ((l.phase / 256 + 192) % 256)
                  phase := (l.phase + l.kq * 4096 / f.s) % 65536 }
              else l) } }) ∧
    (e.collecting = true → f.samples = f.s * f.r →
      ∃ t, exec i s = .next t ∧ OnlyTouches [.sau, .ocr, .gcm, .ej, .rep, .pub] u t ∧
        (t.ocr.engine sd).collecting = false ∧ (t.ocr.engine sd).last = .discarded .encoder ∧
        (t.ocr.engine sd).seq = (e.seq + 1) % 65536 ∧ (t.ocr.engine sd).lastReuse = f.reuse ∧ t.ocr.link = link ∧
        t.ocr.engine (otherSide sd) = u.ocr.engine (otherSide sd) ∧ t.ocr.results = u.ocr.results)

/-- R45 to R49, with the counts of R50: one evaluation of a line. E moves toward code × 256 by the floored step and never passes it, an UNRATED line starts there as
NORMAL; the counts and the level then follow R47 to R49, and a change of level clears the counts. -/
def Obligations.EvaluationMovesTheLevel : Prop :=
  ∀ (d : LineDef) (code : Nat) (ovr : Bool) (seq : Nat) (c : Cond),
    let r := c.evaluate d code ovr seq
    let code' := r.e / 256
    let rises := fun (on n : Nat) => if ovr = true ∨ on ≤ code' then min 15 (n + 1) else 0
    let falls := fun (off n : Nat) => if ovr = false ∧ code' < off then min 15 (n + 1) else 0
    let alert := if c.level = .unrated then 0 else c.alert
    let danger := if c.level = .unrated then 0 else c.danger
    r.stale = false ∧ r.lastSeq = seq ∧
    (c.level = .unrated → r.e = code * 256) ∧
    (c.level ≠ .unrated →
      (r.e : Int) = c.e + ((code * 256 : Nat) - c.e : Int) / (2 ^ d.alpha : Nat) ∧
      min c.e (code * 256) ≤ r.e ∧ r.e ≤ max c.e (code * 256)) ∧
    (c.level = .unrated ∨ c.level = .normal →
      (r.level, r.alert, r.danger, r.down) =
        if d.kp ≤ rises d.dangerOn danger then (.danger, 0, 0, 0)
        else if d.kp ≤ rises d.alertOn alert then (.alert, 0, 0, 0)
        else (.normal, rises d.alertOn alert, rises d.dangerOn danger, 0)) ∧
    (c.level = .alert →
      (r.level, r.alert, r.danger, r.down) =
        if d.kp ≤ rises d.dangerOn c.danger then (.danger, 0, 0, 0)
        else if d.kp ≤ falls d.alertOff c.down then (.normal, 0, 0, 0)
        else (.alert, 0, rises d.dangerOn c.danger, falls d.alertOff c.down)) ∧
    (c.level = .danger →
      (r.level, r.alert, r.danger, r.down) =
        if d.kp ≤ falls d.dangerOff c.down then (if d.alertOff ≤ code' then .alert else .normal, 0, 0, 0)
        else (.danger, 0, 0, falls d.dangerOff c.down))

/-- R29, R58, R59, R85: an accepted ENABLE GEAR sets the job and nothing else. An accepted DISABLE GEAR makes every line UNRATED with E, counts
and STALE clear and its last evaluated sequence kept, sets both discard counts to 0, ends COLLECTING frames with cause DISABLED, withdraws the slot of each
line that was in ALERT or DANGER, and makes every mechanical entry absent. That an ended frame leaves the in-frame items idle, and what the entry
records then show of the highest aggregates, are the model's choices, log entries 15 and 43.
That an IDLE port takes the row as the whole word pair is the model's choice, log entry 4. -/
def Obligations.GearJobCommands : Prop :=
  ∀ (dt : Nat) (p : PortId) (arg raw : Word) (s : State),
    let u := s.advance dt
    let ended := fun (e : Engine) =>
      if e.collecting then
        { e with
          collecting := false
          frame := ⟨0, 0, 0, 0, 0, [], 0, 0, 0, 4294967295, 0, 0⟩
          seq := (e.seq + 1) % 65536
          last := .discarded .disabled }
      else e
    let posted := fun n => (tget u.gcm.conds n).level = .alert ∨ (tget u.gcm.conds n).level = .danger
    ((u.pi.get p).role ∈ [Role.turbine, Role.farm] → Delivers p (.enable .gear) raw s → u.jobs.gear = false →
      u.jobs.shaft = true → (∃ d ∈ u.gcm.defs, d.enabled = true) →
      exec (.enableGear dt p arg) s = .next ((u.setJobs { u.jobs with gear := true }).answered p raw arg .accepted .none)) ∧
    ((u.pi.get p).role ∈ [Role.turbine, Role.farm] → Delivers p (.disable .gear) raw s → u.jobs.coinc = false →
      u.jobs.gear = true →
      ∃ t, exec (.disableGear dt p arg) s = .next t ∧
        OnlyTouches [.jobs, .ocr, .gcm, .cw, .lb, .ej, .rep, .pi, .pub] u t ∧
        t.jobs = { u.jobs with gear := false } ∧
        t.ocr = { u.ocr with hs := ended u.ocr.hs, ls := ended u.ocr.ls } ∧
        t.gcm = { u.gcm with
          conds := u.gcm.conds.map (fun c => ⟨.unrated, 0, 0, 0, 0, false, c.lastSeq⟩), discHs := 0, discLs := 0 } ∧
        t.cw = { u.cw with mech := List.replicate 24 none, entryHigh := shownHigh u.cw } ∧
        (∀ n, n < 24 → posted n → (tget t.lb.slots (4 + n)).active = false) ∧
        (∀ k, (∀ n, n < 24 → posted n → k ≠ 4 + n) → tget t.lb.slots k = tget u.lb.slots k) ∧
        t.pi = (u.answered p raw arg .accepted .none).pi)

/-! ### Grid Harmonic Monitor (chapter 4) -/

/-- R63 to R68, R71: a zero-cross edge. A falling edge, or any while GRID is disabled, does nothing; one less than 200,000 ticks after the
reference is counted as ignored; the first sets the reference; any other measures the period, moves the lock machine by the table of R64, becomes the
reference and restarts the loss timer. After it a LOCKED monitor runs a strobe cycle of the held period with strobe 0 outstanding and a
window COLLECTING; a monitor that left LOCKED has none of them, its flag is set and its window is discarded FREQ_OUT.
R68, R70, R73 to R80, R86: an edge that closes a cycle closes its open positions as missing and counts the cycle. The tenth completes the window:
more than 32 missing discard it MISSING, else it is EVALUATED with codes, OVER_RANGE, THD or NO_FUND, where the last THD stands (log entry 41),
DEGRADED, P_win and f_win, its squares join the block, and its last cause reads NONE (log entry 28); that the OVER_RANGE mark of a disabled slot is
clear is the model's choice, log entry 54. The fifteenth completion evaluates the block:
below 8 valid windows it is INVALID and holds the results; else aggregates, THD, exceedances and conformance follow, a change of conformance is
journalled and posts or withdraws slot GRID, and the watch takes the snapshot. -/
def Obligations.ZeroCrossMeasuresAndLocks : Prop :=
  (∀ (dt : Nat) (rising : Bool) (s : State),
    let u := s.advance dt
    let g := u.ghm
    (¬(rising = true ∧ u.jobs.grid = true) → exec (.gzxEdge dt rising) s = .next u) ∧
    (rising = true → u.jobs.grid = true → ∀ r, g.edgeRef = some r → u.now < r + 200000 →
      exec (.gzxEdge dt rising) s = .next (u.setGhm { g with ignored := min 65535 (g.ignored + 1) })) ∧
    (rising = true → u.jobs.grid = true → g.edgeRef = none →
      exec (.gzxEdge dt rising) s = .next (u.setGhm { g with edgeRef := some u.now, loss := some (u.now + 2000000) })) ∧
    (rising = true → u.jobs.grid = true → ∀ r, g.edgeRef = some r → r + 200000 ≤ u.now →
      let p := u.now - r
      let valid := decide (615385 ≤ p ∧ p ≤ 888888)
      let count := if valid then min 2 (g.valid + 1) else 0
      let lock := lockTable g.lock valid count
      ∃ t, exec (.gzxEdge dt rising) s = .next t ∧ OnlyTouches [.ghm, .cw, .lb, .ej, .rep, .pub] u t ∧
        t.ghm.measured = p ∧ t.ghm.held = (if valid then p else g.held) ∧ t.ghm.valid = count ∧ t.ghm.lock = lock ∧
        t.ghm.edgeRef = some u.now ∧ t.ghm.loss = some (u.now + 2000000) ∧
        (lock = .locked →
          t.ghm.gen = some ⟨p, p / 128, p % 128, 1, some (u.now + (if 1 ≤ p % 128 then p / 128 + 1 else p / 128))⟩ ∧
          t.ghm.outstanding = some 0 ∧ t.ghm.window.isSome = true) ∧
        (lock = .locked → g.window = none → t.ghm.window =
          some ⟨1 :: g.config.h, u.now, 0, 0, 0, List.replicate 6 (List.replicate 16 ⟨0, 0⟩)⟩) ∧
        (lock ≠ .locked → g.lock = .locked → t.ghm.gen = none ∧ t.ghm.outstanding = none ∧ t.ghm.window = none ∧
          t.ghm.chan = g.chan ∧
          (g.window.isSome = true → t.ghm.windowSeq = (g.windowSeq + 1) % 65536 ∧ t.ghm.outcome = .discarded ∧
            t.ghm.cause = .freqOut)) ∧
        (lock = .freqOut → g.lock ≠ .freqOut → FlagInEveryCopy .freqOut t) ∧
        (lock ≠ g.lock → ∃ e ∈ t.ej.ring, e.seq = u.ej.next ∧ e.source = .ghm ∧ e.kind = .lock ∧
          e.fromState = some g.lock.code ∧ e.toState = some lock.code))) ∧
  (∀ (dt r : Nat) (gen : StrobeGen) (w : Window) (s : State),
    let u := s.advance dt
    let g := u.ghm
    u.jobs.grid = true → g.edgeRef = some r → r + 615385 ≤ u.now → u.now ≤ r + 888888 → g.lock = .locked →
    g.gen = some gen → g.window = some w →
    let opens := g.outstanding.toList ++ (List.range (128 - gen.next)).map (gen.next + ·)
    let y := opens.foldl (fun y i => { y with
      positions := y.positions + 1
      missing := y.missing + 1
      acc := List.zipWith (addSlots y.slots (128 * y.cycles + i)) g.samples y.acc }) w
    let b := g.block
    let c := g.config
    ∃ t, exec (.gzxEdge dt true) s = .next t ∧ OnlyTouches [.ghm, .cw, .lb, .ej, .rep, .pub] u t ∧ t.ghm.config = c ∧
      (w.cycles + 1 < 10 →
        t.ghm = { g with
          measured := t.ghm.measured, held := t.ghm.held, valid := t.ghm.valid, edgeRef := t.ghm.edgeRef, loss := t.ghm.loss,
          gen := t.ghm.gen, outstanding := t.ghm.outstanding, strobes := t.ghm.strobes,
          window := some { y with cycles := w.cycles + 1 } } ∧
        t.cw = u.cw ∧ t.lb = u.lb ∧ t.ej = u.ej) ∧
      (10 ≤ w.cycles + 1 →
        t.ghm.window = some ⟨1 :: c.h, u.now, 0, 0, 0, List.replicate 6 (List.replicate 16 ⟨0, 0⟩)⟩ ∧
        t.ghm.windowSeq = (g.windowSeq + 1) % 65536 ∧
        (32 < y.missing → t.ghm.outcome = .discarded ∧ t.ghm.cause = .missing ∧ t.ghm.chan = g.chan ∧ t.ghm.pWin = g.pWin ∧
          t.ghm.fWin = g.fWin) ∧
        (y.missing ≤ 32 → t.ghm.outcome = .evaluated ∧ t.ghm.cause = .none ∧ t.ghm.degraded = decide (1 ≤ y.missing) ∧
          t.ghm.lastSlots = y.slots ∧ t.ghm.lastMissing = y.missing ∧ t.ghm.pWin = (u.now - y.start) / 10 ∧
          t.ghm.fWin = 640000000 / ((u.now - y.start) / 10) ∧ t.ghm.chan.length = 6 ∧
          ∀ n, n < 6 →
            let x := tget t.ghm.chan n
            let sums := tget y.acc n
            let thd := thdFrom (if n < 3 then c.fundFloorV else c.fundFloorI) (tget g.chan n).thd y.slots x.codes
            (y.slots.length = 16 → sums.length = 16 → ∀ k, k < 16 →
              (tget x.codes k, tget x.overRange k) = if tget y.slots k = 0 then (0, false) else codeOf 1280 (tget sums k).i (tget sums k).q) ∧
            (y.slots.length = 16 → sums.length = 16 → (x.thd, x.noFund) = thd)) ∧
        let own := b.slots.getD y.slots
        let takes := y.missing ≤ 32 ∧ own = y.slots
        let n := if takes then b.nValid + 1 else b.nValid
        let sums := if takes then List.zipWith (fun (x : ChannelWindow) zs => List.zipWith (fun h (z : Nat × Nat) =>
            if h = 0 then z.2 else z.2 + z.1 * z.1) y.slots (List.zip x.codes zs)) t.ghm.chan b.sums
          else b.sums
        let held := t.ghm.blockChan = g.blockChan ∧ t.ghm.exceeded = g.exceeded ∧ t.ghm.thdMarks = g.thdMarks ∧
          t.ghm.exceeding = g.exceeding ∧ t.ghm.exceedCount = g.exceedCount ∧ t.ghm.clearCount = g.clearCount ∧
          t.cw = u.cw ∧ t.lb = u.lb ∧ t.ej = u.ej
        let empty : Block := ⟨0, 0, none, List.replicate 6 (List.replicate 16 0)⟩
        (b.count + 1 < 15 → held ∧ t.ghm.blockSeq = g.blockSeq ∧ t.ghm.blockOutcome = g.blockOutcome ∧
          t.ghm.block = ⟨b.count + 1, n, if takes then some own else b.slots, sums⟩) ∧
        (15 ≤ b.count + 1 → t.ghm.block = empty ∧ t.ghm.blockSeq = (g.blockSeq + 1) % 65536 ∧
          (n < 8 → t.ghm.blockOutcome = .invalid ∧ held) ∧
          (8 ≤ n → (takes ∨ b.slots = some own) → own.length = 16 → (∀ k, k < 6 → (tget sums k).length = 16) →
            t.ghm.blockOutcome = .valid ∧ t.ghm.blockChan.length = 6 ∧
            (∀ k, k < 6 →
              let x := tget t.ghm.blockChan k
              x.aggs = List.zipWith (fun h z => if h = 0 then 0 else isqrt (z / n)) own (tget sums k) ∧
              (x.thd, x.noFund) = thdFrom (if k < 3 then c.fundFloorV else c.fundFloorI) (tget g.blockChan k).thd own x.aggs ∧
              tget t.ghm.thdMarks k = if x.noFund then tget g.thdMarks k
                else decide ((if k < 3 then c.thdLimitV else c.thdLimitI) < x.thd)) ∧
            (∀ k, k < 16 → (tget t.ghm.exceeded k = true ↔ k ≠ 0 ∧ tget own k ≠ 0 ∧
              ∃ m, m < 6 ∧ tget (if m < 3 then c.limitV else c.limitI) (k - 1) < tget (tget t.ghm.blockChan m).aggs k)) ∧
            t.ghm.exceeded.length = 16 ∧ t.ghm.thdMarks.length = 6 ∧
            (let shows := decide (true ∈ t.ghm.exceeded ∨ true ∈ t.ghm.thdMarks)
             let ups := if g.exceeding = false ∧ shows = true then min 20 (g.exceedCount + 1) else 0
             let downs := if g.exceeding = true ∧ shows = false then min 20 (g.clearCount + 1) else 0
             let turns := if g.exceeding then c.kg ≤ downs else c.kg ≤ ups
             t.ghm.exceeding = (if turns then !g.exceeding else g.exceeding) ∧
             t.ghm.exceedCount = (if turns then 0 else ups) ∧ t.ghm.clearCount = (if turns then 0 else downs) ∧
             (¬turns → ∀ k, k ≠ 2 → tget t.lb.slots k = tget u.lb.slots k) ∧
             (turns → SlotsElsewhere [2, 3] u t ∧
               JournalsFirst
                [{ source := .ghm, kind := .conformance, fromState := some (twoCode g.exceeding),
                   toState := some (twoCode !g.exceeding),
                   value := ((t.ghm.exceeded.count true + t.ghm.thdMarks.count true : Nat) : Int) }] u t ∧
               (g.exceeding = false → 3 < u.lb.slots.length → Posted (tget t.lb.slots 3) c.gridCap .exceeding) ∧
               (g.exceeding = true → (tget t.lb.slots 3).active = false))) ∧
            t.cw.mech = u.cw.mech ∧ t.cw.config = u.cw.config ∧
            t.cw.elec = some ⟨t.ghm.blockSeq, own, [(tget t.ghm.blockChan 3).aggs, (tget t.ghm.blockChan 4).aggs,
              (tget t.ghm.blockChan 5).aggs], t.ghm.fWin⟩ ∧
            (u.jobs.coinc = true → Evaluated .grid u t) ∧ (u.jobs.coinc = false → TakenOnly u t)))))

/-- R65, R66: at the loss timer's deadline the timer stops, the reference is absent and the valid count 0; the held period is kept. A lock state
other than UNLOCKED becomes UNLOCKED with its flag; leaving LOCKED also stops the generator, closes the outstanding position and discards a
COLLECTING window with cause UNLOCKED. -/
def Obligations.LossTimerUnlocks : Prop :=
  ∀ (s : State) (d : Nat), s.ghm.loss = some d →
    let u := s.advanceTo d
    ∃ t, exec .lossTimerExpiry s = .next t ∧ OnlyTouches [.ghm, .cw, .lb, .ej, .rep, .pub] u t ∧
      t.ghm.loss = none ∧ t.ghm.edgeRef = none ∧ t.ghm.valid = 0 ∧ t.ghm.lock = .unlocked ∧ t.ghm.held = u.ghm.held ∧
      (u.ghm.lock = .unlocked → t = u.setGhm { u.ghm with loss := none, edgeRef := none, valid := 0 }) ∧
      (u.ghm.lock ≠ .unlocked → FlagInEveryCopy .unlocked t ∧
        ∃ e ∈ t.ej.ring, e.seq = u.ej.next ∧ e.source = .ghm ∧ e.kind = .lock ∧ e.fromState = some u.ghm.lock.code ∧
          e.toState = some LockState.unlocked.code ∧ e.value = 0) ∧
      (u.ghm.lock = .locked → t.ghm.gen = none ∧ t.ghm.outstanding = none ∧ t.ghm.window = none) ∧
      (∀ w, u.ghm.lock = .locked → u.ghm.window = some w →
        t.ghm.windowSeq = (u.ghm.windowSeq + 1) % 65536 ∧ t.ghm.outcome = .discarded ∧ t.ghm.cause = .unlocked)

/-- R67, R69, R70: at its deadline the next strobe of a cycle is issued: its number is outstanding and the one after it falls due base + 1 or base
ticks later, none after strobe 127; a position still outstanding closes as missing. The intervals of a cycle that starts with period P sum, with the
closing interval, to P. A generator with no strobe due issues nothing (log entry 2). -/
def Obligations.StrobesShareOutThePeriod : Prop :=
  (∀ s : State, (∀ x, s.ghm.gen = some x → x.due = none) → exec .strobe s = .next s) ∧
  (∀ (s : State) (x : StrobeGen) (d : Nat), s.ghm.gen = some x → x.due = some d →
    let u := s.advanceTo d
    ∃ t, exec .strobe s = .next t ∧ OnlyTouches [.ghm] u t ∧
      t.ghm.gen = some { x with
        next := x.next + 1
        due := if x.next + 1 ≤ 127 then some (u.now + (if x.next + 1 ≤ x.r then x.base + 1 else x.base)) else none } ∧
      t.ghm.outstanding = some x.next ∧ t.ghm.samples = u.ghm.samples ∧
      (u.ghm.outstanding = none → t.ghm.window = u.ghm.window) ∧
      (u.ghm.window = none → t.ghm.window = none) ∧
      (∀ i w, u.ghm.outstanding = some i → u.ghm.window = some w →
        t.ghm.window = some { w with
          positions := w.positions + 1
          missing := w.missing + 1
          acc := List.zipWith (addSlots w.slots (128 * w.cycles + i)) u.ghm.samples w.acc })) ∧
  (∀ (P next : Nat) (due : Option Nat),
    ((List.range 127).map (fun i => (StrobeGen.mk P (P / 128) (P % 128) next due).interval (i + 1))).sum + P / 128 = P)

/-- R69, R70: a burst of exactly six words of odd parity that answers an outstanding position becomes the held samples and closes the position with
them; any other frame is dropped with its count and flag; while GRID is disabled a frame does nothing. -/
def Obligations.GridFrameAnswersTheStrobe : Prop :=
  ∀ (dt : Nat) (words : List LinkWord) (s : State),
    let u := s.advance dt
    let good := words.length = 6 ∧ ∀ w ∈ words, OddParity w
    (u.jobs.grid = false → exec (.gridFrame dt words) s = .next u) ∧
    (u.jobs.grid = true → (¬good ∨ u.ghm.outstanding = none) →
      exec (.gridFrame dt words) s = .next
        ((u.setGhm { u.ghm with droppedFrames := min 65535 (u.ghm.droppedFrames + 1) }).raise .gridFrameDropped)) ∧
    (u.jobs.grid = true → good → ∀ i, u.ghm.outstanding = some i →
      let xs := words.map (fun w => w.sample.toInt)
      exec (.gridFrame dt words) s = .next (u.setGhm { u.ghm with
        samples := xs
        outstanding := none
        window := u.ghm.window.map (fun w => { w with
          positions := w.positions + 1
          acc := List.zipWith (fun x a => List.zipWith
            (fun h (y : IQ) =>
              if h = 0 then y
              else ⟨y.i + x * cosTable (2 * h * (128 * w.cycles + i) % 256),
                y.q + x * cosTable ((2 * h * (128 * w.cycles + i) + 192) % 256)⟩) w.slots a) xs w.acc }) }))

/-- R81, R82, R86: an accepted ENABLE GRID starts the monitor UNLOCKED, IDLE and CONFORMING and keeps the held period and the results. An accepted
DISABLE GRID takes it to the same states, ends a COLLECTING window DISABLED, withdraws slot GRID when it was EXCEEDING, and makes the
watch's snapshot absent. The counts that ENABLE GRID keeps are log entry 34; that a DISABLED window reads not DEGRADED and keeps its other fields is
log entry 28; that the entry records show a highest aggregate of 0 without a snapshot is the model's choice, log entry 43.
That an IDLE port takes the row as the whole word pair is the model's choice, log entry 4. -/
def Obligations.GridJobCommands : Prop :=
  ∀ (dt : Nat) (p : PortId) (arg raw : Word) (s : State),
    let u := s.advance dt
    let idle := fun (g : Ghm) => { g with
      lock := .unlocked, edgeRef := none, valid := 0, loss := none, gen := none, outstanding := none, window := none,
      block := ⟨0, 0, none, List.replicate 6 (List.replicate 16 0)⟩, exceeding := false, exceedCount := 0, clearCount := 0 }
    ((u.pi.get p).role ≠ .observer → Delivers p (.enable .grid) raw s → u.jobs.grid = false → (∃ h ∈ u.ghm.config.h, h ≠ 0) →
      exec (.enableGrid dt p arg) s = .next
        (((u.setGhm (idle u.ghm)).setJobs { u.jobs with grid := true }).answered p raw arg .accepted .none)) ∧
    ((u.pi.get p).role ≠ .observer → Delivers p (.disable .grid) raw s → u.jobs.coinc = false → u.jobs.grid = true →
      ∃ t, exec (.disableGrid dt p arg) s = .next t ∧
        OnlyTouches [.jobs, .ghm, .cw, .lb, .ej, .rep, .pi, .pub] u t ∧ t.jobs = { u.jobs with grid := false } ∧
        (u.ghm.window = none → t.ghm = idle u.ghm) ∧
        (∀ w, u.ghm.window = some w → t.ghm = { idle u.ghm with
          windowSeq := (u.ghm.windowSeq + 1) % 65536, outcome := .discarded, degraded := false, cause := .disabled }) ∧
        (u.ghm.exceeding = true → (tget t.lb.slots 3).active = false) ∧
        (u.ghm.exceeding = true → t.lb = (boardChange [⟨3, .withdraw⟩] u).lb) ∧
        (u.ghm.exceeding = false → t.lb = u.lb) ∧ SlotsElsewhere [3] u t ∧
        t.cw = { u.cw with elec := none, entryHigh := List.replicate 8 0 } ∧ t.pi = (u.answered p raw arg .accepted .none).pi)

/-! ### Coincidence Watch (chapter 5) -/

/-- R94, R95, R96: an accepted ENABLE COINC starts with empty sets and the evaluation count at 0; an accepted DISABLE COINC empties the sets and
withdraws slot COINC; an accepted CLEAR COINCIDENCE gives each latched set the value of its live set and keeps the first pair only while
something is live. The tables are kept, and no port's COINC latch moves. The entry records that DISABLE COINC and CLEAR COINCIDENCE publish show
the highest aggregates of that moment (R93, log entry 43). ENABLE COINC keeps the cause of the last evaluation, log entry 33.
That an IDLE port takes the row as the whole word pair is the model's choice, log entry 4. -/
def Obligations.CoincidenceCommands : Prop :=
  ∀ (dt : Nat) (p : PortId) (arg raw : Word) (s : State),
    let u := s.advance dt
    let empty := fun (c : Cw) => { c with
      liveLines := [], liveEntries := [], latchedLines := [], latchedEntries := [], firstPair := none }
    ((u.pi.get p).role ∈ [Role.turbine, Role.farm] → Delivers p (.enable .coinc) raw s → u.jobs.coinc = false →
      u.jobs.gear = true → u.jobs.grid = true → (∃ m ∈ u.cw.config.m, m ≠ 0) →
      ∃ t, exec (.enableCoinc dt p arg) s = .next t ∧ OnlyTouches [.jobs, .cw, .lb, .ej, .rep, .pi, .pub] u t ∧
        t.jobs = { u.jobs with coinc := true } ∧ t.cw = { empty u.cw with count := 0 } ∧ t.lb = (boardChange [⟨2, .withdraw⟩] u).lb ∧
        (tget t.lb.slots 2).active = false ∧ SlotsElsewhere [2] u t ∧ (∀ q, (t.rep.get q).latch = (u.rep.get q).latch) ∧
        t.pi = (u.answered p raw arg .accepted .none).pi) ∧
    ((u.pi.get p).role ∈ [Role.turbine, Role.farm] → Delivers p (.disable .coinc) raw s → u.jobs.coinc = true →
      ∃ t, exec (.disableCoinc dt p arg) s = .next t ∧ OnlyTouches [.jobs, .cw, .lb, .ej, .rep, .pi, .pub] u t ∧
        t.jobs = { u.jobs with coinc := false } ∧ t.cw = { empty u.cw with entryHigh := shownHigh u.cw } ∧
        t.lb = (boardChange [⟨2, .withdraw⟩] u).lb ∧
        (u.cw.latchedLines ≠ [] → Journals
          { source := .cw, kind := .coinc, fromState := some 1, toState := some 0, value := 0 } u t) ∧
        (tget t.lb.slots 2).active = false ∧ SlotsElsewhere [2] u t ∧ (∀ q, (t.rep.get q).latch = (u.rep.get q).latch) ∧
        t.pi = (u.answered p raw arg .accepted .none).pi) ∧
    ((u.pi.get p).role ≠ .observer → Delivers p .clearCoincidence raw s → u.jobs.coinc = true →
      ∃ t, exec (.clearCoincidence dt p arg) s = .next t ∧ OnlyTouches [.cw, .ej, .rep, .pi, .pub] u t ∧
        t.cw = { u.cw with
          latchedLines := u.cw.liveLines
          latchedEntries := u.cw.liveEntries
          entryHigh := shownHigh u.cw
          firstPair := if u.cw.liveLines = [] then none else u.cw.firstPair } ∧
        (u.cw.latchedLines ≠ [] → u.cw.liveLines = [] → JournalsFirst
          [{ source := .cw, kind := .coinc, fromState := some 1, toState := some 0, value := 0 }] u t) ∧
        ((u.cw.latchedLines = [] ∨ u.cw.liveLines ≠ []) → t.ej = u.ej) ∧
        (∀ q, (t.rep.get q).latch = (u.rep.get q).latch) ∧ t.pi = (u.answered p raw arg .accepted .none).pi) ∧
    ((u.pi.get p).role ≠ .observer → Delivers p .clearCoincidence raw s → u.jobs.coinc = false →
      exec (.clearCoincidence dt p arg) s = .next (u.answered p raw arg .refused .wrongState))

/-! ### Icing Detector (chapter 6) -/

/-- R114 to R118, R112: what the commands of the Icing Detector do when they are accepted, and when they are refused. A change of state clears the
counts, posts or withdraws slot ICING and is journalled; ICING REPORT on ICED changes nothing; ICING RELEASE asks for both sides at STANDSTILL or
OFF; LEARN BASELINE takes the line's E_code. ENABLE ICING and DISABLE ICING keep the state and sequence of the last arrival, log entry 36; the means
and the sequence of a last result NONE are 0, log entry 44.
That an IDLE port takes the row as the whole word pair is the model's choice, log entry 4. -/
def Obligations.IcingCommands : Prop :=
  ∀ (dt : Nat) (p : PortId) (arg raw : Word) (s : State),
    let u := s.advance dt
    let x := u.icd
    let enter := fun (st : IcingState) (c : Icd) => { c with state := st, suspect := 0, ice := 0, clear := 0, thaw := none }
    let fresh := fun (c : Icd) => { c with
      second := 0, arrivals := 0, sumWind := 0, sumPower := 0, sumTemp := 0, sumHum := 0 }
    let atRest := fun (y : ShaftSide) => y.state = .standstill ∨ y.state = .off
    let journalled := fun (t : State) (b : IcingState) => ∃ e ∈ t.ej.ring, e.seq = u.ej.next ∧ e.source = .icd ∧
      e.kind = .icing ∧ e.fromState = some x.state.code ∧ e.toState = some b.code ∧ e.value = 0
    ((u.pi.get p).role ∈ [Role.turbine, Role.farm] → Delivers p (.enable .icing) raw s → u.jobs.icing = false →
      (∃ n ∈ x.curve, n ≠ 0) →
      ∃ t, exec (.enableIcing dt p arg) s = .next t ∧ OnlyTouches [.jobs, .icd, .lb, .ej, .rep, .pi, .pub] u t ∧
        t.jobs = { u.jobs with icing := true } ∧
        t.icd = { fresh (enter .clear x) with number := 0, last := ⟨.none, .none, 0, 0, 0, 0, none, none, 0⟩ } ∧
        (tget t.lb.slots 0).active = false ∧ SlotsElsewhere [0] u t ∧ t.lb = (boardChange [⟨0, .withdraw⟩] u).lb ∧
        journalled t .clear ∧ t.pi = (u.answered p raw arg .accepted .none).pi) ∧
    ((u.pi.get p).role ∈ [Role.turbine, Role.farm] → Delivers p (.disable .icing) raw s → u.jobs.icing = true →
      ∃ t, exec (.disableIcing dt p arg) s = .next t ∧ OnlyTouches [.jobs, .icd, .lb, .ej, .rep, .pi, .pub] u t ∧
        t.jobs = { u.jobs with icing := false } ∧ t.icd = fresh (enter .off x) ∧
        (tget t.lb.slots 0).active = false ∧ SlotsElsewhere [0] u t ∧ t.lb = (boardChange [⟨0, .withdraw⟩] u).lb ∧
        journalled t .off ∧
        t.pi = (u.answered p raw arg .accepted .none).pi) ∧
    ((u.pi.get p).role = .turbine → Delivers p .icingReport raw s →
      (x.state = .off → exec (.icingReport dt p arg) s = .next (u.answered p raw arg .refused .wrongState)) ∧
      (x.state = .iced → exec (.icingReport dt p arg) s = .next (u.answered p raw arg .accepted .none)) ∧
      (x.state ≠ .off → x.state ≠ .iced → u.lb.slots ≠ [] →
        ∃ t, exec (.icingReport dt p arg) s = .next t ∧ OnlyTouches [.icd, .lb, .ej, .rep, .pi, .pub] u t ∧
          t.icd = enter .iced x ∧ Posted (tget t.lb.slots 0) 0 .iced ∧ t.lb.cap = 0 ∧ SlotsElsewhere [0] u t ∧
          t.lb = (boardChange [⟨0, .post 0 .iced⟩] u).lb ∧ journalled t .iced ∧ t.pi = (u.answered p raw arg .accepted .none).pi)) ∧
    ((u.pi.get p).role = .farm → Delivers p .icingRelease raw s →
      (x.state ≠ .iced → x.state ≠ .thaw →
        exec (.icingRelease dt p arg) s = .next (u.answered p raw arg .refused .wrongState)) ∧
      ((x.state = .iced ∨ x.state = .thaw) → ¬(atRest u.sau.hs ∧ atRest u.sau.ls) →
        exec (.icingRelease dt p arg) s = .next (u.answered p raw arg .refused .notStandstill)) ∧
      ((x.state = .iced ∨ x.state = .thaw) → atRest u.sau.hs → atRest u.sau.ls →
        ∃ t, exec (.icingRelease dt p arg) s = .next t ∧ OnlyTouches [.icd, .lb, .ej, .rep, .pi, .pub] u t ∧
          t.icd = enter .clear x ∧ (tget t.lb.slots 0).active = false ∧ SlotsElsewhere [0] u t ∧
          t.lb = (boardChange [⟨0, .withdraw⟩] u).lb ∧ journalled t .clear ∧
          t.pi = (u.answered p raw arg .accepted .none).pi)) ∧
    ((u.pi.get p).role = .farm → Delivers p .learnBaseline raw s →
      (x.config.line = none → exec (.learnBaseline dt p arg) s = .next (u.answered p raw arg .refused .wrongState)) ∧
      (∀ n, x.config.line = some n →
        let c := tget u.gcm.conds n
        let may := (x.state = .clear ∨ x.state = .watch) ∧ c.level ≠ .unrated ∧ c.stale = false
        (¬may → exec (.learnBaseline dt p arg) s = .next (u.answered p raw arg .refused .wrongState)) ∧
        (may →
          ∃ t, exec (.learnBaseline dt p arg) s = .next t ∧ OnlyTouches [.icd, .ej, .rep, .pi, .pub] u t ∧
            t.icd = { x with base := c.e / 256 } ∧
            (∃ e ∈ t.ej.ring, e.seq = u.ej.next ∧ e.source = .icd ∧ e.kind = .baseline ∧ e.inst = some n) ∧
            t.pi = (u.answered p raw arg .accepted .none).pi)))

/-- R119: RESTART REQUEST reports the first cause that applies, in the order ICING, CAP_ZERO, STOP_LINE, MAINT_LOCK, and is GRANTED when none does;
it changes nothing but the issuing port's result record.
That an IDLE port takes the row as the whole word pair is the model's choice, log entry 4. -/
def Obligations.RestartRequestTestsTheCausesInOrder : Prop :=
  ∀ (dt : Nat) (p : PortId) (arg raw : Word) (s : State),
    let u := s.advance dt
    let icing := u.icd.state = .iced ∨ u.icd.state = .thaw
    let lock := ∃ x ∈ u.ms.items, ∃ y, x.part = some y ∧ y.state = .overdue ∧ x.inForce.lock = true
    let answers := fun (a : Answer) (r : Reason) => exec (.restartRequest dt p arg) s = .next (u.answered p raw arg a r)
    (u.pi.get p).role = .turbine → Delivers p .restartRequest raw s →
    (icing → answers .denied .icing) ∧
    (¬icing → u.lb.cap = 0 → answers .denied .capZero) ∧
    (¬icing → u.lb.cap ≠ 0 → u.lb.line = true → answers .denied .stopLine) ∧
    (¬icing → u.lb.cap ≠ 0 → u.lb.line = false → lock → answers .denied .maintLock) ∧
    (¬icing → u.lb.cap ≠ 0 → u.lb.line = false → ¬lock → answers .granted .none)

/-- R100, R104, R111, R112: the second tick that brings the age of a FRESH record to 5 makes it STALE with OP_STALE in every copy; the second tick
that brings the thaw timer to 0 with no interval closing makes THAW CLEAR, sets the counts to 0 and withdraws slot ICING. Both are whole second ticks
(log entry 5), in any order of the takers (log entry 6).
R104, R105: the second tick at which the second counter comes to 10 closes the interval, which takes its number (also when VOID, log entry 26),
and opens an empty one. With no arrival, or a record that is STALE once this tick has moved the age, the close is VOID and moves no count and, no thaw
timer running, no state; otherwise it holds the floored means, the outcome PRODUCTION or NOT_PRODUCING with the first condition that fails, the
deficit of R107 and the imbalance of R108.
R109 to R112: a close that is not VOID is judged in its state. A change of state clears the counts, is journalled with its value, posts or
withdraws slot ICING, and starts or stops the thaw timer, which takes its first second at the next tick (log entry 25); otherwise the counts move
as R109 and R110 say. A count that already stands at its limit at a close that computes no deficit brings its change with a free journal
value (log entry 42). -/
def Obligations.IcingSecondTicksAndIntervals : Prop :=
  (∀ (order : TickOrder) (s : State),
      let u := s.advance (40000000 - s.cc.phase)
      (u.icd.fresh = .fresh → u.icd.age = 4 →
        ∃ t, exec (.operatingRecordStale order) s = .next t ∧
          OnlyTouches [.icd, .lb, .cc, .ms, .ej, .rep, .pub] u t ∧
          t.icd.fresh = .stale ∧ t.icd.age = 5 ∧ t.icd.op = u.icd.op ∧ FlagInEveryCopy .opStale t ∧
          Journals { source := .icd, kind := .operating, fromState := some Freshness.fresh.code,
                     toState := some Freshness.stale.code, value := u.icd.op.sequence } u t) ∧
      (u.icd.thaw = some 1 → u.icd.state = .thaw → (u.jobs.icing = false ∨ u.icd.second < 9) →
        ∃ t, exec (.thawTimerExpiry order) s = .next t ∧
          OnlyTouches [.icd, .lb, .cc, .ms, .ej, .rep, .pub] u t ∧
          t.icd.state = .clear ∧ t.icd.thaw = none ∧ t.icd.suspect = 0 ∧ t.icd.ice = 0 ∧ t.icd.clear = 0 ∧
          (tget t.lb.slots 0).active = false ∧
          Journals { source := .icd, kind := .icing, fromState := some IcingState.thaw.code,
                     toState := some IcingState.clear.code, value := 0 } u t) ∧
      (¬(u.icd.fresh = .fresh ∧ u.icd.age = 4) → exec (.operatingRecordStale order) s = .next s) ∧
      (u.icd.thaw ≠ some 1 → exec (.thawTimerExpiry order) s = .next s)) ∧
  (∀ (order : TickOrder) (s : State),
      let u := s.advance (40000000 - s.cc.phase)
      let x := u.icd
      let c := x.config
      let stale := x.fresh = .stale ∨ (x.fresh = .fresh ∧ x.age = 4)
      let w := x.sumWind / x.arrivals
      let meas := x.sumPower / x.arrivals
      let temp := x.sumTemp / (x.arrivals : Int)
      let rh := x.sumHum / x.arrivals
      let exp := expectedPower x.curve w
      let deficit := (max 0 (min 1000 (1000 * (exp - (meas : Int)) / exp))).toNat
      let reason : NotProducing :=
        if x.lastState ≠ .producing then .state
        else if w < c.cutIn ∨ c.rated < w then .wind
        else if exp ≤ 0 then .noCurve
        else .none
      let produces := reason = .none
      let imb : Option Nat :=
        match c.line with
        | none => none
        | some n =>
          let y := tget u.gcm.conds n
          if x.base = 0 ∨ y.stale = true ∨ y.level = .unrated then none else some (100 * (y.e / 256) / x.base)
      let raised := fun (met : Prop) [Decidable met] (n : Nat) =>
        if produces then (if met then min 60 (n + 1) else 0) else n
      (¬(u.jobs.icing = true ∧ x.second = 9) → exec (.intervalClose order) s = .next s) ∧
      (u.jobs.icing = true → x.second = 9 →
        ∃ t, exec (.intervalClose order) s = .next t ∧ OnlyTouches [.icd, .lb, .cc, .ms, .ej, .rep, .pub] u t ∧
          t.icd.second = 0 ∧ t.icd.arrivals = 0 ∧ t.icd.sumWind = 0 ∧ t.icd.sumPower = 0 ∧ t.icd.sumTemp = 0 ∧
          t.icd.sumHum = 0 ∧ t.icd.number = (x.number + 1) % 65536 ∧ t.icd.base = x.base ∧
          ((x.arrivals = 0 ∨ stale) → t.icd.last.outcome = .void ∧
            (x.thaw = none → t.icd.state = x.state ∧ t.icd.suspect = x.suspect ∧ t.icd.ice = x.ice ∧ t.icd.clear = x.clear)) ∧
          (x.arrivals ≠ 0 → ¬stale →
            t.icd.last = ⟨if produces then .production else .notProducing, reason, w, meas, temp, rh,
              if produces then some (exp.toNat, deficit) else none, imb, x.lastSeq⟩ ∧
            (let enters := fun (st : IcingState) (v : Int) =>
              t.icd.state = st ∧ t.icd.suspect = 0 ∧ t.icd.ice = 0 ∧ t.icd.clear = 0 ∧
              t.icd.thaw = (if st = .thaw then some (c.thawTime * 60) else none) ∧
              Journals { source := .icd, kind := .icing, fromState := some x.state.code, toState := some st.code, value := v } u t ∧
              (u.lb.slots ≠ [] →
                match st with
                | .iced => Posted (tget t.lb.slots 0) 0 .iced
                | .thaw => Posted (tget t.lb.slots 0) 0 .thaw
                | .suspect => Posted (tget t.lb.slots 0) c.suspectCap .suspect
                | _ => (tget t.lb.slots 0).active = false)
             let stays := fun (suspect ice clear : Nat) =>
              t.icd.state = x.state ∧ t.icd.suspect = suspect ∧ t.icd.ice = ice ∧ t.icd.clear = clear ∧
              tget t.lb.slots 0 = tget u.lb.slots 0
             let suspect := raised (c.dSuspect ≤ deficit) x.suspect
             let ice := raised (c.dIce ≤ deficit) x.ice
             let clear := raised (deficit < c.dSuspect) x.clear
             let byCount := fun st => ∃ v, enters st v ∧ (produces → v = (deficit : Int))
             (x.thaw = none →
              (x.state = .off → stays x.suspect x.ice x.clear) ∧
              (x.state = .clear → temp ≤ c.tIce → c.hIce ≤ rh → enters .watch temp) ∧
              (x.state = .clear → ¬(temp ≤ c.tIce ∧ c.hIce ≤ rh) → stays x.suspect x.ice x.clear) ∧
              (x.state = .watch → c.tIce + c.tHyst < temp → enters .clear temp) ∧
              (x.state = .watch → temp ≤ c.tIce + c.tHyst → produces → c.ns ≤ suspect → enters .suspect deficit) ∧
              (x.state = .watch → temp ≤ c.tIce + c.tHyst → (produces → suspect < c.ns) → stays suspect x.ice x.clear) ∧
              (x.state = .suspect → ∀ n, imb = some n → c.iIce ≤ n → enters .iced n) ∧
              (x.state = .suspect → (∀ n, imb = some n → n < c.iIce) → c.ni ≤ ice → byCount .iced) ∧
              (x.state = .suspect → (∀ n, imb = some n → n < c.iIce) → ice < c.ni → c.ns ≤ clear → byCount .watch) ∧
              (x.state = .suspect → (∀ n, imb = some n → n < c.iIce) → ice < c.ni → clear < c.ns → stays x.suspect ice clear) ∧
              (x.state = .iced → c.tThaw < temp → enters .thaw temp) ∧
              (x.state = .iced → temp ≤ c.tThaw → stays x.suspect x.ice x.clear)) ∧
             (x.state = .thaw →
              (temp ≤ c.tIce → enters .iced temp) ∧
              (∀ n, c.tIce < temp → x.thaw = some n → 1 < n →
                stays x.suspect x.ice x.clear ∧ t.icd.thaw = some (n - 1)) ∧
              (c.tIce < temp → x.thaw = some 1 → enters .clear 0))))))

/-! ### Limit Board (chapter 7) -/

/-- R131: ACK CAP of another generation is refused. Of the current one it is accepted: A_gen takes it, A_cap takes the effective cap, the timer
stops, and the line is released when the cap is above 0. A change of A_gen, A_cap or the line makes an ACK entry and a publish, no change makes
neither. R128, R129, R130: the second tick that finds one second left on the ack timer. Where the board takes the tick first, or neither the Icing
Detector nor the schedule hands it anything, the timer stops, the line is asserted if the effective cap is 0 and otherwise left as it stands, and
HARD_STOP or CAP_UNACKED is set in every copy. The row is a whole second tick (log entry 5).
That an IDLE port takes the row as the whole word pair is the model's choice, log entry 4. -/
def Obligations.AckTimerAndAckCap : Prop :=
  (∀ (dt : Nat) (p : PortId) (arg raw : Word) (s : State),
      let u := s.advance dt
      let b := { u.lb with aGen := u.lb.gen, aCap := u.lb.cap, timer := none, line := u.lb.line && decide (u.lb.cap = 0) }
      let moves := b.aGen ≠ u.lb.aGen ∨ b.aCap ≠ u.lb.aCap ∨ b.line ≠ u.lb.line
      (u.pi.get p).role = .turbine → Delivers p .ackCap raw s →
      (arg.toNat ≠ u.lb.gen → exec (.ackCap dt p arg) s = .next (u.answered p raw arg .refused .staleGeneration)) ∧
      (arg.toNat = u.lb.gen → ¬moves → exec (.ackCap dt p arg) s = .next ((u.setLb b).answered p raw arg .accepted .none)) ∧
      (arg.toNat = u.lb.gen → moves →
        ∃ t, exec (.ackCap dt p arg) s = .next t ∧ OnlyTouches [.lb, .ej, .rep, .pi, .pub] u t ∧ t.lb = b ∧
          (∃ e ∈ t.ej.ring, e.seq = u.ej.next ∧ e.source = .lb ∧ e.kind = .ack ∧ e.fromState = some (twoCode u.lb.line) ∧
            e.toState = some (twoCode b.line)) ∧
          (∃ f ∈ t.pub.flights, f.group = 10 ∧ f.number = u.pub.next) ∧ t.pi = (u.answered p raw arg .accepted .none).pi)) ∧
  (∀ (order : TickOrder) (s : State),
      let u := s.advance (40000000 - s.cc.phase)
      (s.lb.timer ≠ some 1 → exec (.ackTimerExpiry order) s = .next s) ∧
      (s.lb.timer = some 1 →
        ∃ t, exec (.ackTimerExpiry order) s = .next t ∧ OnlyTouches [.icd, .lb, .cc, .ms, .ej, .rep, .pub] u t ∧
          ((order = .lbIcdMs ∨ order = .lbMsIcd) →
            t.lb.line = (u.lb.line || decide (u.lb.cap = 0)) ∧
            t.lb.lastOutcome = (if u.lb.cap = 0 then .hardStop else .capUnacked) ∧
            t.lb.lastTime = t.cc.time ∧ t.lb.lastUnset = !t.cc.isSet ∧
            FlagInEveryCopy (if u.lb.cap = 0 then .hardStop else .capUnacked) t) ∧
          (u.jobs.icing = false → u.icd.thaw = none → u.jobs.maint = false →
            t.lb = { u.lb with
              timer := none
              line := u.lb.line || decide (u.lb.cap = 0)
              lastOutcome := if u.lb.cap = 0 then .hardStop else .capUnacked
              lastTime := t.cc.time
              lastUnset := !t.cc.isSet } ∧
            FlagInEveryCopy (if u.lb.cap = 0 then .hardStop else .capUnacked) t)))

/-! ### Counters and Calendar (chapter 8) -/

/-- R137, R141, R147, R156, R104: a second tick takes a second from the phase, advances the present time until its last second, where it sets
LIMIT once with CAL_LIMIT, counts an operating second while either speed meets its running speed, and is handed on: the operating record ages by one
and the schedule's sample shows the counters and calendar as the tick left them. That an overdue phase keeps its rest, where R137 says that it becomes
0 at its second, is log entry 2.
R155, R157, R161: the schedule then takes every pending definition into force by the table of R155, in either state of its job, and while enabled
judges every present item of a valid source on the new sample; the ITEM entries of the taking and then of the judging stand in slot order (the
value of one that becomes absent: log entry 35), and slot MAINT follows the least cap.
R104, R100: a tick that closes no interval and ends no thaw moves the detector's age, second counter and thaw timer, and nothing else in it.
R128: where neither the detector nor the schedule changes a slot, the board changes only in its ack timer, which goes down by 1 short of its
expiry; where one of them does and leaves the cap below A_cap, a RUNNING timer still goes down by 1. All in any order of the takers (log entry 6). -/
def Obligations.SecondTickAdvancesTheCalendar : Prop :=
  ∀ (order : TickOrder) (s : State),
    let u := s.advance (40000000 - s.cc.phase)
    let c := u.cc
    let held := c.time ≥ 3155759999
    let runs := c.config.vRunHs ≤ u.sau.hs.speed ∨ c.config.vRunLs ≤ u.sau.ls.speed
    ∃ t, exec (.secondTick order) s = .next t ∧ OnlyTouches [.icd, .lb, .cc, .ms, .ej, .rep, .pub] u t ∧
      t.cc = { c with
        phase := c.phase - 40000000
        time := if held then c.time else c.time + 1
        limit := if held then true else c.limit
        seconds := if runs then min 4294967295 (c.seconds + 1) else c.seconds } ∧
      (held → c.limit = false → FlagInEveryCopy .calLimit t) ∧
      t.icd.age = min 65535 (u.icd.age + 1) ∧
      t.ms.sample = ⟨t.cc.isSet, t.cc.time / 86400, t.cc.restored, t.cc.seconds, t.cc.damage⟩ ∧
      let took := u.ms.items.map taken
      let ordinary := (u.jobs.icing = false ∨ u.icd.second < 9) ∧ ∀ n, u.icd.thaw = some n → 2 ≤ n
      let unposted := u.jobs.maint = false ∨ t.ms.posted = u.ms.posted
      t.ms.items = took.map (judged u.jobs.maint t.ms.sample) ∧ t.ms.deferArg = u.ms.deferArg ∧
      JournalsRun (u.ms.items.zipIdx.flatMap (fun x => takenEntries x.2 x.1) ++
        took.zipIdx.flatMap (fun x => judgedEntries u.jobs.maint t.ms.sample x.2 x.1)) u t ∧
      SlotsElsewhere [0, 1] u t ∧
      (u.jobs.maint = false → t.ms.posted = u.ms.posted) ∧ (u.jobs.maint = true → t.ms.posted = maintCap t.ms.items) ∧
      (unposted → tget t.lb.slots 1 = tget u.lb.slots 1) ∧
      (∀ k, ¬unposted → t.ms.posted = some k → 1 < u.lb.slots.length → Posted (tget t.lb.slots 1) k .overdue) ∧
      (¬unposted → t.ms.posted = none → (tget t.lb.slots 1).active = false) ∧
      (ordinary → tget t.lb.slots 0 = tget u.lb.slots 0 ∧
        t.icd = { u.icd with
          age := min 65535 (u.icd.age + 1)
          fresh := if u.icd.fresh = .fresh ∧ u.icd.age = 4 then .stale else u.icd.fresh
          second := if u.jobs.icing then u.icd.second + 1 else u.icd.second
          thaw := u.icd.thaw.map (· - 1) }) ∧
      (ordinary → unposted → u.lb.timer = none → t.lb = u.lb) ∧
      (∀ n, ordinary → unposted → u.lb.timer = some n → 2 ≤ n → t.lb = { u.lb with timer := some (n - 1) }) ∧
      (∀ n, (ordinary ∨ unposted) → u.lb.timer = some n → 2 ≤ n → t.lb.cap < u.lb.aCap → t.lb.timer = some (n - 1))

/-- R138, R139, R144: an edge on the pulse-per-second input. A falling edge does nothing; a rising one less than 20,000,000 ticks after the reference
is counted as ignored. An accepted edge becomes the reference, counts, and records its offset from the phase it finds; it then loads an ARMED
set, disciplines a SET calendar, or does nothing more. Past half a second it first issues the second tick. That an edge that finds an overdue phase
reads it as 39,999,999, as R139 says of an edge at the moment of the tick, is log entry 2. -/
def Obligations.PpsEdgeLoadsOrDisciplines : Prop :=
  ∀ (dt : Nat) (rising : Bool) (order : TickOrder) (s : State),
    let u := s.advance dt
    let c := u.cc
    let early := ∃ r, c.ppsRef = some r ∧ u.now < r + 20000000
    let p := min 39999999 c.phase
    let offset : Int := if p < 20000000 then (p : Int) else (p : Int) - 40000000
    let seen := { c with ppsRef := some u.now, ppsAccepted := min 65535 (c.ppsAccepted + 1), ppsOffset := offset }
    (rising = false → exec (.ppsEdge dt rising order) s = .next u) ∧
    (rising = true → early →
      exec (.ppsEdge dt rising order) s = .next (u.setCc { c with ppsIgnored := min 65535 (c.ppsIgnored + 1) })) ∧
    (rising = true → ¬early → c.armed = none → c.isSet = false →
      exec (.ppsEdge dt rising order) s = .next (u.setCc seen)) ∧
    (rising = true → ¬early → c.armed = none → c.isSet = true → p < 20000000 →
      exec (.ppsEdge dt rising order) s = .next (u.setCc { seen with phase := 0 })) ∧
    (rising = true → ¬early → c.armed = none → c.isSet = true → 20000000 ≤ p →
      ∃ t, exec (.ppsEdge dt rising order) s = .next t ∧ OnlyTouches [.icd, .lb, .cc, .ms, .ej, .rep, .pub] u t ∧
        t.cc.phase = 0 ∧ t.cc.ppsRef = some u.now ∧ t.cc.ppsOffset = offset ∧ t.cc.ppsAccepted = seen.ppsAccepted ∧
        t.cc.time = (if c.time < 3155759999 then c.time + 1 else c.time) ∧ t.cc.isSet = true ∧
        t.icd.age = min 65535 (u.icd.age + 1)) ∧
    (rising = true → ¬early → ∀ a, c.armed = some a →
      ∃ t, exec (.ppsEdge dt rising order) s = .next t ∧ OnlyTouches [.icd, .lb, .cc, .ms, .ej, .rep, .pub] u t ∧
        t.cc.phase = 0 ∧ t.cc.ppsRef = some u.now ∧ t.cc.ppsOffset = offset ∧ t.cc.ppsAccepted = seen.ppsAccepted ∧
        t.cc.time = a.value ∧ t.cc.isSet = true ∧ t.cc.limit = false ∧ t.cc.armed = none ∧
        t.icd.age = (if 20000000 ≤ p then min 65535 (u.icd.age + 1) else u.icd.age))

/-- R143, R145: CLOCK ARM is refused BUSY while a set is ARMED, and BAD_ARGUMENT for a mode above 1 or a staged value that is no date and time; mode
0 loads the staged value at once with a CLOCK entry, mode 1 captures it with a deadline two seconds later. A deadline that passes abandons the set
with its flag and entry and leaves the calendar as it stands. That the row does nothing while no set is ARMED, and acts at its deadline when that
has passed, is log entry 2.
That an IDLE port takes the row as the whole word pair is the model's choice, log entry 4. -/
def Obligations.ClockSetCommands : Prop :=
  ∀ (dt : Nat) (p : PortId) (arg raw : Word) (s : State),
    let u := s.advance dt
    let c := u.cc
    let ok := 2000 ≤ c.staging.year.toNat ∧ c.staging.year.toNat ≤ 2099 ∧
      1 ≤ c.staging.month.toNat ∧ c.staging.month.toNat ≤ 12 ∧
      1 ≤ c.staging.day.toNat ∧ c.staging.day.toNat ≤ monthLength c.staging.year.toNat c.staging.month.toNat ∧
      c.staging.hour.toNat ≤ 23 ∧ c.staging.minute.toNat ≤ 59 ∧ c.staging.second.toNat ≤ 59
    let value := dayOfDate c.staging.year.toNat c.staging.month.toNat c.staging.day.toNat * 86400
      + c.staging.hour.toNat * 3600 + c.staging.minute.toNat * 60 + c.staging.second.toNat
    ((u.pi.get p).role = .farm → Delivers p .clockArm raw s →
      (c.armed.isSome = true → exec (.clockArm dt p arg) s = .next (u.answered p raw arg .refused .busy)) ∧
      (c.armed = none → (2 ≤ arg.toNat ∨ ¬ok) →
        exec (.clockArm dt p arg) s = .next (u.answered p raw arg .refused .badArgument)) ∧
      (c.armed = none → arg = 0 → ok →
        ∃ t, exec (.clockArm dt p arg) s = .next t ∧ OnlyTouches [.cc, .ej, .rep, .pi] u t ∧
          t.cc = { c with time := value, limit := false, phase := 0, isSet := true } ∧
          (∃ e ∈ t.ej.ring, e.seq = u.ej.next ∧ e.source = .cc ∧ e.kind = .clock ∧ e.time = value ∧ e.unset = false ∧
            e.fromState = some (twoCode c.isSet) ∧ e.toState = some (twoCode true) ∧
            e.value = max (-2147483648) (min 2147483647 ((value : Int) - (c.time : Int)))) ∧
          t.pi = (u.answered p raw arg .accepted .none).pi) ∧
      (c.armed = none → arg = 1 → ok →
        exec (.clockArm dt p arg) s = .next
          ((u.setCc { c with armed := some ⟨value, u.now + 80000000⟩ }).answered p raw arg .accepted .none))) ∧
    (s.cc.armed = none → exec .clockSetDeadline s = .next s) ∧
    (∀ a, s.cc.armed = some a →
      let w := s.advanceTo a.deadline
      exec .clockSetDeadline s = .next (((w.setCc { w.cc with armed := none }).raise .clockSetAbandoned).journal
        { source := .cc, kind := .clockAbandon }))

/-- R151, R149: COUNTER RESTORE is refused once the counters are RESTORED, and for an argument above 1; with 0 each counter takes its base added,
saturating, with 1 each keeps its value, and both journal the change.
That an IDLE port takes the row as the whole word pair is the model's choice, log entry 4. -/
def Obligations.CounterRestoreAddsTheBases : Prop :=
  ∀ (dt : Nat) (p : PortId) (arg raw : Word) (s : State),
    let u := s.advance dt
    let c := u.cc
    let summed := { c with
      seconds := min 4294967295 (c.seconds + c.baseSeconds)
      bins := List.zipWith (fun x y => min 281474976710655 (x + y)) c.bins c.baseBins
      damage := min 18446744073709551615 (c.damage + c.baseDamage) }
    let entry := fun (a : Int) =>
      ({ source := .cc, kind := .restore, fromState := some 0, toState := some 1, value := a } : EntryBody)
    (u.pi.get p).role = .farm → Delivers p .counterRestore raw s →
    (c.restored = true → exec (.counterRestore dt p arg) s = .next (u.answered p raw arg .refused .alreadyRestored)) ∧
    (c.restored = false → 2 ≤ arg.toNat →
      exec (.counterRestore dt p arg) s = .next (u.answered p raw arg .refused .badArgument)) ∧
    (c.restored = false → arg = 0 → exec (.counterRestore dt p arg) s = .next
      (((u.setCc { summed with restored := true }).journal (entry 0)).answered p raw arg .accepted .none)) ∧
    (c.restored = false → arg = 1 → exec (.counterRestore dt p arg) s = .next
      (((u.setCc { c with restored := true }).journal (entry 1)).answered p raw arg .accepted .none))

/-! ### Maintenance Schedule (chapter 9) -/

/-- R165, R166, R156: the checks and effects of ITEM DONE and ITEM DEFER. ITEM DONE makes the item PENDING with last_done at the value and due at
value + interval, limited to 64 bits, and DUE at once where an enabled schedule finds that due already reached (R158); ITEM DEFER makes a DUE or OVERDUE
item, not deferred since its last completion, DEFERRED until the argument record, within due + max_defer. That the DONE entry comes before the ITEM
entry of the immediate judgement is the model's reading, log entry 24.
That an IDLE port takes the row as the whole word pair is the model's choice, log entry 4. -/
def Obligations.ItemCommands : Prop :=
  ∀ (dt : Nat) (p : PortId) (arg raw : Word) (s : State),
    let u := s.advance dt
    let n := arg.toNat
    let x := tget u.ms.items n
    let v := u.ms.sample.value x.inForce.kind
    let done := fun (r : Answer) (w : Reason) => exec (.itemDone dt p arg) s = .next (u.answered p raw arg r w)
    let deferred := fun (r : Answer) (w : Reason) => exec (.itemDefer dt p arg) s = .next (u.answered p raw arg r w)
    ((u.pi.get p).role = .farm → Delivers p .itemDone raw s →
      (32 ≤ n → done .refused .badArgument) ∧
      (n < 32 → x.part = none → done .refused .wrongState) ∧
      (n < 32 → x.part ≠ none → u.ms.sample.valid x.inForce.kind = false →
        done .refused (if x.inForce.kind = .date then .clockUnset else .unrestored)) ∧
      (∀ y, n < 32 → x.part = some y → u.ms.sample.valid x.inForce.kind = true →
        let due := min 18446744073709551615 (v + x.inForce.interval)
        ∃ t, exec (.itemDone dt p arg) s = .next t ∧ OnlyTouches [.ms, .lb, .ej, .rep, .pi, .pub] u t ∧
          t.ms.items = u.ms.items.set n { x with
            part := some ⟨if u.jobs.maint = true ∧ due ≤ v then .due else .pending, due, some v, none, none, false⟩ } ∧
          t.ms.sample = u.ms.sample ∧ t.ms.deferArg = u.ms.deferArg ∧
          (u.jobs.maint = false → t.ms.posted = u.ms.posted ∧ t.lb = u.lb) ∧
          (u.jobs.maint = true → t.ms.posted = maintCap t.ms.items ∧ SlotsElsewhere [1] u t) ∧
          (∃ e ∈ t.ej.ring, e.seq = u.ej.next ∧ e.source = .ms ∧ e.inst = some n ∧ e.kind = .done ∧
            e.fromState = some y.state.code ∧ e.toState = some ItemState.pending.code) ∧
          t.pi = (u.answered p raw arg .accepted .none).pi)) ∧
    ((u.pi.get p).role = .farm → Delivers p .itemDefer raw s →
      (32 ≤ n → deferred .refused .badArgument) ∧
      (n < 32 → (∀ y, x.part = some y → y.state = .pending) → deferred .refused .wrongState) ∧
      (∀ y, n < 32 → x.part = some y → y.state ≠ .pending → (y.state = .deferred ∨ y.mark = true) →
        deferred .refused .alreadyDeferred) ∧
      (∀ y, n < 32 → x.part = some y → (y.state = .due ∨ y.state = .overdue) → y.mark = false →
        (u.ms.deferArg ≤ v ∨ y.due + x.inForce.maxDefer < u.ms.deferArg) → deferred .refused .deferLimit) ∧
      (∀ y, n < 32 → x.part = some y → (y.state = .due ∨ y.state = .overdue) → y.mark = false →
        v < u.ms.deferArg → u.ms.deferArg ≤ y.due + x.inForce.maxDefer →
        ∃ t, exec (.itemDefer dt p arg) s = .next t ∧ OnlyTouches [.ms, .lb, .ej, .rep, .pi, .pub] u t ∧
          t.ms.items = u.ms.items.set n { x with
            part := some { y with state := .deferred, deferUntil := some u.ms.deferArg, mark := true } } ∧
          t.ms.sample = u.ms.sample ∧ t.ms.deferArg = u.ms.deferArg ∧
          (u.jobs.maint = false → t.ms.posted = u.ms.posted ∧ t.lb = u.lb) ∧
          (u.jobs.maint = true → t.ms.posted = maintCap t.ms.items ∧ SlotsElsewhere [1] u t) ∧
          (∃ e ∈ t.ej.ring, e.seq = u.ej.next ∧ e.source = .ms ∧ e.inst = some n ∧ e.kind = .defer ∧
            e.fromState = some y.state.code ∧ e.toState = some ItemState.deferred.code) ∧
          t.pi = (u.answered p raw arg .accepted .none).pi))

/-- R157, R161, R167, R168: an accepted ENABLE MAINT evaluates every present item of a valid source on the sample as it stands and posts the least
cap below 100 among OVERDUE items; an accepted DISABLE MAINT withdraws slot MAINT when it was posted and keeps every item.
That an IDLE port takes the row as the whole word pair is the model's choice, log entry 4. -/
def Obligations.MaintJobCommands : Prop :=
  ∀ (dt : Nat) (p : PortId) (arg raw : Word) (s : State),
    let u := s.advance dt
    let judged := fun (x : Item) => { x with part := x.part.map (fun y =>
      if u.ms.sample.valid x.inForce.kind then evaluated x.inForce.grace (u.ms.sample.value x.inForce.kind) y else y) }
    ((u.pi.get p).role ∈ [Role.turbine, Role.farm] → Delivers p (.enable .maint) raw s → u.jobs.maint = false →
      (∃ x ∈ u.ms.items, x.inForce.present = true) →
      ∃ t, exec (.enableMaint dt p arg) s = .next t ∧ OnlyTouches [.jobs, .ms, .lb, .ej, .rep, .pi, .pub] u t ∧
        t.jobs = { u.jobs with maint := true } ∧ t.ms.items = u.ms.items.map judged ∧ t.ms.sample = u.ms.sample ∧
        t.ms.deferArg = u.ms.deferArg ∧ t.ms.posted = maintCap t.ms.items ∧ SlotsElsewhere [1] u t ∧
        t.pi = (u.answered p raw arg .accepted .none).pi) ∧
    ((u.pi.get p).role ∈ [Role.turbine, Role.farm] → Delivers p (.disable .maint) raw s → u.jobs.maint = true →
      ∃ t, exec (.disableMaint dt p arg) s = .next t ∧ OnlyTouches [.jobs, .ms, .lb, .ej, .rep, .pi, .pub] u t ∧
        t.jobs = { u.jobs with maint := false } ∧ t.ms = { u.ms with posted := none } ∧
        (u.ms.posted ≠ none → (tget t.lb.slots 1).active = false) ∧ (u.ms.posted = none → t.lb = u.lb) ∧
        SlotsElsewhere [1] u t ∧ t.pi = (u.answered p raw arg .accepted .none).pi)

/-! ### Event Journal, status and attention (chapter 10) -/

/-- R174, R181: JOURNAL ADVANCE moves the issuing port's cursor forward by at most its pending count and is never refused; ATTN MASK sets or clears the
named bits of the issuing port's mask and refuses an op that is neither SET (01) nor CLEAR (10) and a bit outside the four causes (R199).
R176, R177, R178: a write of a port to its own status record with both bytes of its first five words clears each flag and the COINC latch
written as 1, stores the report enables, whose bits are log entry 46, and clears the gap count when 0 is written; cursor, mask and every other
port stand. That the status write is one whole CONFINED write on a ready port is the model's choice, log entry 3.
R133, R179, R180: JOURNAL stands while the port's pending count is above 0, ERROR while a flag of an enabled class is set in its copy, CAP while the
effective cap is below A_cap and the generation is not A_gen, COINC while its latch is set; its attention line is active exactly while a cause
stands whose mask bit is set. Word 5 of its status record shows mask, causes and line.
That an IDLE port takes the row as the whole word pair is the model's choice, log entry 4. -/
def Obligations.ReportingCommands : Prop :=
  (∀ (dt : Nat) (p : PortId) (arg raw : Word) (s : State),
      let u := s.advance dt
      let r := u.rep.get p
      let outside := arg &&& 0x3FF0 ≠ 0
      (Delivers p .journalAdvance raw s →
        exec (.journalAdvance dt p arg) s = .next ((u.setRepPort p { r with
          cursor := (r.cursor + min arg.toNat ((u.ej.next + 4294967296 - r.cursor) % 4294967296)) % 4294967296 }).answered
            p raw arg .accepted .none)) ∧
      (Delivers p .attnMask raw s →
        (outside ∨ arg.extractLsb 15 14 = 0#2 ∨ arg.extractLsb 15 14 = 3#2 →
          exec (.attnMask dt p arg) s = .next (u.answered p raw arg .refused .badArgument)) ∧
        (¬outside → arg.extractLsb 15 14 = 1#2 →
          exec (.attnMask dt p arg) s = .next
            ((u.setRepPort p { r with mask := r.mask ||| arg.extractLsb 3 0 }).answered p raw arg .accepted .none)) ∧
        (¬outside → arg.extractLsb 15 14 = 2#2 →
          exec (.attnMask dt p arg) s = .next
            ((u.setRepPort p { r with mask := r.mask &&& ~~~(arg.extractLsb 3 0) }).answered p raw arg .accepted .none)))) ∧
  (∀ (dt : Nat) (p : PortId) (advisory degraded protective enables gap : Word) (s : State),
      let u := s.advance dt
      let r := u.rep.get p
      PortReady p s →
      exec (.statusWrite dt p (whole [advisory, degraded, protective, enables, gap])) s = .next (u.setRepPort p { r with
        advisory := r.advisory &&& ~~~(advisory.setWidth 9)
        degraded := r.degraded &&& ~~~(degraded.setWidth 6)
        protective := r.protective &&& ~~~(protective.setWidth 5)
        latch := r.latch && !enables.getLsbD 0
        enAdvisory := enables.getLsbD 4
        enDegraded := enables.getLsbD 5
        enProtective := enables.getLsbD 6
        gap := if gap = 0 then 0 else r.gap })) ∧
  (∀ (p : PortId) (s : State),
      let r := s.rep.get p
      let journal := 0 < (s.ej.next + 4294967296 - r.cursor) % 4294967296
      let error := ∃ f, r.hasFlag f = true ∧
        match f with
        | .linkLost | .freqOut | .unlocked | .staleLines | .opStale | .calLimit => r.enDegraded = true
        | .hsFault | .lsFault | .capUnacked | .hardStop | .roleConflict => r.enProtective = true
        | _ => r.enAdvisory = true
      let cap := s.lb.cap < s.lb.aCap ∧ s.lb.gen ≠ s.lb.aGen
      let word := wordAt (image 15 (portNumber p) s) 5
      ((s.causes p).getLsbD 0 = true ↔ journal) ∧ ((s.causes p).getLsbD 1 = true ↔ error) ∧
      ((s.causes p).getLsbD 2 = true ↔ cap) ∧ (s.causes p).getLsbD 3 = r.latch ∧
      (s.attentionLine p = true ↔
        (r.mask.getLsbD 0 = true ∧ journal) ∨ (r.mask.getLsbD 1 = true ∧ error) ∨ (r.mask.getLsbD 2 = true ∧ cap) ∨
          (r.mask.getLsbD 3 = true ∧ r.latch = true)) ∧
      word.extractLsb 3 0 = r.mask ∧ word.extractLsb 11 8 = s.causes p ∧ word.getLsbD 15 = s.attentionLine p)

/-! ### Port Interface (chapter 11) -/

/-- R185, R186, R188, R173: the words that open a transaction. Select begins one on an IDLE port that is not held; two header words wait; the third is
decoded, answered HELD exactly for a RECORD read in range whose group has a publish in flight, and places the sweep and takes the cursor; then 2
or 34 filler words follow, the first carrying the answer (the header's layout and the code of the answer are R199's), and the last one brings DATA and
leaves no publish of that group in flight that was so at the header of a HELD read. That the last filler word itself ends those publishes, and no
others, is log entry 18 (R186 asks only that they have ended before the first data word). -/
def Obligations.TransactionOpens : Prop :=
  ∀ (dt : Nat) (p : PortId) (w : Word) (s : State),
    let u := s.advance dt
    let x := u.pi.get p
    (PortReady p s → exec (.transactionStart dt p) s = .next (u.setPort p { x with
      phase := .header, words := [], header := none, answer := none, filler := 0, record := 0, offset := 0,
      firstPass := true, snapshot := [], denied := false, buffer := [], command := none })) ∧
    (¬PortReady p s → exec (.transactionStart dt p) s = .next u) ∧
    (x.phase = .header → x.words.length < 2 →
      exec (.headerWord dt p w) s = .next (u.setPort p { x with words := x.words ++ [w] })) ∧
    (∀ w0 w1, x.phase = .header → x.words = [w0, w1] →
      let h := decodeHeader w0 w1 w
      let held := h.write = false ∧ h.control = false ∧ h.outOfRange = false ∧ ∃ f ∈ u.pub.flights, f.group = h.group
      ∃ a, (held → a = WaitAnswer.held) ∧ (¬held → a = WaitAnswer.prompt) ∧
        exec (.transactionHeader dt p w) s = .next (u.setPort p { x with
          phase := .wait, words := [w0, w1, w], header := some h, answer := some a, filler := 0, bound := u.pub.next,
          record := h.record, offset := h.offset, firstPass := true, snapshot := [], headCursor := (u.rep.get p).cursor })) ∧
    (∀ a h, x.phase = .wait → x.answer = some a → x.header = some h →
      let count := match a with | .prompt => 2 | .held => 34
      let y := { x with
        dataOut := if x.filler = 0 ∧ a = .held then 1 else 0
        filler := x.filler + 1 }
      (x.filler + 1 < count → exec (.fillerWord dt p w) s = .next (u.setPort p y)) ∧
      (count ≤ x.filler + 1 → a = .prompt → exec (.fillerWord dt p w) s = .next (u.setPort p { y with phase := .data })) ∧
      (count ≤ x.filler + 1 → a = .held →
        ∃ t, exec (.fillerWord dt p w) s = .next t ∧ OnlyTouches [.pi, .pub] u t ∧
          t.pi = u.pi.set p { y with phase := .data } ∧
          (∀ f ∈ t.pub.flights, f ∈ u.pub.flights ∧ ¬(f.group = h.group ∧ f.number < x.bound)) ∧
          (∀ f ∈ u.pub.flights, ¬(f.group = h.group ∧ f.number < x.bound) → f ∈ t.pub.flights)))

/-- R185, R187 to R190, R192, R173: the data words of a transaction and its end. A read out of range delivers FFFFh; another delivers the word of its
pass's snapshot, taken at the pass's first word (of a group with a publish in flight as log entry 18 says; of CONTROL space the identification or
the result record; of group 14 the entry at cursor + record). A word of a RECORD write that the role may write goes into the buffer at the
sweep's position; a refused or out-of-range one is discarded, and the first of a transaction sets ACCESS_DENIED in every copy. After each data word in
range the position moves by the sweep's rule, and a pass that ends drops the snapshot.
When select becomes inactive the port is IDLE with empty buffers. Where the transaction is no RECORD write in DATA, or no byte was written, nothing else
changes. A buffer of one record acts as the whole write (log entry 3) of the last byte written of each half; one of several records leaves each of
them as its own whole write would, and words of the staging records take the written bytes and keep the others. -/
def Obligations.TransactionDataWords : Prop :=
  ∀ (dt : Nat) (p : PortId) (m : MaskedWord) (h : Header) (s : State),
    let u := s.advance dt
    let x := u.pi.get p
    let closed := u.portClosed p
    let allowed := (h.group = 15 ∧ x.record = portNumber p) ∨ (h.group ≠ 15 ∧ x.role ∈ writers h.group)
    let wrapped := if x.offset + 1 < h.length x.record then x.offset + 1 else 0
    let onward := if x.record + 1 < h.records then x.record + 1 else 0
    let runs := if x.offset + 1 < h.length x.record then (x.record, x.offset + 1, false) else (onward, 0, true)
    let move : Nat × Nat × Bool :=
      match h.sweep, x.firstPass with
      | some .running, _ => runs
      | some .confinedThenRunning, false => runs
      | some .confinedThenRunning, true => if wrapped = h.offset then (onward, 0, true) else (x.record, wrapped, false)
      | _, _ => (x.record, wrapped, decide (wrapped = h.offset))
    let moved := fun (y : PiPort) (snapshot : List Word) => { y with
      record := move.1
      offset := move.2.1
      firstPass := if (h.sweep = some .running ∨ h.sweep = some .confinedThenRunning) ∧ move.2.2 = true then false else x.firstPass
      snapshot := if move.2.2 then [] else snapshot }
    let asked := (x.headCursor + x.record) % 4294967296
    (x.phase = .data → x.header = some h → h.write = false → h.outOfRange = true →
      exec (.readDataWord dt p) s = .next (u.setPort p { x with dataOut := 0xFFFF })) ∧
    (x.phase = .data → x.header = some h → h.write = false → h.outOfRange = false →
      ∃ words, exec (.readDataWord dt p) s = .next (u.setPort p (moved { x with dataOut := wordAt words x.offset } words)) ∧
        (x.snapshot ≠ [] → words = x.snapshot) ∧
        (x.snapshot = [] → h.control = false → h.group ≠ 14 → words = visible h.group x.record u) ∧
        (x.snapshot = [] → h.control = true → x.record = 0 → words =
          [0x0740, 0x0001, BitVec.ofNat 16 (256 * roleCode x.strapped + roleCode x.role), 24, 16, 8, 32, 256]) ∧
        (x.snapshot = [] → h.control = true → x.record = 1 → words =
          [BitVec.ofNat 16 x.result.count, x.result.command, x.result.argument,
            BitVec.ofNat 16 (256 * x.result.answer.code + x.result.reason.code)]) ∧
        (x.snapshot = [] → h.control = false → h.group = 14 →
          (∀ e ∈ u.ej.ring, e.seq = asked → (∀ y ∈ u.ej.ring, y.seq = asked → y = e) → words = journalWords e) ∧
          ((∀ e ∈ u.ej.ring, e.seq ≠ asked) →
            words = journalWords ⟨asked, 0, false, .sauHs, none,
              if (asked + 4294967296 - u.ej.next) % 4294967296 < 256 then .none else .lost, none, none, 0⟩))) ∧
    (x.phase = .data → x.header = some h → h.write = true → h.control = false → h.outOfRange = false →
      (allowed → exec (.writeDataWord dt p m) s =
        .next (u.setPort p (moved { x with buffer := x.buffer ++ [⟨x.record, x.offset, m⟩] } x.snapshot))) ∧
      (¬allowed → x.denied = true → exec (.writeDataWord dt p m) s = .next (u.setPort p (moved x x.snapshot))) ∧
      (¬allowed → x.denied = false → exec (.writeDataWord dt p m) s =
        .next ((u.raise .accessDenied).setPort p (moved { x with denied := true } x.snapshot)))) ∧
    (x.phase = .data → x.header = some h → h.write = true → h.control = false → h.outOfRange = true →
      exec (.writeDataWord dt p m) s = .next (if x.denied then u.setPort p x
        else (u.raise .accessDenied).setPort p { x with denied := true })) ∧
    (¬(x.phase = .data ∧ ∃ k, x.header = some k ∧ k.write = true ∧ k.control = false) →
      exec (.recordWrite dt p) s = .next closed) ∧
    (x.phase = .data → x.header = some h → h.write = true → h.control = false →
      ∃ t, exec (.recordWrite dt p) s = .next t ∧ t.pi = closed.pi ∧
        OnlyTouches [.sau, .ocr, .gcm, .ghm, .cw, .icd, .lb, .cc, .ms, .ej, .rep, .pi, .pub] u t ∧
        ((∀ b ∈ x.buffer, b.word.hi = false ∧ b.word.lo = false) → t = closed) ∧
        (∀ i k, wholeWriteOf i = some k → k.dt = dt → k.port = p → k.group = h.group → x.held = false →
          (k.group = 15 ∨ x.role ∈ writers k.group) → (k.group = 15 → ∀ b ∈ x.buffer, b.record = k.record) →
          k.words = (List.range (recordLength k.group k.record)).map (bufferedWord x.buffer k.record) →
          ∃ t', exec i (s.portClosed p) = .next t' ∧
            image k.group k.record t = image k.group k.record t' ∧
            ((∀ b ∈ x.buffer, b.record = k.record) → t = t')) ∧
        (h.group = 12 → u.cc.baseBins.length = 16 → ∀ r k, r < 2 → k < recordLength 12 r →
          (wordAt (image 12 r t) k).extractLsb' 8 8 =
            (lastByte true x.buffer r k).getD ((wordAt (image 12 r u) k).extractLsb' 8 8) ∧
          (wordAt (image 12 r t) k).extractLsb' 0 8 =
            (lastByte false x.buffer r k).getD ((wordAt (image 12 r u) k).extractLsb' 0 8)))

/-- R39, R186, R195: when the oldest publish of a group completes, the masters see its records as it left them: where a later publish of the group
stays in flight, each record that it keeps is seen as the oldest of those publishes keeps it, and every other record as its block holds it. With no
publish of the group in flight the row does nothing (log entry 18). -/
def Obligations.PublishCompletes : Prop :=
  ∀ (dt g : Nat) (s : State),
    let u := s.advance dt
    ((∀ f ∈ u.pub.flights, f.group ≠ g) → exec (.publishComplete dt g) s = .next u) ∧
    (∀ before f after, u.pub.flights = before ++ f :: after → (∀ x ∈ before, x.group ≠ g) → f.group = g →
      ∃ t, exec (.publishComplete dt g) s = .next t ∧ OnlyTouches [.pub] u t ∧
        t.pub = { u.pub with flights := before ++ after } ∧
        (∀ r, (∀ x ∈ after, x.group = g → ∀ k ∈ x.kept, k.1 ≠ r) → visible g r t = image g r t) ∧
        (∀ earlier x later first ws rest r, after = earlier ++ x :: later → x.group = g →
          (∀ y ∈ earlier, y.group = g → ∀ k ∈ y.kept, k.1 ≠ r) → x.kept = first ++ (r, ws) :: rest →
          (∀ k ∈ first, k.1 ≠ r) → visible g r t = ws))

/-- R193, R194: the first word of a control word waits in an empty command buffer. A control word whose command word names no command is refused with
UNKNOWN_COMMAND, an ENABLE or DISABLE whose job code names no job with BAD_ARGUMENT; both write only the issuing port's result record. A command that
the port's role may not give is refused with NOT_PERMITTED and reaches no block: nothing changes but the issuing port's
result record.
That an IDLE port takes the row as the whole word pair is the model's choice, log entry 4. -/
def Obligations.ControlWordsAreChecked : Prop :=
  (∀ (dt : Nat) (p : PortId) (w arg : Word) (enable : Bool) (job : Byte) (s : State),
      let u := s.advance dt
      let x := u.pi.get p
      let jobWord : Word := (if enable then 0x0100 else 0x0200) ||| job.setWidth 16
      (∀ h, x.phase = .data → x.header = some h → h.write = true → h.control = true → x.command = none →
        exec (.commandWord dt p w) s = .next (u.setPort p { x with command := some w })) ∧
      (commandOfWord w = .unknown → PortTakes p w w s →
        exec (.unknownCommand dt p w arg) s = .next (u.answered p w arg .refused .unknownCommand)) ∧
      (job.toNat ∉ [1, 2, 3, 4, 5, 6] → PortTakes p jobWord jobWord s →
        exec (.invalidJobCode dt p enable job arg) s = .next (u.answered p jobWord arg .refused .badArgument))) ∧
  (∀ (i : Instr) (k : ControlWord) (raw : Word) (s : State),
      controlOf i = some k → Delivers k.port k.command raw s → (s.pi.get k.port).role ∉ givers k.command →
      exec i s = .next ((s.advance k.dt).answered k.port raw k.arg .refused .notPermitted))

/-- R194: every control word that is taken adds 1 to the issuing port's command count and writes its record; every other port's interface stands;
and a refused or denied one changes nothing else.
That an IDLE port takes the row as the whole word pair is the model's choice, log entry 4. -/
def Obligations.RefusedCommandChangesNothing : Prop :=
  ∀ (i : Instr) (k : ControlWord) (raw : Word) (s : State),
    let u := s.advance k.dt
    controlOf i = some k → Delivers k.port k.command raw s →
    ∃ t a r, exec i s = .next t ∧ a ≠ .none ∧ t.pi = (u.answered k.port raw k.arg a r).pi ∧
      ((a = .refused ∨ a = .denied) → t = u.answered k.port raw k.arg a r) ∧
      ((a = .accepted ∨ a = .granted) → r = .none) ∧
      ((a = .granted ∨ a = .denied) → k.command = .restartRequest)

/-- R16, R17, R58, R59, R81, R82, R94, R95, R114, R115, R167, R168: what a job command of a permitted role is refused for, in the order of its
checks, and that DISABLE of a job that is disabled is accepted with nothing else changed.
That an IDLE port takes the row as the whole word pair is the model's choice, log entry 4. -/
def Obligations.JobCommandsAreChecked : Prop :=
  ∀ (i : Instr) (k : ControlWord) (raw : Word) (s : State),
    let u := s.advance k.dt
    let refused := fun (r : Reason) => exec i s = .next (u.answered k.port raw k.arg .refused r)
    let idle := exec i s = .next (u.answered k.port raw k.arg .accepted .none)
    let samples := u.sau.config.eLines * u.sau.config.mode.counts / u.sau.config.dec
    controlOf i = some k → Delivers k.port k.command raw s → (s.pi.get k.port).role ∈ givers k.command →
    (k.command = .enable .shaft →
      (u.jobs.shaft = true → refused .wrongState) ∧
      (u.jobs.shaft = false → samples ∉ [128, 256, 512, 1024] → refused .badConfig)) ∧
    (k.command = .enable .gear →
      (u.jobs.gear = true → refused .wrongState) ∧ (u.jobs.gear = false → u.jobs.shaft = false → refused .dependency) ∧
      (u.jobs.gear = false → u.jobs.shaft = true → (∀ d ∈ u.gcm.defs, d.enabled = false) → refused .badConfig)) ∧
    (k.command = .enable .grid →
      (u.jobs.grid = true → refused .wrongState) ∧
      (u.jobs.grid = false → (∀ h ∈ u.ghm.config.h, h = 0) → refused .badConfig)) ∧
    (k.command = .enable .coinc →
      (u.jobs.coinc = true → refused .wrongState) ∧
      (u.jobs.coinc = false → (u.jobs.gear = false ∨ u.jobs.grid = false) → refused .dependency) ∧
      (u.jobs.coinc = false → u.jobs.gear = true → u.jobs.grid = true → (∀ m ∈ u.cw.config.m, m = 0) →
        refused .badConfig)) ∧
    (k.command = .enable .icing →
      (u.jobs.icing = true → refused .wrongState) ∧
      (u.jobs.icing = false → (∀ n ∈ u.icd.curve, n = 0) → refused .badConfig)) ∧
    (k.command = .enable .maint →
      (u.jobs.maint = true → refused .wrongState) ∧
      (u.jobs.maint = false → (∀ x ∈ u.ms.items, x.inForce.present = false) → refused .badConfig)) ∧
    (k.command = .disable .shaft →
      (u.jobs.gear = true → refused .dependency) ∧ (u.jobs.gear = false → u.jobs.shaft = false → idle)) ∧
    (k.command = .disable .gear →
      (u.jobs.coinc = true → refused .dependency) ∧ (u.jobs.coinc = false → u.jobs.gear = false → idle)) ∧
    (k.command = .disable .grid →
      (u.jobs.coinc = true → refused .dependency) ∧ (u.jobs.coinc = false → u.jobs.grid = false → idle)) ∧
    (k.command = .disable .coinc → u.jobs.coinc = false → idle) ∧
    (k.command = .disable .icing → u.jobs.icing = false → idle) ∧
    (k.command = .disable .maint → u.jobs.maint = false → idle)

/-! ### Writes to records (chapters 1 to 9, R189, R190) -/

/-- R189, R190: a whole write from a role that may not write its group changes no record and sets ACCESS_DENIED in every copy; a permitted one with no
byte written, and any on a port that cannot begin a transaction, changes nothing (log entry 3). -/
def Obligations.RefusedWriteSetsAccessDenied : Prop :=
  ∀ (i : Instr) (k : WholeWrite) (s : State),
    let u := s.advance k.dt
    let allowed := k.group = 15 ∨ (s.pi.get k.port).role ∈ writers k.group
    wholeWriteOf i = some k →
    (¬PortReady k.port s → exec i s = .next u) ∧
    (PortReady k.port s → ¬allowed → k.words ≠ [] → exec i s = .next (u.raise .accessDenied)) ∧
    (PortReady k.port s → allowed → (∀ m ∈ k.words, m.hi = false ∧ m.lo = false) → exec i s = .next u) ∧
    (k.words = [] → exec i s = .next u)

/-- R98, R99, R100, R103: an operating arrival from TURBINE stores the seven fields with their clamps, an invalid turbine state keeping the old one with
BAD_VALUE; it makes the record FRESH with age 0, journals the return from STALE, and while ICING is enabled adds to the open interval.
That the row is one whole CONFINED write is the model's choice, log entry 3. -/
def Obligations.OperatingArrivalStoresTheRecord : Prop :=
  ∀ (dt : Nat) (p : PortId) (sequence state wind power torque temp humidity : Word) (s : State),
    let u := s.advance dt
    let x := u.icd
    let valid := state.toNat < 5
    let op : OpRecord := ⟨sequence.toNat, (TurbineState.ofCode state.toNat).getD x.op.turbine, min 600 wind.toNat,
      min 30000 power.toNat, max (-1500) (min 1500 torque.toInt), max (-600) (min 600 temp.toInt), min 100 humidity.toNat⟩
    let y := { x with op := op, age := 0, fresh := .fresh }
    let summed := if u.jobs.icing = true ∧ x.arrivals < 65535 then
        { y with
          arrivals := x.arrivals + 1
          sumWind := x.sumWind + op.wind
          sumPower := x.sumPower + op.power
          sumTemp := x.sumTemp + op.temp
          sumHum := x.sumHum + op.humidity
          lastState := op.turbine
          lastSeq := op.sequence }
      else y
    (s.pi.get p).role = .turbine → PortReady p s →
    ∃ t, exec (.operatingArrival dt p (whole [sequence, state, wind, power, torque, temp, humidity])) s = .next t ∧
      OnlyTouches [.icd, .ej, .rep] u t ∧ t.icd = summed ∧
      (x.fresh ≠ .stale → t.ej = u.ej) ∧
      (valid → op.turbine.code = state.toNat) ∧ (¬valid → op.turbine = x.op.turbine ∧ FlagInEveryCopy .badValue t) ∧
      (valid → x.fresh ≠ .stale → t.rep = u.rep) ∧
      (x.fresh = .stale → ∃ e ∈ t.ej.ring, e.seq = u.ej.next ∧ e.source = .icd ∧ e.kind = .operating ∧
        e.fromState = some Freshness.stale.code ∧ e.toState = some Freshness.fresh.code ∧ e.value = sequence.toNat)

/-- R42, R43, R51: a write of FARM to all ten words of a line definition stores the fields of chapter 12 with their clamps and the order of R43; an
invalid source or channel keeps the old one with BAD_VALUE. While the line stands in ALERT or DANGER, a changed cap of that level is posted to
GL(n). That a link written absent keeps no item number is the model's choice, log entry 53.
That the row is one whole CONFINED write is the model's choice, log entry 3. -/
def Obligations.LineDefinitionWriteStoresTheOrder : Prop :=
  ∀ (dt : Nat) (p : PortId) (n : Nat) (w0 kq alertOn alertOff dangerOn dangerOff w6 w7 w8 floor : Word) (s : State),
    let u := s.advance dt
    let d := tget u.gcm.defs n
    let lv := (tget u.gcm.conds n).level
    let on := max dangerOn.toNat alertOn.toNat
    let source := match (w0.extractLsb 9 8).toNat with | 0 => Side.hs | 1 => Side.ls | _ => d.source
    let channel := (w0.extractLsb 2 0).toNat
    let bad := 4 ≤ channel ∨ 2 ≤ (w0.extractLsb 9 8).toNat
    let e : LineDef := ⟨w0.getLsbD 15, source, if channel < 4 then channel else d.channel, max 1 (min 16383 kq.toNat),
      alertOn.toNat, min alertOff.toNat alertOn.toNat, on, min dangerOff.toNat on,
      min 7 (w6.extractLsb 15 8).toNat, max 1 (min 15 (w6.extractLsb 7 0).toNat),
      min 100 (w7.extractLsb 15 8).toNat, min 100 (w7.extractLsb 7 0).toNat,
      if w8.getLsbD 15 then some (w8.extractLsb 4 0).toNat else none, floor.toNat⟩
    (s.pi.get p).role = .farm → PortReady p s → n < 24 →
    ∃ t, exec (.lineDefinitionWrite dt p n
        (whole [w0, kq, alertOn, alertOff, dangerOn, dangerOff, w6, w7, w8, floor])) s = .next t ∧
      OnlyTouches [.gcm, .lb, .ej, .rep, .pub] u t ∧ t.gcm = { u.gcm with defs := u.gcm.defs.set n e } ∧
      (bad → FlagInEveryCopy .badValue t) ∧ SlotsElsewhere [4 + n] u t ∧
      (lv ≠ .alert → lv ≠ .danger → t.lb = u.lb) ∧
      (n < u.gcm.defs.length → 4 + n < u.lb.slots.length → lv = .alert → d.alertCap ≠ e.alertCap →
        Posted (tget t.lb.slots (4 + n)) e.alertCap .alert) ∧
      (n < u.gcm.defs.length → 4 + n < u.lb.slots.length → lv = .danger → d.dangerCap ≠ e.dangerCap →
        Posted (tget t.lb.slots (4 + n)) e.dangerCap .danger)

/-- R1, R2: a permitted write to the shaft configuration is discarded whole with WRITE_WHILE_ENABLED while SHAFT is enabled; while it is disabled it
stores the seven fields with their clamps, an invalid E_lines, mode or D keeping the old value with BAD_VALUE.
That the row is one whole CONFINED write is the model's choice, log entry 3. -/
def Obligations.ShaftConfigurationWrite : Prop :=
  ∀ (dt : Nat) (p : PortId) (eLines mode dec holdOff quadrant tStand gearRatio spare : Word) (s : State),
    let u := s.advance dt
    let c := u.sau.config
    let okE := eLines.toNat ∈ [256, 512, 1024, 2048]
    let okM := mode.toNat < 3
    let okD := dec.toNat ∈ [1, 2, 4, 8, 16, 32, 64]
    let new : ShaftConfig := ⟨if okE then eLines.toNat else c.eLines, (DecodeMode.ofCode mode.toNat).getD c.mode,
      if okD then dec.toNat else c.dec, min 100 holdOff.toNat, quadrant.getLsbD 1, quadrant.getLsbD 0,
      max 1 (min 60 tStand.toNat), gearRatio.toNat⟩
    let t := u.setSau { u.sau with config := new }
    let i := Instr.shaftConfigurationWrite dt p (whole [eLines, mode, dec, holdOff, quadrant, tStand, gearRatio, spare])
    (s.pi.get p).role ∈ [Role.turbine, Role.farm] → PortReady p s →
    (u.jobs.shaft = true → exec i s = .next (u.raise .writeWhileEnabled)) ∧
    (u.jobs.shaft = false → okE → okM → okD → exec i s = .next t) ∧
    (u.jobs.shaft = false → ¬(okE ∧ okM ∧ okD) → exec i s = .next (t.raise .badValue))

/-- R61, R84, R101: whole writes to the grid, watch and icing configurations store every field with its clamp; a changed cap whose slot stands posted
is handed to the board (R79, R84, R102), an invalid imbalance line keeps the old one with BAD_VALUE, and a changed line sets B to 0 (R102).
R24, R102, R125, R146: a transaction that closes with every word of the correlator configuration, the power curve, the board configuration or the
counter configuration written stores each field with its clamp, and in the correlator lowers a v_min above its v_max to it.
That a write to the watch configuration leaves what the entry records show as it stands is the model's choice, log entry 43.
That the rows are one whole CONFINED write is the model's choice, log entry 3. -/
def Obligations.ConfigurationWritesClamp : Prop :=
  (∀ (dt : Nat) (p : PortId) (ws : List Word) (s : State),
    let u := s.advance dt
    let n := fun k => (wordAt ws k).toNat
    let i := fun k => (wordAt ws k).toInt
    let line := if n 9 = 65535 then none else if n 9 < 24 then some (n 9) else u.icd.config.line
    let tIce := max (-600) (min 600 (i 0))
    let rated := min 310 (n 12)
    PortReady p s →
    (ws.length = 52 → (s.pi.get p).role ∈ [Role.converter, Role.farm] → u.ghm.config.h.length = 15 →
      u.ghm.config.limitV.length = 15 → u.ghm.config.limitI.length = 15 →
      ∃ t, exec (.gridConfigurationWrite dt p (whole ws)) s = .next t ∧ OnlyTouches [.ghm, .lb, .ej, .rep, .pub] u t ∧
        t.ghm = { u.ghm with config :=
          ⟨(List.range 15).map (fun k => if n k = 1 then 2 else min 50 (n k)), (List.range 15).map (fun k => n (15 + k)),
            (List.range 15).map (fun k => n (30 + k)), n 45, n 46, max 1 (n 47), max 1 (n 48), max 1 (min 20 (n 49)),
            min 100 (n 50)⟩ } ∧
        ((u.ghm.exceeding = false ∨ u.ghm.config.gridCap = min 100 (n 50)) → t.lb = u.lb) ∧
        (u.ghm.exceeding = true → u.ghm.config.gridCap ≠ min 100 (n 50) → 3 < u.lb.slots.length →
          Posted (tget t.lb.slots 3) (min 100 (n 50)) .exceeding) ∧ SlotsElsewhere [3] u t) ∧
    (ws.length = 26 → (s.pi.get p).role = .farm → u.cw.config.m.length = 8 → u.cw.config.slot.length = 8 →
      u.cw.config.floor.length = 8 →
      ∃ t, exec (.watchConfigurationWrite dt p (whole ws)) s = .next t ∧ OnlyTouches [.cw, .lb, .ej, .rep, .pub] u t ∧
        t.cw = { u.cw with config :=
          ⟨(List.range 8).map (fun k => min 60 (n k)), (List.range 8).map (fun k => min 15 (n (8 + k))),
            (List.range 8).map (fun k => n (16 + k)), min 255 (n 24), min 100 (n 25)⟩ } ∧
        ((u.cw.liveLines = [] ∨ u.cw.config.coincCap = min 100 (n 25)) → t.lb = u.lb) ∧
        (u.cw.liveLines ≠ [] → u.cw.config.coincCap ≠ min 100 (n 25) → 2 < u.lb.slots.length →
          Posted (tget t.lb.slots 2) (min 100 (n 25)) .live) ∧ SlotsElsewhere [2] u t) ∧
    (ws.length = 16 → (s.pi.get p).role = .farm →
      ∃ t, exec (.icingConfigurationWrite dt p (whole ws)) s = .next t ∧ OnlyTouches [.icd, .lb, .ej, .rep, .pub] u t ∧
        t.icd = { u.icd with
          config := ⟨tIce, min 200 (n 1), min 100 (n 2), max (max (-600) (min 600 (i 3))) tIce, min 1000 (n 4), min 1000 (n 5),
            max 1 (min 60 (n 6)), max 1 (min 60 (n 7)), max 100 (min 1000 (n 8)), line, max 1 (min 1440 (n 10)),
            min (min 310 (n 11)) rated, rated, min 100 (n 13)⟩
          base := if line = u.icd.config.line then u.icd.base else 0 } ∧
        (24 ≤ n 9 → n 9 ≠ 65535 → FlagInEveryCopy .badValue t) ∧
        ((u.icd.state ≠ .suspect ∨ u.icd.config.suspectCap = min 100 (n 13)) → t.lb = u.lb) ∧
        (u.icd.state = .suspect → u.icd.config.suspectCap ≠ min 100 (n 13) → u.lb.slots ≠ [] →
          Posted (tget t.lb.slots 0) (min 100 (n 13)) .suspect) ∧ SlotsElsewhere [0] u t)) ∧
  (∀ (dt : Nat) (p : PortId) (ws : List Word) (s : State),
    let u := s.advance dt
    let n := fun k => (wordAt ws k).toNat
    let closed := u.portClosed p
    (ws.length = 8 → Closing p 3 24 ws u → exec (.recordWrite dt p) s = .next (closed.setOcr { u.ocr with config :=
      ⟨max 1 (min 64 (n 0)), max 1 (min 8 (n 1)), min (n 2) (n 3), n 3, min (n 4) (n 5), n 5, min 1023 (n 6)⟩ })) ∧
    (ws.length = 32 → u.icd.curve.length = 32 → Closing p 9 1 ws u →
      exec (.recordWrite dt p) s = .next (closed.setIcd { u.icd with curve := (List.range 32).map (fun k => min 30000 (n k)) })) ∧
    (ws.length = 1 → Closing p 10 0 ws u →
      exec (.recordWrite dt p) s = .next (closed.setLb { u.lb with tAck := max 1 (min 120 (n 0)) })) ∧
    (ws.length = 18 → u.cc.config.weights.length = 16 → Closing p 11 0 ws u →
      exec (.recordWrite dt p) s = .next (closed.setCc { u.cc with config :=
        ⟨max 1 (n 0), max 1 (n 1), (List.range 16).map (fun k => n (2 + k))⟩ })))

/-- R154, R155: a write of FARM to an item slot changes the definition as written and sets TAKE_PENDING; the definition in force, the state part and
the board stand until the next second tick. Words of the state part are ignored, and a write of them alone sets TAKE_PENDING too. A written
set-or-clear word is read from its bit 0 alone, log entry 22.
R142, R150, R164: a transaction that closes with every word of the clock staging record, the restore staging record or the defer argument record
written stores every field as written.
That the row is one whole CONFINED write is the model's choice, log entry 3. -/
def Obligations.ItemDefinitionWritePends : Prop :=
  (∀ (dt : Nat) (p : PortId) (n : Nat) (ws : List Word) (s : State),
    let u := s.advance dt
    let x := tget u.ms.items n
    let d := x.written
    let quad := fun k => ((wordAt ws k).toNat * 65536 + (wordAt ws (k + 1)).toNat) * 4294967296
      + ((wordAt ws (k + 2)).toNat * 65536 + (wordAt ws (k + 3)).toNat)
    let kind := (wordAt ws 2).toNat
    let new : ItemDef := ⟨(wordAt ws 0).getLsbD 0, (wordAt ws 1).toNat,
      match kind with | 0 => .date | 1 => .hours | 2 => .damage | _ => d.kind,
      max 1 (quad 3), quad 7, quad 11, quad 15, quad 19, quad 23, min 100 (wordAt ws 27).toNat, (wordAt ws 28).getLsbD 0⟩
    let stands := fun (d : ItemDef) => u.setMs { u.ms with items := u.ms.items.set n { x with written := d, takePending := true } }
    (s.pi.get p).role = .farm → PortReady p s → n < 32 → ws.length = 48 →
    (kind < 3 → exec (.itemDefinitionWrite dt p n (whole ws)) s = .next (stands new)) ∧
    (3 ≤ kind → exec (.itemDefinitionWrite dt p n (whole ws)) s = .next ((stands new).raise .badValue)) ∧
    (exec (.itemDefinitionWrite dt p n (ws.zipIdx.map (fun w => ⟨w.1, decide (29 ≤ w.2), decide (29 ≤ w.2)⟩))) s =
      .next (stands d))) ∧
  (∀ (dt : Nat) (p : PortId) (ws : List Word) (s : State),
    let u := s.advance dt
    let closed := u.portClosed p
    let wide := fun k m => ((List.range m).map (fun i => (wordAt ws (k + i)).toNat * 65536 ^ (m - 1 - i))).sum
    (ws.length = 6 → Closing p 12 0 ws u → exec (.recordWrite dt p) s = .next (closed.setCc { u.cc with staging :=
      ⟨wordAt ws 0, wordAt ws 1, wordAt ws 2, wordAt ws 3, wordAt ws 4, wordAt ws 5⟩ })) ∧
    (ws.length = 54 → u.cc.baseBins.length = 16 → Closing p 12 1 ws u →
      exec (.recordWrite dt p) s = .next (closed.setCc { u.cc with
        baseSeconds := wide 0 2
        baseBins := (List.range 16).map (fun k => wide (2 + 3 * k) 3)
        baseDamage := wide 50 4 })) ∧
    (ws.length = 4 → Closing p 13 32 ws u →
      exec (.recordWrite dt p) s = .next (closed.setMs { u.ms with deferArg := wide 0 4 })))

/-! ### Resets (R182, R183, R184, R196, R197) -/

/-- R183, R196: an active port-reset input abandons the port's transaction, returns its result record and reporting state to their reset values and
keeps its role, cursor and gap count; while it is active no transaction begins, and its release changes nothing else. No other port and no block
changes.
R182, R184, R197: part reset samples the straps, makes OBSERVER of every port that straps another port's role, sets ROLE_CONFLICT in every copy
when it finds one, and leaves the journal holding the PART_RESET entry alone with the number of ports it made OBSERVER. Every job is DISABLED, no
publish is in flight, every port is IDLE, and the blocks have the reset values of R18, R24, R41, R42, R60, R61, R83, R84, R97, R98, R101, R102,
R120, R136, R142, R146, R150, R153, R154 and R169; items to which the spec gives none have the model's (log entries 7, 36, 39 and 43 to 45). (The line
levels and the port-reset inputs, which are inputs, and the queue stand: log entry 8.) -/
def Obligations.ResetsOfAPortAndOfThePart : Prop :=
  (∀ (dt : Nat) (p : PortId) (s : State),
      let u := s.advance dt
      let x := u.pi.get p
      let r := u.rep.get p
      (∃ t, exec (.portReset dt p) s = .next t ∧ OnlyTouches [.pi, .rep] u t ∧
        t.pi = u.pi.set p { x with
          held := true, phase := .idle, words := [], header := none, answer := none, filler := 0, snapshot := [], denied := false,
          buffer := [], command := none, result := ⟨0, 0, 0, .none, .none⟩ } ∧
        t.rep = u.rep.set p { r with
          advisory := 0, degraded := 0, protective := 0, latch := false, enAdvisory := false, enDegraded := false,
          enProtective := true, mask := 0 } ∧
        t.attentionLine p = false) ∧
      exec (.portResetRelease dt p) s = .next (u.setPort p { x with held := false }) ∧
      (x.held = true → exec (.transactionStart dt p) s = .next u)) ∧
  (∀ (a b c : Role) (s : State),
      let role := fun (own x y : Role) => if own = x ∨ own = y then Role.observer else own
      let n := (if a ≠ .observer ∧ (a = b ∨ a = c) then 1 else 0) + (if b ≠ .observer ∧ (b = a ∨ b = c) then 1 else 0)
        + (if c ≠ .observer ∧ (c = a ∨ c = b) then 1 else 0)
      let shaft : ShaftConfig := ⟨1024, .x4, 8, 0, false, false, 5, 0⟩
      let off : ShaftSide := {
        state := .off, position := 0, referenced := false, timed := false, counter := 0, lastPeriod := 0, speed := 0,
        speedValid := true, consecutive := 0, total := 0, dropped := 0, standstill := none }
      let engine : Engine := {
        collecting := false, frame := ⟨0, 0, 0, 0, 0, [], 0, 0, 0, 0xFFFFFFFF, 0, 0⟩, seq := 0, last := .none, pMean := 0,
        lastMinP := 0, lastMaxP := 0, vFrame := 0, lastReuse := 0 }
      let line : LineDef := {
        enabled := false, source := .hs, channel := 0, kq := 16, alertOn := 65535, alertOff := 65535, dangerOn := 65535,
        dangerOff := 65535, alpha := 3, kp := 3, alertCap := 100, dangerCap := 100, item := none, floor := 65535 }
      let grid : GridConfig := {
        h := List.replicate 15 0, limitV := List.replicate 15 65535, limitI := List.replicate 15 65535, thdLimitV := 65535,
        thdLimitI := 65535, fundFloorV := 1, fundFloorI := 1, kg := 3, gridCap := 100 }
      let ghm : Ghm := {
        config := grid, edgeRef := none, loss := none, measured := 0, held := 800000, valid := 0, lock := .unlocked, ignored := 0,
        gen := none, outstanding := none, samples := List.replicate 6 0, droppedFrames := 0, window := none, windowSeq := 0,
        outcome := .none, degraded := false, cause := .none, lastSlots := List.replicate 16 0, lastMissing := 0,
        chan := List.replicate 6 ⟨List.replicate 16 0, List.replicate 16 false, 0, false⟩, pWin := 800000, fWin := 800,
        block := ⟨0, 0, none, List.replicate 6 (List.replicate 16 0)⟩, blockSeq := 0, blockOutcome := .none,
        blockChan := List.replicate 6 ⟨List.replicate 16 0, 0, false⟩, thdMarks := List.replicate 6 false,
        exceeded := List.replicate 16 false, exceeding := false, exceedCount := 0, clearCount := 0, strobes := 0 }
      let watch : Cw := {
        config := { m := List.replicate 8 0, slot := List.replicate 8 0, floor := List.replicate 8 65535, tol := 16, coincCap := 100 },
        mech := List.replicate 24 none, elec := none, count := 0, cause := .none, visLines := [], visEntries := [],
        entryFreq := List.replicate 8 0, entryHigh := List.replicate 8 0, liveLines := [], liveEntries := [],
        latchedLines := [], latchedEntries := [], firstPair := none }
      let icing : Icd := {
        op := { sequence := 0, turbine := .stopped, wind := 0, power := 0, torque := 0, temp := 0, humidity := 0 },
        fresh := .none, age := 0,
        config := { tIce := 20, tHyst := 20, hIce := 85, tThaw := 50, dSuspect := 150, dIce := 300, ns := 6, ni := 12, iIce := 150,
                    line := none, thawTime := 120, cutIn := 30, rated := 120, suspectCap := 100 },
        curve := List.replicate 32 0, state := .off, suspect := 0, ice := 0, clear := 0, thaw := none, base := 0, second := 0,
        arrivals := 0, sumWind := 0, sumPower := 0, sumTemp := 0, sumHum := 0, lastState := .stopped, lastSeq := 0, number := 0,
        last := ⟨.none, .none, 0, 0, 0, 0, none, none, 0⟩ }
      let board : Lb := {
        slots := List.replicate 28 ⟨false, 100, .none, 0, true⟩, cap := 100, gov := none, gen := 0, aGen := 0, aCap := 100,
        timer := none, line := false, tAck := 10, lastOutcome := .none, lastTime := 0, lastUnset := true }
      let calendar : Cc := {
        phase := 0, isSet := false, time := 0, limit := false, armed := none, ppsRef := none, ppsAccepted := 0, ppsIgnored := 0,
        ppsOffset := 0, config := ⟨8000, 1280, List.replicate 16 0⟩, seconds := 0, bins := List.replicate 16 0, damage := 0,
        restored := false, staging := ⟨2000, 1, 1, 0, 0, 0⟩, baseSeconds := 0, baseBins := List.replicate 16 0, baseDamage := 0 }
      let item : ItemDef := {
        present := false, code := 0, kind := .date, interval := 1, firstDue := 0, grace := 0, maxDefer := 0, leadAlert := 0,
        leadDanger := 0, cap := 100, lock := false }
      ∃ t, exec (.partReset a b c) s = .next t ∧
        t.pi.p0.role = role a b c ∧ t.pi.p1.role = role b a c ∧ t.pi.p2.role = role c a b ∧
        t.pi.p0.strapped = a ∧ t.pi.p1.strapped = b ∧ t.pi.p2.strapped = c ∧
        (∀ p, (t.pi.get p).phase = .idle ∧ (t.pi.get p).buffer = [] ∧ (t.pi.get p).command = none ∧
          (t.pi.get p).result = ⟨0, 0, 0, .none, .none⟩ ∧ (t.pi.get p).held = (s.pi.get p).held) ∧
        (∀ p f, (t.rep.get p).hasFlag f = true ↔ f = .roleConflict ∧ 0 < n) ∧
        (∀ p, (t.rep.get p).cursor = 1 ∧ (t.rep.get p).gap = 0 ∧ (t.rep.get p).latch = false ∧ (t.rep.get p).mask = 0 ∧
          (t.rep.get p).enAdvisory = false ∧ (t.rep.get p).enDegraded = false ∧ (t.rep.get p).enProtective = true) ∧
        t.ej = ⟨[⟨1, 0, true, .ej, none, .partReset, none, none, (n : Int)⟩], 2⟩ ∧
        t.jobs = ⟨false, false, false, false, false, false⟩ ∧ t.pub.flights = [] ∧
        t.ocr = {
          link := { up := false, latest := none, timer := none, good := 0, dropped := 0, newHs := false, newLs := false },
          config := { rHs := 16, rLs := 2, vMinHs := 8000, vMaxHs := 32000, vMinLs := 1280, vMaxLs := 5120, tol := 20 },
          hs := engine, ls := engine, results := List.replicate 24 ⟨.none, 0, false, 0, 0, .hs, 0⟩ } ∧
        t.gcm = ⟨List.replicate 24 line, List.replicate 24 ⟨.unrated, 0, 0, 0, 0, false, 0⟩, 0, 0⟩ ∧
        t.ghm = ghm ∧ t.cw = watch ∧ t.icd = icing ∧ t.lb = board ∧ t.cc = calendar ∧
        t.ms = ⟨List.replicate 32 ⟨item, item, false, none⟩, 0, ⟨false, 0, false, 0, 0⟩, none⟩ ∧
        t.sau.hs = off ∧ t.sau.ls = off ∧ t.sau.config = shaft ∧ t.sau.active = shaft ∧ t.sau.lastAngle = none ∧
        t.sau.ratio = 0 ∧ t.sau.testedR = 0 ∧ t.sau.mismatch = false ∧
        (∀ l, (t.sau.line l).last = none) ∧ t.now = 0 ∧
        t.sau.reverse = false ∧ t.sau.armed = false ∧ t.pending = s.pending)

/-! ### Invariants that every step keeps -/

/-- Every invariant below holds right after reset. -/
def Obligations.ResetMeetsEveryInvariant : Prop :=
  BoardOk State.reset ∧ StopSafe State.reset ∧ GearSlotsOk State.reset ∧ IcingSlotOk State.reset ∧ OtherSlotsOk State.reset ∧
  JournalOk State.reset ∧ WatchOk State.reset ∧ OrderedOk State.reset ∧ CountersOk State.reset ∧ RolesOk State.reset ∧
  SweepOk State.reset ∧ ScheduleOk State.reset ∧ FramesOk State.reset

/-- R122, R124, R127, R128: from every state whose board shows the least active cap, its governing slot and a timer that belongs to them, with caps in
range, a step leaves such a board.
R121, R123, R124, R127, R128, R135: the postings and withdrawals of one event of one block, at most one for a slot, are one change of the board. A
posting sets its slot active with cap, code and time, a withdrawal clears an active one and keeps its cap, every other slot stands; the board then
shows the least cap and its slot again. Where cap or governing slot change the generation goes to its next value, wrapping at 65535 and one further
where that would equal A_gen, with a BOARD entry; else neither moves. A cap at or above A_cap stops the timer; a lowering below A_cap starts a
STOPPED one at T_ack; A_gen, A_cap, line and the last expiry stand. -/
def Obligations.BoardShowsTheLeastCap : Prop :=
  (∀ s t : State, BoardOk s → step s = .next t → BoardOk t) ∧
  (∀ (cs : List SlotChange) (s : State),
    let t := boardChange cs s
    let stamp := fun (x : Slot) => x.time = s.cc.time ∧ x.unset = !s.cc.isSet
    let moves := t.lb.cap ≠ s.lb.cap ∨ t.lb.gov ≠ s.lb.gov
    let next := (s.lb.gen + 1) % 65536
    BoardOk s → (cs.map (·.slot)).Nodup → (∀ c ∈ cs, c.slot < 28) → (∀ c ∈ cs, ∀ n k, c.act = .post n k → n ≤ 100) →
    BoardOk t ∧ OnlyTouches [.lb, .ej, .rep, .pub] s t ∧
    (∀ c ∈ cs, ∀ n k, c.act = .post n k → Posted (tget t.lb.slots c.slot) n k ∧ stamp (tget t.lb.slots c.slot)) ∧
    (∀ c ∈ cs, c.act = .withdraw →
      let x := tget s.lb.slots c.slot
      (x.active = false → tget t.lb.slots c.slot = x) ∧
      (x.active = true → tget t.lb.slots c.slot = ⟨false, x.cap, .none, s.cc.time, !s.cc.isSet⟩)) ∧
    (∀ k, (∀ c ∈ cs, c.slot ≠ k) → tget t.lb.slots k = tget s.lb.slots k) ∧
    (¬moves → t.lb.gen = s.lb.gen ∧ t.ej = s.ej) ∧
    (moves → t.lb.gen = (if next = s.lb.aGen then (next + 1) % 65536 else next) ∧
      t.ej = (s.journal { source := .lb, inst := t.lb.gov, kind := .board, fromState := some s.lb.cap,
                          toState := some t.lb.cap, value := (t.lb.gen : Int) }).ej) ∧
    t.lb.timer = (if s.lb.aCap ≤ t.lb.cap then none
      else match s.lb.timer with
        | some n => some n
        | none => if t.lb.cap < s.lb.cap then some s.lb.tAck else none) ∧
    t.lb.aGen = s.lb.aGen ∧ t.lb.aCap = s.lb.aCap ∧ t.lb.line = s.lb.line ∧ t.lb.tAck = s.lb.tAck ∧
    t.lb.lastOutcome = s.lb.lastOutcome ∧ t.lb.lastTime = s.lb.lastTime ∧ t.lb.lastUnset = s.lb.lastUnset)

/-- R123, R129, R130, R131: no step brings the hard-stop line to be asserted with the cap above 0 and the current generation acknowledged. An asserted
hard-stop line falls only at a part reset, or at an ACK CAP of the current generation from the TURBINE port that finds
the effective cap above 0. (What a board change does to the generation and the timer is stated with BoardShowsTheLeastCap.) -/
def Obligations.StopLineIsSafe : Prop :=
  (∀ s t : State, StopSafe s → step s = .next t → StopSafe t) ∧
  (∀ (c : Instr) (s t : State), s.lb.line = true → exec c s = .next t → t.lb.line = false →
      (∃ a b d, c = .partReset a b d) ∨
      (∃ dt p arg, c = .ackCap dt p arg ∧ (s.pi.get p).role = .turbine ∧ arg.toNat = s.lb.gen ∧ 0 < s.lb.cap))

/-- R51, R59: slot GL(n) stands posted with the cap and code of line n's level exactly while that level is ALERT or DANGER; every step keeps this,
from a state whose frames name each line at most once (R26), as ConfigurationsStayOrdered says that every step leaves them. -/
def Obligations.GearSlotsFollowTheLevels : Prop :=
  ∀ s t : State, GearSlotsOk s → FramesOk s → step s = .next t → GearSlotsOk t

/-- R112: slot ICING is active with cap 0 in ICED and THAW, with the suspect cap in SUSPECT, and inactive otherwise; every step keeps this. -/
def Obligations.IcingSlotFollowsTheState : Prop :=
  ∀ s t : State, IcingSlotOk s → step s = .next t → IcingSlotOk t

/-- R79, R92, R161: slots GRID, COINC and MAINT stand as the conformance, the live sets and the OVERDUE items say; every step keeps this. -/
def Obligations.OtherSlotsFollowTheirPosters : Prop :=
  ∀ s t : State, OtherSlotsOk s → step s = .next t → OtherSlotsOk t

/-- R170, R172, R174: the journal keeps at most 256 entries with consecutive sequence numbers, the newest one below the next sequence number, and
every cursor between the oldest retained and one past the newest; every step keeps this. -/
def Obligations.JournalStaysConsecutive : Prop :=
  ∀ s t : State, JournalOk s → step s = .next t → JournalOk t

/-- R90, R91, R94 to R96: every line and entry of a live set is in the latched set of its kind; every step keeps this.
R85 to R92: an EVALUATED completion fills the mechanical entries of its evaluable lines, a VALID block the snapshot, and the enabled watch then
evaluates: the count and the cause, visible lines and entries, live pairs, latched sets, the first pair, the latch of every port with the COINC entry,
and slot COINC. A disabled watch takes the table alone. What the entry records show of the highest aggregates, 0 without a snapshot, is the model's
choice, log entry 43. -/
def Obligations.LiveSetsAreLatched : Prop :=
  (∀ s t : State, WatchOk s → step s = .next t → WatchOk t) ∧
  (∀ (sd : Side) (v : Nat) (ls : List ListedLine) (s : State),
    let t := coincTakeFrame sd v ls s
    s.cw.mech.length = 24 → (∀ l ∈ ls, l.line < 24) → ls.Pairwise (fun a b => a.line < b.line) →
    OnlyTouches [.cw, .lb, .ej, .rep, .pub] s t ∧ t.cw.elec = s.cw.elec ∧ t.cw.config = s.cw.config ∧
    (∀ l ∈ ls, ∀ code ovr, l.code = some (code, ovr) →
      ∃ fm, tget t.cw.mech l.line = some ⟨sd, l.kq, code, ovr, v, fm⟩ ∧
        ∀ k, k = l.kq * v / (match sd with | .hs => 960 | .ls => 15360) → k ≤ 4294967295 → fm = k) ∧
    (∀ k, (∀ l ∈ ls, l.code ≠ none → l.line ≠ k) → tget t.cw.mech k = tget s.cw.mech k) ∧
    (s.jobs.coinc = true → Evaluated (match sd with | .hs => .gearHs | .ls => .gearLs) s t) ∧
    (s.jobs.coinc = false → TakenOnly s t)) ∧
  (∀ (slots : List Nat) (s : State),
    let t := coincTakeBlock slots s
    OnlyTouches [.cw, .lb, .ej, .rep, .pub] s t ∧ t.cw.mech = s.cw.mech ∧ t.cw.config = s.cw.config ∧
    t.cw.elec = some ⟨s.ghm.blockSeq, slots, [(tget s.ghm.blockChan 3).aggs, (tget s.ghm.blockChan 4).aggs,
      (tget s.ghm.blockChan 5).aggs], s.ghm.fWin⟩ ∧
    (s.jobs.coinc = true → Evaluated .grid s t) ∧ (s.jobs.coinc = false → TakenOnly s t))

/-- R43, R24, R101: the thresholds of every line, the speed bands and the orders of the icing configuration stand ordered; every step keeps this.
R26, R41: the tables of lines keep their 24 entries, the lines of a frame stand in line order, and a WAITING engine has every in-frame item at 0 and
min P at FFFFFFFFh (at every end of a frame as after reset: log entry 15); every step keeps this. -/
def Obligations.ConfigurationsStayOrdered : Prop :=
  (∀ s t : State, OrderedOk s → step s = .next t → OrderedOk t) ∧
  (∀ s t : State, FramesOk s → step s = .next t → FramesOk t)

/-- R149: no operating counter decreases except at part reset, and each stays within its width. -/
def Obligations.CountersNeverDecrease : Prop :=
  ∀ (c : Instr) (s t : State), CountersOk s → exec c s = .next t →
    CountersOk t ∧ ((∀ a b d, c ≠ .partReset a b d) →
      s.cc.seconds ≤ t.cc.seconds ∧ s.cc.damage ≤ t.cc.damage ∧ ∀ b, b < 16 → tget s.cc.bins b ≤ tget t.cc.bins b)

/-- R175, R176, R183: a flag set in a port's copy stays set through every command but a write of that port to group 15, a reset of that port, and part
reset. -/
def Obligations.FlagsStayUntilTheirPortClearsThem : Prop :=
  ∀ (c : Instr) (p : PortId) (f : Flag) (s t : State), (s.rep.get p).hasFlag f = true → ¬ClearsFlags c p s →
    exec c s = .next t → (t.rep.get p).hasFlag f = true

/-- R184: part reset samples the straps, makes OBSERVER of every port whose strapped role, other than OBSERVER, another port straps too, and with such a
conflict sets ROLE_CONFLICT in every copy; its journal entry has the number of ports made OBSERVER. Then each port has its strapped role or
OBSERVER and no two ports share another role; every step keeps this, and no command but part reset moves a role. -/
def Obligations.RolesAreFixedAndExclusive : Prop :=
  (∀ (a b c : Role) (s t : State), exec (.partReset a b c) s = .next t →
    let shared := fun (own x y : Role) => own ≠ Role.observer ∧ (own = x ∨ own = y)
    let n := (if shared a b c then 1 else 0) + (if shared b a c then 1 else 0) + (if shared c a b then 1 else 0)
    t.pi.p0.strapped = a ∧ t.pi.p1.strapped = b ∧ t.pi.p2.strapped = c ∧
    t.pi.p0.role = (if shared a b c then .observer else a) ∧ t.pi.p1.role = (if shared b a c then .observer else b) ∧
    t.pi.p2.role = (if shared c a b then .observer else c) ∧
    (FlagInEveryCopy .roleConflict t ↔ 0 < n) ∧
    (∃ e ∈ t.ej.ring, e.kind = .partReset ∧ e.value = (n : Int)) ∧ RolesOk t) ∧
  (∀ s t : State, RolesOk s → step s = .next t → RolesOk t) ∧
  (∀ (c : Instr) (s t : State), (∀ a b d, c ≠ .partReset a b d) → exec c s = .next t →
    ∀ p, (t.pi.get p).role = (s.pi.get p).role ∧ (t.pi.get p).strapped = (s.pi.get p).strapped)

/-- R185, R187, R188: the sweep of a transaction in range stands on a word that exists in the group it started in; every step keeps this. -/
def Obligations.SweepStaysInItsGroup : Prop :=
  ∀ s t : State, SweepOk s → step s = .next t → SweepOk t

/-- R157, R158: while the schedule is enabled, no PENDING item of a valid source stands at or past its due; every step keeps this.
R159, R158, R154: what a pull-forward signal does to a present item. A PENDING item of a valid source takes value + lead of the level as its due,
limited to 64 bits, where that is earlier, is pulled by the line, and becomes DUE at once where the new due is reached; a DEFERRED one becomes OVERDUE
at DANGER; every other item stands. A change makes a PULL entry, then an ITEM entry for a change of state. That the PULL entry's to-state is DUE
where the item becomes DUE at once is the model's reading, log entry 27. -/
def Obligations.PendingItemsAreNotYetDue : Prop :=
  (∀ s t : State, ScheduleOk s → step s = .next t → ScheduleOk t) ∧
  (∀ (smp : Sample) (n : Nat) (g : Pull) (x : Item),
    let d := x.inForce
    let v := smp.value d.kind
    let due := min 18446744073709551615 (v + (if g.level = .danger then d.leadDanger else d.leadAlert))
    let pull := fun (a b : ItemState) =>
      ({ source := .ms, inst := some n, kind := .pull, fromState := some a.code, toState := some b.code, value := g.line } : EntryBody)
    let item := fun (a b : ItemState) =>
      ({ source := .ms, inst := some n, kind := .item, fromState := some a.code, toState := some b.code, value := d.code } : EntryBody)
    (x.part = none → x.pull smp n g = (x, [])) ∧
    (∀ y, x.part = some y →
      (y.state = .pending → (smp.valid d.kind = false ∨ y.due ≤ due) → x.pull smp n g = (x, [])) ∧
      (y.state = .pending → smp.valid d.kind = true → due < y.due →
        x.pull smp n g =
          (if due ≤ v then ({ x with part := some { y with due := due, pulledBy := some g.line, state := .due } },
            [pull .pending .due, item .pending .due])
          else ({ x with part := some { y with due := due, pulledBy := some g.line } }, [pull .pending .pending]))) ∧
      (y.state = .due ∨ y.state = .overdue ∨ (y.state = .deferred ∧ g.level ≠ .danger) → x.pull smp n g = (x, [])) ∧
      (y.state = .deferred → g.level = .danger →
        x.pull smp n g = ({ x with part := some { y with state := .overdue, deferUntil := none, pulledBy := some g.line } },
          [pull .deferred .overdue, item .deferred .overdue]))))

/-- 00_scope.md, Arithmetic: isqrt is the floor of the exact square root. -/
def Obligations.IsqrtIsTheFloorOfTheRoot : Prop :=
  ∀ n : Nat, isqrt n * isqrt n ≤ n ∧ n < (isqrt n + 1) * (isqrt n + 1)

end Statements
end

