-- ==== Sys2Proof/Laws/State.lean ====
section
/-! SUPPORT. One lemma for each field of `State` and each component update, true by `rfl`, so that no proof unfolds a record update;
then the same for the three ports, for the clock and for the sides. -/

namespace Sys2Proof.Machine


/-! ### `setJobs` -/

@[simp] theorem State.setJobs_now (s : State) (x : Jobs) : (s.setJobs x).now = s.now := rfl
@[simp] theorem State.setJobs_jobs (s : State) (x : Jobs) : (s.setJobs x).jobs = x := rfl
@[simp] theorem State.setJobs_sau (s : State) (x : Jobs) : (s.setJobs x).sau = s.sau := rfl
@[simp] theorem State.setJobs_ocr (s : State) (x : Jobs) : (s.setJobs x).ocr = s.ocr := rfl
@[simp] theorem State.setJobs_gcm (s : State) (x : Jobs) : (s.setJobs x).gcm = s.gcm := rfl
@[simp] theorem State.setJobs_ghm (s : State) (x : Jobs) : (s.setJobs x).ghm = s.ghm := rfl
@[simp] theorem State.setJobs_cw (s : State) (x : Jobs) : (s.setJobs x).cw = s.cw := rfl
@[simp] theorem State.setJobs_icd (s : State) (x : Jobs) : (s.setJobs x).icd = s.icd := rfl
@[simp] theorem State.setJobs_lb (s : State) (x : Jobs) : (s.setJobs x).lb = s.lb := rfl
@[simp] theorem State.setJobs_cc (s : State) (x : Jobs) : (s.setJobs x).cc = s.cc := rfl
@[simp] theorem State.setJobs_ms (s : State) (x : Jobs) : (s.setJobs x).ms = s.ms := rfl
@[simp] theorem State.setJobs_ej (s : State) (x : Jobs) : (s.setJobs x).ej = s.ej := rfl
@[simp] theorem State.setJobs_rep (s : State) (x : Jobs) : (s.setJobs x).rep = s.rep := rfl
@[simp] theorem State.setJobs_pi (s : State) (x : Jobs) : (s.setJobs x).pi = s.pi := rfl
@[simp] theorem State.setJobs_pub (s : State) (x : Jobs) : (s.setJobs x).pub = s.pub := rfl
@[simp] theorem State.setJobs_pending (s : State) (x : Jobs) : (s.setJobs x).pending = s.pending := rfl

/-! ### `setSau` -/

@[simp] theorem State.setSau_now (s : State) (x : Sau) : (s.setSau x).now = s.now := rfl
@[simp] theorem State.setSau_jobs (s : State) (x : Sau) : (s.setSau x).jobs = s.jobs := rfl
@[simp] theorem State.setSau_sau (s : State) (x : Sau) : (s.setSau x).sau = x := rfl
@[simp] theorem State.setSau_ocr (s : State) (x : Sau) : (s.setSau x).ocr = s.ocr := rfl
@[simp] theorem State.setSau_gcm (s : State) (x : Sau) : (s.setSau x).gcm = s.gcm := rfl
@[simp] theorem State.setSau_ghm (s : State) (x : Sau) : (s.setSau x).ghm = s.ghm := rfl
@[simp] theorem State.setSau_cw (s : State) (x : Sau) : (s.setSau x).cw = s.cw := rfl
@[simp] theorem State.setSau_icd (s : State) (x : Sau) : (s.setSau x).icd = s.icd := rfl
@[simp] theorem State.setSau_lb (s : State) (x : Sau) : (s.setSau x).lb = s.lb := rfl
@[simp] theorem State.setSau_cc (s : State) (x : Sau) : (s.setSau x).cc = s.cc := rfl
@[simp] theorem State.setSau_ms (s : State) (x : Sau) : (s.setSau x).ms = s.ms := rfl
@[simp] theorem State.setSau_ej (s : State) (x : Sau) : (s.setSau x).ej = s.ej := rfl
@[simp] theorem State.setSau_rep (s : State) (x : Sau) : (s.setSau x).rep = s.rep := rfl
@[simp] theorem State.setSau_pi (s : State) (x : Sau) : (s.setSau x).pi = s.pi := rfl
@[simp] theorem State.setSau_pub (s : State) (x : Sau) : (s.setSau x).pub = s.pub := rfl
@[simp] theorem State.setSau_pending (s : State) (x : Sau) : (s.setSau x).pending = s.pending := rfl

/-! ### `setOcr` -/

@[simp] theorem State.setOcr_now (s : State) (x : Ocr) : (s.setOcr x).now = s.now := rfl
@[simp] theorem State.setOcr_jobs (s : State) (x : Ocr) : (s.setOcr x).jobs = s.jobs := rfl
@[simp] theorem State.setOcr_sau (s : State) (x : Ocr) : (s.setOcr x).sau = s.sau := rfl
@[simp] theorem State.setOcr_ocr (s : State) (x : Ocr) : (s.setOcr x).ocr = x := rfl
@[simp] theorem State.setOcr_gcm (s : State) (x : Ocr) : (s.setOcr x).gcm = s.gcm := rfl
@[simp] theorem State.setOcr_ghm (s : State) (x : Ocr) : (s.setOcr x).ghm = s.ghm := rfl
@[simp] theorem State.setOcr_cw (s : State) (x : Ocr) : (s.setOcr x).cw = s.cw := rfl
@[simp] theorem State.setOcr_icd (s : State) (x : Ocr) : (s.setOcr x).icd = s.icd := rfl
@[simp] theorem State.setOcr_lb (s : State) (x : Ocr) : (s.setOcr x).lb = s.lb := rfl
@[simp] theorem State.setOcr_cc (s : State) (x : Ocr) : (s.setOcr x).cc = s.cc := rfl
@[simp] theorem State.setOcr_ms (s : State) (x : Ocr) : (s.setOcr x).ms = s.ms := rfl
@[simp] theorem State.setOcr_ej (s : State) (x : Ocr) : (s.setOcr x).ej = s.ej := rfl
@[simp] theorem State.setOcr_rep (s : State) (x : Ocr) : (s.setOcr x).rep = s.rep := rfl
@[simp] theorem State.setOcr_pi (s : State) (x : Ocr) : (s.setOcr x).pi = s.pi := rfl
@[simp] theorem State.setOcr_pub (s : State) (x : Ocr) : (s.setOcr x).pub = s.pub := rfl
@[simp] theorem State.setOcr_pending (s : State) (x : Ocr) : (s.setOcr x).pending = s.pending := rfl

/-! ### `setGcm` -/

@[simp] theorem State.setGcm_now (s : State) (x : Gcm) : (s.setGcm x).now = s.now := rfl
@[simp] theorem State.setGcm_jobs (s : State) (x : Gcm) : (s.setGcm x).jobs = s.jobs := rfl
@[simp] theorem State.setGcm_sau (s : State) (x : Gcm) : (s.setGcm x).sau = s.sau := rfl
@[simp] theorem State.setGcm_ocr (s : State) (x : Gcm) : (s.setGcm x).ocr = s.ocr := rfl
@[simp] theorem State.setGcm_gcm (s : State) (x : Gcm) : (s.setGcm x).gcm = x := rfl
@[simp] theorem State.setGcm_ghm (s : State) (x : Gcm) : (s.setGcm x).ghm = s.ghm := rfl
@[simp] theorem State.setGcm_cw (s : State) (x : Gcm) : (s.setGcm x).cw = s.cw := rfl
@[simp] theorem State.setGcm_icd (s : State) (x : Gcm) : (s.setGcm x).icd = s.icd := rfl
@[simp] theorem State.setGcm_lb (s : State) (x : Gcm) : (s.setGcm x).lb = s.lb := rfl
@[simp] theorem State.setGcm_cc (s : State) (x : Gcm) : (s.setGcm x).cc = s.cc := rfl
@[simp] theorem State.setGcm_ms (s : State) (x : Gcm) : (s.setGcm x).ms = s.ms := rfl
@[simp] theorem State.setGcm_ej (s : State) (x : Gcm) : (s.setGcm x).ej = s.ej := rfl
@[simp] theorem State.setGcm_rep (s : State) (x : Gcm) : (s.setGcm x).rep = s.rep := rfl
@[simp] theorem State.setGcm_pi (s : State) (x : Gcm) : (s.setGcm x).pi = s.pi := rfl
@[simp] theorem State.setGcm_pub (s : State) (x : Gcm) : (s.setGcm x).pub = s.pub := rfl
@[simp] theorem State.setGcm_pending (s : State) (x : Gcm) : (s.setGcm x).pending = s.pending := rfl

/-! ### `setGhm` -/

@[simp] theorem State.setGhm_now (s : State) (x : Ghm) : (s.setGhm x).now = s.now := rfl
@[simp] theorem State.setGhm_jobs (s : State) (x : Ghm) : (s.setGhm x).jobs = s.jobs := rfl
@[simp] theorem State.setGhm_sau (s : State) (x : Ghm) : (s.setGhm x).sau = s.sau := rfl
@[simp] theorem State.setGhm_ocr (s : State) (x : Ghm) : (s.setGhm x).ocr = s.ocr := rfl
@[simp] theorem State.setGhm_gcm (s : State) (x : Ghm) : (s.setGhm x).gcm = s.gcm := rfl
@[simp] theorem State.setGhm_ghm (s : State) (x : Ghm) : (s.setGhm x).ghm = x := rfl
@[simp] theorem State.setGhm_cw (s : State) (x : Ghm) : (s.setGhm x).cw = s.cw := rfl
@[simp] theorem State.setGhm_icd (s : State) (x : Ghm) : (s.setGhm x).icd = s.icd := rfl
@[simp] theorem State.setGhm_lb (s : State) (x : Ghm) : (s.setGhm x).lb = s.lb := rfl
@[simp] theorem State.setGhm_cc (s : State) (x : Ghm) : (s.setGhm x).cc = s.cc := rfl
@[simp] theorem State.setGhm_ms (s : State) (x : Ghm) : (s.setGhm x).ms = s.ms := rfl
@[simp] theorem State.setGhm_ej (s : State) (x : Ghm) : (s.setGhm x).ej = s.ej := rfl
@[simp] theorem State.setGhm_rep (s : State) (x : Ghm) : (s.setGhm x).rep = s.rep := rfl
@[simp] theorem State.setGhm_pi (s : State) (x : Ghm) : (s.setGhm x).pi = s.pi := rfl
@[simp] theorem State.setGhm_pub (s : State) (x : Ghm) : (s.setGhm x).pub = s.pub := rfl
@[simp] theorem State.setGhm_pending (s : State) (x : Ghm) : (s.setGhm x).pending = s.pending := rfl

/-! ### `setCw` -/

@[simp] theorem State.setCw_now (s : State) (x : Cw) : (s.setCw x).now = s.now := rfl
@[simp] theorem State.setCw_jobs (s : State) (x : Cw) : (s.setCw x).jobs = s.jobs := rfl
@[simp] theorem State.setCw_sau (s : State) (x : Cw) : (s.setCw x).sau = s.sau := rfl
@[simp] theorem State.setCw_ocr (s : State) (x : Cw) : (s.setCw x).ocr = s.ocr := rfl
@[simp] theorem State.setCw_gcm (s : State) (x : Cw) : (s.setCw x).gcm = s.gcm := rfl
@[simp] theorem State.setCw_ghm (s : State) (x : Cw) : (s.setCw x).ghm = s.ghm := rfl
@[simp] theorem State.setCw_cw (s : State) (x : Cw) : (s.setCw x).cw = x := rfl
@[simp] theorem State.setCw_icd (s : State) (x : Cw) : (s.setCw x).icd = s.icd := rfl
@[simp] theorem State.setCw_lb (s : State) (x : Cw) : (s.setCw x).lb = s.lb := rfl
@[simp] theorem State.setCw_cc (s : State) (x : Cw) : (s.setCw x).cc = s.cc := rfl
@[simp] theorem State.setCw_ms (s : State) (x : Cw) : (s.setCw x).ms = s.ms := rfl
@[simp] theorem State.setCw_ej (s : State) (x : Cw) : (s.setCw x).ej = s.ej := rfl
@[simp] theorem State.setCw_rep (s : State) (x : Cw) : (s.setCw x).rep = s.rep := rfl
@[simp] theorem State.setCw_pi (s : State) (x : Cw) : (s.setCw x).pi = s.pi := rfl
@[simp] theorem State.setCw_pub (s : State) (x : Cw) : (s.setCw x).pub = s.pub := rfl
@[simp] theorem State.setCw_pending (s : State) (x : Cw) : (s.setCw x).pending = s.pending := rfl

/-! ### `setIcd` -/

@[simp] theorem State.setIcd_now (s : State) (x : Icd) : (s.setIcd x).now = s.now := rfl
@[simp] theorem State.setIcd_jobs (s : State) (x : Icd) : (s.setIcd x).jobs = s.jobs := rfl
@[simp] theorem State.setIcd_sau (s : State) (x : Icd) : (s.setIcd x).sau = s.sau := rfl
@[simp] theorem State.setIcd_ocr (s : State) (x : Icd) : (s.setIcd x).ocr = s.ocr := rfl
@[simp] theorem State.setIcd_gcm (s : State) (x : Icd) : (s.setIcd x).gcm = s.gcm := rfl
@[simp] theorem State.setIcd_ghm (s : State) (x : Icd) : (s.setIcd x).ghm = s.ghm := rfl
@[simp] theorem State.setIcd_cw (s : State) (x : Icd) : (s.setIcd x).cw = s.cw := rfl
@[simp] theorem State.setIcd_icd (s : State) (x : Icd) : (s.setIcd x).icd = x := rfl
@[simp] theorem State.setIcd_lb (s : State) (x : Icd) : (s.setIcd x).lb = s.lb := rfl
@[simp] theorem State.setIcd_cc (s : State) (x : Icd) : (s.setIcd x).cc = s.cc := rfl
@[simp] theorem State.setIcd_ms (s : State) (x : Icd) : (s.setIcd x).ms = s.ms := rfl
@[simp] theorem State.setIcd_ej (s : State) (x : Icd) : (s.setIcd x).ej = s.ej := rfl
@[simp] theorem State.setIcd_rep (s : State) (x : Icd) : (s.setIcd x).rep = s.rep := rfl
@[simp] theorem State.setIcd_pi (s : State) (x : Icd) : (s.setIcd x).pi = s.pi := rfl
@[simp] theorem State.setIcd_pub (s : State) (x : Icd) : (s.setIcd x).pub = s.pub := rfl
@[simp] theorem State.setIcd_pending (s : State) (x : Icd) : (s.setIcd x).pending = s.pending := rfl

/-! ### `setLb` -/

@[simp] theorem State.setLb_now (s : State) (x : Lb) : (s.setLb x).now = s.now := rfl
@[simp] theorem State.setLb_jobs (s : State) (x : Lb) : (s.setLb x).jobs = s.jobs := rfl
@[simp] theorem State.setLb_sau (s : State) (x : Lb) : (s.setLb x).sau = s.sau := rfl
@[simp] theorem State.setLb_ocr (s : State) (x : Lb) : (s.setLb x).ocr = s.ocr := rfl
@[simp] theorem State.setLb_gcm (s : State) (x : Lb) : (s.setLb x).gcm = s.gcm := rfl
@[simp] theorem State.setLb_ghm (s : State) (x : Lb) : (s.setLb x).ghm = s.ghm := rfl
@[simp] theorem State.setLb_cw (s : State) (x : Lb) : (s.setLb x).cw = s.cw := rfl
@[simp] theorem State.setLb_icd (s : State) (x : Lb) : (s.setLb x).icd = s.icd := rfl
@[simp] theorem State.setLb_lb (s : State) (x : Lb) : (s.setLb x).lb = x := rfl
@[simp] theorem State.setLb_cc (s : State) (x : Lb) : (s.setLb x).cc = s.cc := rfl
@[simp] theorem State.setLb_ms (s : State) (x : Lb) : (s.setLb x).ms = s.ms := rfl
@[simp] theorem State.setLb_ej (s : State) (x : Lb) : (s.setLb x).ej = s.ej := rfl
@[simp] theorem State.setLb_rep (s : State) (x : Lb) : (s.setLb x).rep = s.rep := rfl
@[simp] theorem State.setLb_pi (s : State) (x : Lb) : (s.setLb x).pi = s.pi := rfl
@[simp] theorem State.setLb_pub (s : State) (x : Lb) : (s.setLb x).pub = s.pub := rfl
@[simp] theorem State.setLb_pending (s : State) (x : Lb) : (s.setLb x).pending = s.pending := rfl

/-! ### `setCc` -/

@[simp] theorem State.setCc_now (s : State) (x : Cc) : (s.setCc x).now = s.now := rfl
@[simp] theorem State.setCc_jobs (s : State) (x : Cc) : (s.setCc x).jobs = s.jobs := rfl
@[simp] theorem State.setCc_sau (s : State) (x : Cc) : (s.setCc x).sau = s.sau := rfl
@[simp] theorem State.setCc_ocr (s : State) (x : Cc) : (s.setCc x).ocr = s.ocr := rfl
@[simp] theorem State.setCc_gcm (s : State) (x : Cc) : (s.setCc x).gcm = s.gcm := rfl
@[simp] theorem State.setCc_ghm (s : State) (x : Cc) : (s.setCc x).ghm = s.ghm := rfl
@[simp] theorem State.setCc_cw (s : State) (x : Cc) : (s.setCc x).cw = s.cw := rfl
@[simp] theorem State.setCc_icd (s : State) (x : Cc) : (s.setCc x).icd = s.icd := rfl
@[simp] theorem State.setCc_lb (s : State) (x : Cc) : (s.setCc x).lb = s.lb := rfl
@[simp] theorem State.setCc_cc (s : State) (x : Cc) : (s.setCc x).cc = x := rfl
@[simp] theorem State.setCc_ms (s : State) (x : Cc) : (s.setCc x).ms = s.ms := rfl
@[simp] theorem State.setCc_ej (s : State) (x : Cc) : (s.setCc x).ej = s.ej := rfl
@[simp] theorem State.setCc_rep (s : State) (x : Cc) : (s.setCc x).rep = s.rep := rfl
@[simp] theorem State.setCc_pi (s : State) (x : Cc) : (s.setCc x).pi = s.pi := rfl
@[simp] theorem State.setCc_pub (s : State) (x : Cc) : (s.setCc x).pub = s.pub := rfl
@[simp] theorem State.setCc_pending (s : State) (x : Cc) : (s.setCc x).pending = s.pending := rfl

/-! ### `setMs` -/

@[simp] theorem State.setMs_now (s : State) (x : Ms) : (s.setMs x).now = s.now := rfl
@[simp] theorem State.setMs_jobs (s : State) (x : Ms) : (s.setMs x).jobs = s.jobs := rfl
@[simp] theorem State.setMs_sau (s : State) (x : Ms) : (s.setMs x).sau = s.sau := rfl
@[simp] theorem State.setMs_ocr (s : State) (x : Ms) : (s.setMs x).ocr = s.ocr := rfl
@[simp] theorem State.setMs_gcm (s : State) (x : Ms) : (s.setMs x).gcm = s.gcm := rfl
@[simp] theorem State.setMs_ghm (s : State) (x : Ms) : (s.setMs x).ghm = s.ghm := rfl
@[simp] theorem State.setMs_cw (s : State) (x : Ms) : (s.setMs x).cw = s.cw := rfl
@[simp] theorem State.setMs_icd (s : State) (x : Ms) : (s.setMs x).icd = s.icd := rfl
@[simp] theorem State.setMs_lb (s : State) (x : Ms) : (s.setMs x).lb = s.lb := rfl
@[simp] theorem State.setMs_cc (s : State) (x : Ms) : (s.setMs x).cc = s.cc := rfl
@[simp] theorem State.setMs_ms (s : State) (x : Ms) : (s.setMs x).ms = x := rfl
@[simp] theorem State.setMs_ej (s : State) (x : Ms) : (s.setMs x).ej = s.ej := rfl
@[simp] theorem State.setMs_rep (s : State) (x : Ms) : (s.setMs x).rep = s.rep := rfl
@[simp] theorem State.setMs_pi (s : State) (x : Ms) : (s.setMs x).pi = s.pi := rfl
@[simp] theorem State.setMs_pub (s : State) (x : Ms) : (s.setMs x).pub = s.pub := rfl
@[simp] theorem State.setMs_pending (s : State) (x : Ms) : (s.setMs x).pending = s.pending := rfl

/-! ### `setEj` -/

@[simp] theorem State.setEj_now (s : State) (x : Ej) : (s.setEj x).now = s.now := rfl
@[simp] theorem State.setEj_jobs (s : State) (x : Ej) : (s.setEj x).jobs = s.jobs := rfl
@[simp] theorem State.setEj_sau (s : State) (x : Ej) : (s.setEj x).sau = s.sau := rfl
@[simp] theorem State.setEj_ocr (s : State) (x : Ej) : (s.setEj x).ocr = s.ocr := rfl
@[simp] theorem State.setEj_gcm (s : State) (x : Ej) : (s.setEj x).gcm = s.gcm := rfl
@[simp] theorem State.setEj_ghm (s : State) (x : Ej) : (s.setEj x).ghm = s.ghm := rfl
@[simp] theorem State.setEj_cw (s : State) (x : Ej) : (s.setEj x).cw = s.cw := rfl
@[simp] theorem State.setEj_icd (s : State) (x : Ej) : (s.setEj x).icd = s.icd := rfl
@[simp] theorem State.setEj_lb (s : State) (x : Ej) : (s.setEj x).lb = s.lb := rfl
@[simp] theorem State.setEj_cc (s : State) (x : Ej) : (s.setEj x).cc = s.cc := rfl
@[simp] theorem State.setEj_ms (s : State) (x : Ej) : (s.setEj x).ms = s.ms := rfl
@[simp] theorem State.setEj_ej (s : State) (x : Ej) : (s.setEj x).ej = x := rfl
@[simp] theorem State.setEj_rep (s : State) (x : Ej) : (s.setEj x).rep = s.rep := rfl
@[simp] theorem State.setEj_pi (s : State) (x : Ej) : (s.setEj x).pi = s.pi := rfl
@[simp] theorem State.setEj_pub (s : State) (x : Ej) : (s.setEj x).pub = s.pub := rfl
@[simp] theorem State.setEj_pending (s : State) (x : Ej) : (s.setEj x).pending = s.pending := rfl

/-! ### `setRep` -/

@[simp] theorem State.setRep_now (s : State) (x : Trio RepPort) : (s.setRep x).now = s.now := rfl
@[simp] theorem State.setRep_jobs (s : State) (x : Trio RepPort) : (s.setRep x).jobs = s.jobs := rfl
@[simp] theorem State.setRep_sau (s : State) (x : Trio RepPort) : (s.setRep x).sau = s.sau := rfl
@[simp] theorem State.setRep_ocr (s : State) (x : Trio RepPort) : (s.setRep x).ocr = s.ocr := rfl
@[simp] theorem State.setRep_gcm (s : State) (x : Trio RepPort) : (s.setRep x).gcm = s.gcm := rfl
@[simp] theorem State.setRep_ghm (s : State) (x : Trio RepPort) : (s.setRep x).ghm = s.ghm := rfl
@[simp] theorem State.setRep_cw (s : State) (x : Trio RepPort) : (s.setRep x).cw = s.cw := rfl
@[simp] theorem State.setRep_icd (s : State) (x : Trio RepPort) : (s.setRep x).icd = s.icd := rfl
@[simp] theorem State.setRep_lb (s : State) (x : Trio RepPort) : (s.setRep x).lb = s.lb := rfl
@[simp] theorem State.setRep_cc (s : State) (x : Trio RepPort) : (s.setRep x).cc = s.cc := rfl
@[simp] theorem State.setRep_ms (s : State) (x : Trio RepPort) : (s.setRep x).ms = s.ms := rfl
@[simp] theorem State.setRep_ej (s : State) (x : Trio RepPort) : (s.setRep x).ej = s.ej := rfl
@[simp] theorem State.setRep_rep (s : State) (x : Trio RepPort) : (s.setRep x).rep = x := rfl
@[simp] theorem State.setRep_pi (s : State) (x : Trio RepPort) : (s.setRep x).pi = s.pi := rfl
@[simp] theorem State.setRep_pub (s : State) (x : Trio RepPort) : (s.setRep x).pub = s.pub := rfl
@[simp] theorem State.setRep_pending (s : State) (x : Trio RepPort) : (s.setRep x).pending = s.pending := rfl

/-! ### `setPi` -/

@[simp] theorem State.setPi_now (s : State) (x : Trio PiPort) : (s.setPi x).now = s.now := rfl
@[simp] theorem State.setPi_jobs (s : State) (x : Trio PiPort) : (s.setPi x).jobs = s.jobs := rfl
@[simp] theorem State.setPi_sau (s : State) (x : Trio PiPort) : (s.setPi x).sau = s.sau := rfl
@[simp] theorem State.setPi_ocr (s : State) (x : Trio PiPort) : (s.setPi x).ocr = s.ocr := rfl
@[simp] theorem State.setPi_gcm (s : State) (x : Trio PiPort) : (s.setPi x).gcm = s.gcm := rfl
@[simp] theorem State.setPi_ghm (s : State) (x : Trio PiPort) : (s.setPi x).ghm = s.ghm := rfl
@[simp] theorem State.setPi_cw (s : State) (x : Trio PiPort) : (s.setPi x).cw = s.cw := rfl
@[simp] theorem State.setPi_icd (s : State) (x : Trio PiPort) : (s.setPi x).icd = s.icd := rfl
@[simp] theorem State.setPi_lb (s : State) (x : Trio PiPort) : (s.setPi x).lb = s.lb := rfl
@[simp] theorem State.setPi_cc (s : State) (x : Trio PiPort) : (s.setPi x).cc = s.cc := rfl
@[simp] theorem State.setPi_ms (s : State) (x : Trio PiPort) : (s.setPi x).ms = s.ms := rfl
@[simp] theorem State.setPi_ej (s : State) (x : Trio PiPort) : (s.setPi x).ej = s.ej := rfl
@[simp] theorem State.setPi_rep (s : State) (x : Trio PiPort) : (s.setPi x).rep = s.rep := rfl
@[simp] theorem State.setPi_pi (s : State) (x : Trio PiPort) : (s.setPi x).pi = x := rfl
@[simp] theorem State.setPi_pub (s : State) (x : Trio PiPort) : (s.setPi x).pub = s.pub := rfl
@[simp] theorem State.setPi_pending (s : State) (x : Trio PiPort) : (s.setPi x).pending = s.pending := rfl

/-! ### `setPub` -/

@[simp] theorem State.setPub_now (s : State) (x : Pub) : (s.setPub x).now = s.now := rfl
@[simp] theorem State.setPub_jobs (s : State) (x : Pub) : (s.setPub x).jobs = s.jobs := rfl
@[simp] theorem State.setPub_sau (s : State) (x : Pub) : (s.setPub x).sau = s.sau := rfl
@[simp] theorem State.setPub_ocr (s : State) (x : Pub) : (s.setPub x).ocr = s.ocr := rfl
@[simp] theorem State.setPub_gcm (s : State) (x : Pub) : (s.setPub x).gcm = s.gcm := rfl
@[simp] theorem State.setPub_ghm (s : State) (x : Pub) : (s.setPub x).ghm = s.ghm := rfl
@[simp] theorem State.setPub_cw (s : State) (x : Pub) : (s.setPub x).cw = s.cw := rfl
@[simp] theorem State.setPub_icd (s : State) (x : Pub) : (s.setPub x).icd = s.icd := rfl
@[simp] theorem State.setPub_lb (s : State) (x : Pub) : (s.setPub x).lb = s.lb := rfl
@[simp] theorem State.setPub_cc (s : State) (x : Pub) : (s.setPub x).cc = s.cc := rfl
@[simp] theorem State.setPub_ms (s : State) (x : Pub) : (s.setPub x).ms = s.ms := rfl
@[simp] theorem State.setPub_ej (s : State) (x : Pub) : (s.setPub x).ej = s.ej := rfl
@[simp] theorem State.setPub_rep (s : State) (x : Pub) : (s.setPub x).rep = s.rep := rfl
@[simp] theorem State.setPub_pi (s : State) (x : Pub) : (s.setPub x).pi = s.pi := rfl
@[simp] theorem State.setPub_pub (s : State) (x : Pub) : (s.setPub x).pub = x := rfl
@[simp] theorem State.setPub_pending (s : State) (x : Pub) : (s.setPub x).pending = s.pending := rfl

/-! ### Ports -/

@[simp] theorem Trio.get_set_self {α : Type} (t : Trio α) (p : PortId) (x : α) : (t.set p x).get p = x := by cases p <;> rfl

@[simp] theorem Trio.get_set_ne {α : Type} (t : Trio α) {p q : PortId} (h : p ≠ q) (x : α) : (t.set p x).get q = t.get q := by
  cases p <;> cases q <;> first | rfl | exact absurd rfl h

@[simp] theorem Trio.set_set {α : Type} (t : Trio α) (p : PortId) (x y : α) : (t.set p x).set p y = t.set p y := by
  cases p <;> rfl

@[simp] theorem Trio.set_get {α : Type} (t : Trio α) (p : PortId) : t.set p (t.get p) = t := by cases p <;> rfl

@[simp] theorem Trio.get_map {α : Type} (t : Trio α) (f : α → α) (p : PortId) : (t.map f).get p = f (t.get p) := by
  cases p <;> rfl

/-- Two trios are equal when they agree at every port. -/
theorem Trio.ext_get {α : Type} {t u : Trio α} (h : ∀ p, t.get p = u.get p) : t = u := by
  cases t; cases u
  have h0 := h .p0
  have h1 := h .p1
  have h2 := h .p2
  simp only [Trio.get] at h0 h1 h2
  subst h0 h1 h2
  rfl

@[simp] theorem State.setPort_now (s : State) (p : PortId) (x : PiPort) : (s.setPort p x).now = s.now := rfl
@[simp] theorem State.setPort_jobs (s : State) (p : PortId) (x : PiPort) : (s.setPort p x).jobs = s.jobs := rfl
@[simp] theorem State.setPort_sau (s : State) (p : PortId) (x : PiPort) : (s.setPort p x).sau = s.sau := rfl
@[simp] theorem State.setPort_ocr (s : State) (p : PortId) (x : PiPort) : (s.setPort p x).ocr = s.ocr := rfl
@[simp] theorem State.setPort_gcm (s : State) (p : PortId) (x : PiPort) : (s.setPort p x).gcm = s.gcm := rfl
@[simp] theorem State.setPort_ghm (s : State) (p : PortId) (x : PiPort) : (s.setPort p x).ghm = s.ghm := rfl
@[simp] theorem State.setPort_cw (s : State) (p : PortId) (x : PiPort) : (s.setPort p x).cw = s.cw := rfl
@[simp] theorem State.setPort_icd (s : State) (p : PortId) (x : PiPort) : (s.setPort p x).icd = s.icd := rfl
@[simp] theorem State.setPort_lb (s : State) (p : PortId) (x : PiPort) : (s.setPort p x).lb = s.lb := rfl
@[simp] theorem State.setPort_cc (s : State) (p : PortId) (x : PiPort) : (s.setPort p x).cc = s.cc := rfl
@[simp] theorem State.setPort_ms (s : State) (p : PortId) (x : PiPort) : (s.setPort p x).ms = s.ms := rfl
@[simp] theorem State.setPort_ej (s : State) (p : PortId) (x : PiPort) : (s.setPort p x).ej = s.ej := rfl
@[simp] theorem State.setPort_rep (s : State) (p : PortId) (x : PiPort) : (s.setPort p x).rep = s.rep := rfl
@[simp] theorem State.setPort_pi (s : State) (p : PortId) (x : PiPort) : (s.setPort p x).pi = s.pi.set p x := rfl
@[simp] theorem State.setPort_pub (s : State) (p : PortId) (x : PiPort) : (s.setPort p x).pub = s.pub := rfl
@[simp] theorem State.setPort_pending (s : State) (p : PortId) (x : PiPort) : (s.setPort p x).pending = s.pending := rfl
@[simp] theorem State.setRepPort_now (s : State) (p : PortId) (x : RepPort) : (s.setRepPort p x).now = s.now := rfl
@[simp] theorem State.setRepPort_jobs (s : State) (p : PortId) (x : RepPort) : (s.setRepPort p x).jobs = s.jobs := rfl
@[simp] theorem State.setRepPort_sau (s : State) (p : PortId) (x : RepPort) : (s.setRepPort p x).sau = s.sau := rfl
@[simp] theorem State.setRepPort_ocr (s : State) (p : PortId) (x : RepPort) : (s.setRepPort p x).ocr = s.ocr := rfl
@[simp] theorem State.setRepPort_gcm (s : State) (p : PortId) (x : RepPort) : (s.setRepPort p x).gcm = s.gcm := rfl
@[simp] theorem State.setRepPort_ghm (s : State) (p : PortId) (x : RepPort) : (s.setRepPort p x).ghm = s.ghm := rfl
@[simp] theorem State.setRepPort_cw (s : State) (p : PortId) (x : RepPort) : (s.setRepPort p x).cw = s.cw := rfl
@[simp] theorem State.setRepPort_icd (s : State) (p : PortId) (x : RepPort) : (s.setRepPort p x).icd = s.icd := rfl
@[simp] theorem State.setRepPort_lb (s : State) (p : PortId) (x : RepPort) : (s.setRepPort p x).lb = s.lb := rfl
@[simp] theorem State.setRepPort_cc (s : State) (p : PortId) (x : RepPort) : (s.setRepPort p x).cc = s.cc := rfl
@[simp] theorem State.setRepPort_ms (s : State) (p : PortId) (x : RepPort) : (s.setRepPort p x).ms = s.ms := rfl
@[simp] theorem State.setRepPort_ej (s : State) (p : PortId) (x : RepPort) : (s.setRepPort p x).ej = s.ej := rfl
@[simp] theorem State.setRepPort_rep (s : State) (p : PortId) (x : RepPort) : (s.setRepPort p x).rep = s.rep.set p x := rfl
@[simp] theorem State.setRepPort_pi (s : State) (p : PortId) (x : RepPort) : (s.setRepPort p x).pi = s.pi := rfl
@[simp] theorem State.setRepPort_pub (s : State) (p : PortId) (x : RepPort) : (s.setRepPort p x).pub = s.pub := rfl
@[simp] theorem State.setRepPort_pending (s : State) (p : PortId) (x : RepPort) : (s.setRepPort p x).pending = s.pending := rfl

/-! ### The clock -/

@[simp] theorem State.advance_now (s : State) (dt : Nat) : (s.advance dt).now = s.now + dt := rfl
@[simp] theorem State.advance_jobs (s : State) (dt : Nat) : (s.advance dt).jobs = s.jobs := rfl
@[simp] theorem State.advance_sau (s : State) (dt : Nat) : (s.advance dt).sau = { s.sau with hs := s.sau.hs.elapse dt, ls := s.sau.ls.elapse dt } := rfl
@[simp] theorem State.advance_ocr (s : State) (dt : Nat) : (s.advance dt).ocr = s.ocr := rfl
@[simp] theorem State.advance_gcm (s : State) (dt : Nat) : (s.advance dt).gcm = s.gcm := rfl
@[simp] theorem State.advance_ghm (s : State) (dt : Nat) : (s.advance dt).ghm = s.ghm := rfl
@[simp] theorem State.advance_cw (s : State) (dt : Nat) : (s.advance dt).cw = s.cw := rfl
@[simp] theorem State.advance_icd (s : State) (dt : Nat) : (s.advance dt).icd = s.icd := rfl
@[simp] theorem State.advance_lb (s : State) (dt : Nat) : (s.advance dt).lb = s.lb := rfl
@[simp] theorem State.advance_cc (s : State) (dt : Nat) : (s.advance dt).cc = { s.cc with phase := s.cc.phase + dt } := rfl
@[simp] theorem State.advance_ms (s : State) (dt : Nat) : (s.advance dt).ms = s.ms := rfl
@[simp] theorem State.advance_ej (s : State) (dt : Nat) : (s.advance dt).ej = s.ej := rfl
@[simp] theorem State.advance_rep (s : State) (dt : Nat) : (s.advance dt).rep = s.rep := rfl
@[simp] theorem State.advance_pi (s : State) (dt : Nat) : (s.advance dt).pi = s.pi := rfl
@[simp] theorem State.advance_pub (s : State) (dt : Nat) : (s.advance dt).pub = s.pub := rfl
@[simp] theorem State.advance_pending (s : State) (dt : Nat) : (s.advance dt).pending = s.pending := rfl
@[simp] theorem State.advanceTo_jobs (s : State) (d : Nat) : (s.advanceTo d).jobs = s.jobs := rfl
@[simp] theorem State.advanceTo_ocr (s : State) (d : Nat) : (s.advanceTo d).ocr = s.ocr := rfl
@[simp] theorem State.advanceTo_gcm (s : State) (d : Nat) : (s.advanceTo d).gcm = s.gcm := rfl
@[simp] theorem State.advanceTo_ghm (s : State) (d : Nat) : (s.advanceTo d).ghm = s.ghm := rfl
@[simp] theorem State.advanceTo_cw (s : State) (d : Nat) : (s.advanceTo d).cw = s.cw := rfl
@[simp] theorem State.advanceTo_icd (s : State) (d : Nat) : (s.advanceTo d).icd = s.icd := rfl
@[simp] theorem State.advanceTo_lb (s : State) (d : Nat) : (s.advanceTo d).lb = s.lb := rfl
@[simp] theorem State.advanceTo_ms (s : State) (d : Nat) : (s.advanceTo d).ms = s.ms := rfl
@[simp] theorem State.advanceTo_ej (s : State) (d : Nat) : (s.advanceTo d).ej = s.ej := rfl
@[simp] theorem State.advanceTo_rep (s : State) (d : Nat) : (s.advanceTo d).rep = s.rep := rfl
@[simp] theorem State.advanceTo_pi (s : State) (d : Nat) : (s.advanceTo d).pi = s.pi := rfl
@[simp] theorem State.advanceTo_pub (s : State) (d : Nat) : (s.advanceTo d).pub = s.pub := rfl
@[simp] theorem State.advanceTo_pending (s : State) (d : Nat) : (s.advanceTo d).pending = s.pending := rfl

/-- A deadline not yet passed brings the clock to it. -/
theorem State.advanceTo_now {s : State} {d : Nat} (h : s.now ≤ d) : (s.advanceTo d).now = d := by
  simp only [State.advanceTo, State.advance_now]; omega

/-- The passing of ticks moves nothing of a side but its period counter (R8). -/
@[simp] theorem ShaftSide.elapse_frame (x : ShaftSide) (dt : Nat) :
    (x.elapse dt).state = x.state ∧ (x.elapse dt).position = x.position ∧ (x.elapse dt).referenced = x.referenced
      ∧ (x.elapse dt).timed = x.timed ∧ (x.elapse dt).lastPeriod = x.lastPeriod ∧ (x.elapse dt).speed = x.speed
      ∧ (x.elapse dt).speedValid = x.speedValid ∧ (x.elapse dt).consecutive = x.consecutive ∧ (x.elapse dt).total = x.total
      ∧ (x.elapse dt).dropped = x.dropped ∧ (x.elapse dt).standstill = x.standstill := by
  unfold ShaftSide.elapse; split <;> simp

@[simp] theorem ShaftSide.elapse_counter (x : ShaftSide) (dt : Nat) :
    (x.elapse dt).counter = if x.timed then satAdd max32 x.counter dt else x.counter := by
  unfold ShaftSide.elapse; split <;> rfl

/-! ### Sides and sources -/

@[simp] theorem Sau.side_setSide_self (x : Sau) (sd : Side) (y : ShaftSide) : (x.setSide sd y).side sd = y := by cases sd <;> rfl

@[simp] theorem Ocr.engine_setEngine_self (x : Ocr) (sd : Side) (e : Engine) : (x.setEngine sd e).engine sd = e := by
  cases sd <;> rfl

@[simp] theorem Ocr.setEngine_frame (x : Ocr) (sd : Side) (e : Engine) :
    (x.setEngine sd e).link = x.link ∧ (x.setEngine sd e).config = x.config ∧ (x.setEngine sd e).results = x.results := by
  cases sd <;> exact ⟨rfl, rfl, rfl⟩

@[simp] theorem Sau.setSide_frame (x : Sau) (sd : Side) (y : ShaftSide) :
    (x.setSide sd y).config = x.config ∧ (x.setSide sd y).active = x.active ∧ (x.setSide sd y).la = x.la
      ∧ (x.setSide sd y).lb = x.lb ∧ (x.setSide sd y).lz = x.lz ∧ (x.setSide sd y).lt = x.lt ∧ (x.setSide sd y).llsz = x.llsz
      ∧ (x.setSide sd y).reverse = x.reverse ∧ (x.setSide sd y).ratio = x.ratio ∧ (x.setSide sd y).armed = x.armed
      ∧ (x.setSide sd y).testedR = x.testedR ∧ (x.setSide sd y).mismatch = x.mismatch
      ∧ (x.setSide sd y).lastAngle = x.lastAngle := by
  cases sd <;> simp [Sau.setSide]

end Sys2Proof.Machine
end

