-- ==== Sys2Proof/Laws/Frame.lean ====
section
/-! SUPPORT. The frame of every shared operation: one lemma each, naming every component of the state that the operation leaves as it
was. No later proof unfolds an operation to learn what it does not touch. -/

namespace Sys2Proof.Machine

/-! ### Reporting (chapter 10) -/

@[simp] theorem State.raise_frame (s : State) (f : Flag) :
    (s.raise f).now = s.now ∧ (s.raise f).jobs = s.jobs ∧ (s.raise f).sau = s.sau ∧ (s.raise f).ocr = s.ocr
      ∧ (s.raise f).gcm = s.gcm ∧ (s.raise f).ghm = s.ghm ∧ (s.raise f).cw = s.cw ∧ (s.raise f).icd = s.icd
      ∧ (s.raise f).lb = s.lb ∧ (s.raise f).cc = s.cc ∧ (s.raise f).ms = s.ms ∧ (s.raise f).ej = s.ej
      ∧ (s.raise f).pi = s.pi ∧ (s.raise f).pub = s.pub ∧ (s.raise f).pending = s.pending := by
  simp [State.raise]

@[simp] theorem State.raiseIf_frame (s : State) (b : Bool) (f : Flag) :
    (s.raiseIf b f).now = s.now ∧ (s.raiseIf b f).jobs = s.jobs ∧ (s.raiseIf b f).sau = s.sau
      ∧ (s.raiseIf b f).ocr = s.ocr ∧ (s.raiseIf b f).gcm = s.gcm ∧ (s.raiseIf b f).ghm = s.ghm
      ∧ (s.raiseIf b f).cw = s.cw ∧ (s.raiseIf b f).icd = s.icd ∧ (s.raiseIf b f).lb = s.lb ∧ (s.raiseIf b f).cc = s.cc
      ∧ (s.raiseIf b f).ms = s.ms ∧ (s.raiseIf b f).ej = s.ej ∧ (s.raiseIf b f).pi = s.pi ∧ (s.raiseIf b f).pub = s.pub
      ∧ (s.raiseIf b f).pending = s.pending := by
  unfold State.raiseIf; split <;> simp

@[simp] theorem State.appendStamped_frame (s : State) (t : Nat) (u : Bool) (b : EntryBody) :
    (s.appendStamped t u b).now = s.now ∧ (s.appendStamped t u b).jobs = s.jobs ∧ (s.appendStamped t u b).sau = s.sau
      ∧ (s.appendStamped t u b).ocr = s.ocr ∧ (s.appendStamped t u b).gcm = s.gcm ∧ (s.appendStamped t u b).ghm = s.ghm
      ∧ (s.appendStamped t u b).cw = s.cw ∧ (s.appendStamped t u b).icd = s.icd ∧ (s.appendStamped t u b).lb = s.lb
      ∧ (s.appendStamped t u b).cc = s.cc ∧ (s.appendStamped t u b).ms = s.ms ∧ (s.appendStamped t u b).pi = s.pi
      ∧ (s.appendStamped t u b).pub = s.pub ∧ (s.appendStamped t u b).pending = s.pending := by
  unfold State.appendStamped; dsimp only; split <;> simp

@[simp] theorem State.journal_frame (s : State) (b : EntryBody) :
    (s.journal b).now = s.now ∧ (s.journal b).jobs = s.jobs ∧ (s.journal b).sau = s.sau ∧ (s.journal b).ocr = s.ocr
      ∧ (s.journal b).gcm = s.gcm ∧ (s.journal b).ghm = s.ghm ∧ (s.journal b).cw = s.cw ∧ (s.journal b).icd = s.icd
      ∧ (s.journal b).lb = s.lb ∧ (s.journal b).cc = s.cc ∧ (s.journal b).ms = s.ms ∧ (s.journal b).pi = s.pi
      ∧ (s.journal b).pub = s.pub ∧ (s.journal b).pending = s.pending := by
  simp [State.journal]

@[simp] theorem State.journalAll_frame (s : State) (bs : List EntryBody) :
    (s.journalAll bs).now = s.now ∧ (s.journalAll bs).jobs = s.jobs ∧ (s.journalAll bs).sau = s.sau
      ∧ (s.journalAll bs).ocr = s.ocr ∧ (s.journalAll bs).gcm = s.gcm ∧ (s.journalAll bs).ghm = s.ghm
      ∧ (s.journalAll bs).cw = s.cw ∧ (s.journalAll bs).icd = s.icd ∧ (s.journalAll bs).lb = s.lb
      ∧ (s.journalAll bs).cc = s.cc ∧ (s.journalAll bs).ms = s.ms ∧ (s.journalAll bs).pi = s.pi
      ∧ (s.journalAll bs).pub = s.pub ∧ (s.journalAll bs).pending = s.pending := by
  unfold State.journalAll
  induction bs generalizing s with
  | nil => simp
  | cons b bs ih => simpa using ih (s.journal b)

/-! ### Publishes -/

@[simp] theorem startPublish_frame (g : Nat) (recs : List Nat) (before after : State) :
    (startPublish g recs before after).now = after.now ∧ (startPublish g recs before after).jobs = after.jobs
      ∧ (startPublish g recs before after).sau = after.sau ∧ (startPublish g recs before after).ocr = after.ocr
      ∧ (startPublish g recs before after).gcm = after.gcm ∧ (startPublish g recs before after).ghm = after.ghm
      ∧ (startPublish g recs before after).cw = after.cw ∧ (startPublish g recs before after).icd = after.icd
      ∧ (startPublish g recs before after).lb = after.lb ∧ (startPublish g recs before after).cc = after.cc
      ∧ (startPublish g recs before after).ms = after.ms ∧ (startPublish g recs before after).ej = after.ej
      ∧ (startPublish g recs before after).rep = after.rep ∧ (startPublish g recs before after).pi = after.pi
      ∧ (startPublish g recs before after).pending = after.pending := by
  simp [startPublish]

@[simp] theorem publishing_frame (g : Nat) (recs : List Nat) (f : State → State) (s : State) :
    (publishing g recs f s).now = (f s).now ∧ (publishing g recs f s).jobs = (f s).jobs
      ∧ (publishing g recs f s).sau = (f s).sau ∧ (publishing g recs f s).ocr = (f s).ocr
      ∧ (publishing g recs f s).gcm = (f s).gcm ∧ (publishing g recs f s).ghm = (f s).ghm
      ∧ (publishing g recs f s).cw = (f s).cw ∧ (publishing g recs f s).icd = (f s).icd
      ∧ (publishing g recs f s).lb = (f s).lb ∧ (publishing g recs f s).cc = (f s).cc
      ∧ (publishing g recs f s).ms = (f s).ms ∧ (publishing g recs f s).ej = (f s).ej
      ∧ (publishing g recs f s).rep = (f s).rep ∧ (publishing g recs f s).pi = (f s).pi
      ∧ (publishing g recs f s).pending = (f s).pending := by
  simp [publishing]

@[simp] theorem completeOldest_frame (g : Nat) (s : State) :
    (completeOldest g s).now = s.now ∧ (completeOldest g s).jobs = s.jobs ∧ (completeOldest g s).sau = s.sau
      ∧ (completeOldest g s).ocr = s.ocr ∧ (completeOldest g s).gcm = s.gcm ∧ (completeOldest g s).ghm = s.ghm
      ∧ (completeOldest g s).cw = s.cw ∧ (completeOldest g s).icd = s.icd ∧ (completeOldest g s).lb = s.lb
      ∧ (completeOldest g s).cc = s.cc ∧ (completeOldest g s).ms = s.ms ∧ (completeOldest g s).ej = s.ej
      ∧ (completeOldest g s).rep = s.rep ∧ (completeOldest g s).pi = s.pi ∧ (completeOldest g s).pending = s.pending := by
  simp [completeOldest]

@[simp] theorem completeBefore_frame (g : Nat) (bound : Nat) (s : State) :
    (completeBefore g bound s).now = s.now ∧ (completeBefore g bound s).jobs = s.jobs
      ∧ (completeBefore g bound s).sau = s.sau ∧ (completeBefore g bound s).ocr = s.ocr
      ∧ (completeBefore g bound s).gcm = s.gcm ∧ (completeBefore g bound s).ghm = s.ghm
      ∧ (completeBefore g bound s).cw = s.cw ∧ (completeBefore g bound s).icd = s.icd
      ∧ (completeBefore g bound s).lb = s.lb ∧ (completeBefore g bound s).cc = s.cc
      ∧ (completeBefore g bound s).ms = s.ms ∧ (completeBefore g bound s).ej = s.ej
      ∧ (completeBefore g bound s).rep = s.rep ∧ (completeBefore g bound s).pi = s.pi
      ∧ (completeBefore g bound s).pending = s.pending := by
  simp [completeBefore]

/-! ### Limit Board -/

@[simp] theorem boardChange_frame (cs : List SlotChange) (s : State) :
    (boardChange cs s).now = s.now ∧ (boardChange cs s).jobs = s.jobs ∧ (boardChange cs s).sau = s.sau
      ∧ (boardChange cs s).ocr = s.ocr ∧ (boardChange cs s).gcm = s.gcm ∧ (boardChange cs s).ghm = s.ghm
      ∧ (boardChange cs s).cw = s.cw ∧ (boardChange cs s).icd = s.icd ∧ (boardChange cs s).cc = s.cc
      ∧ (boardChange cs s).ms = s.ms ∧ (boardChange cs s).pi = s.pi ∧ (boardChange cs s).pending = s.pending := by
  unfold boardChange; dsimp only; split <;> simp

@[simp] theorem ackExpire_frame (s : State) :
    (ackExpire s).now = s.now ∧ (ackExpire s).jobs = s.jobs ∧ (ackExpire s).sau = s.sau ∧ (ackExpire s).ocr = s.ocr
      ∧ (ackExpire s).gcm = s.gcm ∧ (ackExpire s).ghm = s.ghm ∧ (ackExpire s).cw = s.cw ∧ (ackExpire s).icd = s.icd
      ∧ (ackExpire s).cc = s.cc ∧ (ackExpire s).ms = s.ms ∧ (ackExpire s).pi = s.pi ∧ (ackExpire s).pending = s.pending := by
  simp [ackExpire]

@[simp] theorem boardTick_frame (s : State) :
    (boardTick s).now = s.now ∧ (boardTick s).jobs = s.jobs ∧ (boardTick s).sau = s.sau ∧ (boardTick s).ocr = s.ocr
      ∧ (boardTick s).gcm = s.gcm ∧ (boardTick s).ghm = s.ghm ∧ (boardTick s).cw = s.cw ∧ (boardTick s).icd = s.icd
      ∧ (boardTick s).cc = s.cc ∧ (boardTick s).ms = s.ms ∧ (boardTick s).pi = s.pi ∧ (boardTick s).pending = s.pending := by
  unfold boardTick; repeat' split
  all_goals simp

@[simp] theorem acknowledge_frame (g : Nat) (s : State) :
    (acknowledge g s).now = s.now ∧ (acknowledge g s).jobs = s.jobs ∧ (acknowledge g s).sau = s.sau
      ∧ (acknowledge g s).ocr = s.ocr ∧ (acknowledge g s).gcm = s.gcm ∧ (acknowledge g s).ghm = s.ghm
      ∧ (acknowledge g s).cw = s.cw ∧ (acknowledge g s).icd = s.icd ∧ (acknowledge g s).cc = s.cc
      ∧ (acknowledge g s).ms = s.ms ∧ (acknowledge g s).pi = s.pi ∧ (acknowledge g s).pending = s.pending := by
  unfold acknowledge; dsimp only; split <;> simp

/-! ### Maintenance Schedule -/

@[simp] theorem overItems_frame (f : Nat → Item → Item × List EntryBody) (s : State) :
    (overItems f s).now = s.now ∧ (overItems f s).jobs = s.jobs ∧ (overItems f s).sau = s.sau
      ∧ (overItems f s).ocr = s.ocr ∧ (overItems f s).gcm = s.gcm ∧ (overItems f s).ghm = s.ghm
      ∧ (overItems f s).cw = s.cw ∧ (overItems f s).icd = s.icd ∧ (overItems f s).lb = s.lb ∧ (overItems f s).cc = s.cc
      ∧ (overItems f s).pi = s.pi ∧ (overItems f s).pub = s.pub ∧ (overItems f s).pending = s.pending := by
  simp [overItems]

@[simp] theorem evaluateItems_frame (s : State) :
    (evaluateItems s).now = s.now ∧ (evaluateItems s).jobs = s.jobs ∧ (evaluateItems s).sau = s.sau
      ∧ (evaluateItems s).ocr = s.ocr ∧ (evaluateItems s).gcm = s.gcm ∧ (evaluateItems s).ghm = s.ghm
      ∧ (evaluateItems s).cw = s.cw ∧ (evaluateItems s).icd = s.icd ∧ (evaluateItems s).lb = s.lb
      ∧ (evaluateItems s).cc = s.cc ∧ (evaluateItems s).pi = s.pi ∧ (evaluateItems s).pub = s.pub
      ∧ (evaluateItems s).pending = s.pending := by
  unfold evaluateItems; repeat' split
  all_goals simp

@[simp] theorem takeSample_frame (s : State) :
    (takeSample s).now = s.now ∧ (takeSample s).jobs = s.jobs ∧ (takeSample s).sau = s.sau ∧ (takeSample s).ocr = s.ocr
      ∧ (takeSample s).gcm = s.gcm ∧ (takeSample s).ghm = s.ghm ∧ (takeSample s).cw = s.cw ∧ (takeSample s).icd = s.icd
      ∧ (takeSample s).lb = s.lb ∧ (takeSample s).cc = s.cc ∧ (takeSample s).ej = s.ej ∧ (takeSample s).rep = s.rep
      ∧ (takeSample s).pi = s.pi ∧ (takeSample s).pub = s.pub ∧ (takeSample s).pending = s.pending := by
  simp [takeSample]

@[simp] theorem recomputeMaint_frame (s : State) :
    (recomputeMaint s).now = s.now ∧ (recomputeMaint s).jobs = s.jobs ∧ (recomputeMaint s).sau = s.sau
      ∧ (recomputeMaint s).ocr = s.ocr ∧ (recomputeMaint s).gcm = s.gcm ∧ (recomputeMaint s).ghm = s.ghm
      ∧ (recomputeMaint s).cw = s.cw ∧ (recomputeMaint s).icd = s.icd ∧ (recomputeMaint s).cc = s.cc
      ∧ (recomputeMaint s).pi = s.pi ∧ (recomputeMaint s).pending = s.pending := by
  unfold recomputeMaint; repeat' split
  all_goals simp

@[simp] theorem scheduleEvent_frame (f : State → State) (s : State) :
    (scheduleEvent f s).now = (f s).now ∧ (scheduleEvent f s).jobs = (f s).jobs ∧ (scheduleEvent f s).sau = (f s).sau
      ∧ (scheduleEvent f s).ocr = (f s).ocr ∧ (scheduleEvent f s).gcm = (f s).gcm ∧ (scheduleEvent f s).ghm = (f s).ghm
      ∧ (scheduleEvent f s).cw = (f s).cw ∧ (scheduleEvent f s).icd = (f s).icd ∧ (scheduleEvent f s).cc = (f s).cc
      ∧ (scheduleEvent f s).pi = (f s).pi ∧ (scheduleEvent f s).pending = (f s).pending := by
  unfold scheduleEvent; dsimp only; split <;> simp

@[simp] theorem scheduleTick_frame (s : State) :
    (scheduleTick s).now = s.now ∧ (scheduleTick s).jobs = s.jobs ∧ (scheduleTick s).sau = s.sau
      ∧ (scheduleTick s).ocr = s.ocr ∧ (scheduleTick s).gcm = s.gcm ∧ (scheduleTick s).ghm = s.ghm
      ∧ (scheduleTick s).cw = s.cw ∧ (scheduleTick s).icd = s.icd ∧ (scheduleTick s).cc = s.cc
      ∧ (scheduleTick s).pi = s.pi ∧ (scheduleTick s).pending = s.pending := by
  simp [scheduleTick]

@[simp] theorem pullOne_frame (s : State) (g : Pull) :
    (pullOne s g).now = s.now ∧ (pullOne s g).jobs = s.jobs ∧ (pullOne s g).sau = s.sau ∧ (pullOne s g).ocr = s.ocr
      ∧ (pullOne s g).gcm = s.gcm ∧ (pullOne s g).ghm = s.ghm ∧ (pullOne s g).cw = s.cw ∧ (pullOne s g).icd = s.icd
      ∧ (pullOne s g).lb = s.lb ∧ (pullOne s g).cc = s.cc ∧ (pullOne s g).pi = s.pi ∧ (pullOne s g).pub = s.pub
      ∧ (pullOne s g).pending = s.pending := by
  simp [pullOne]

@[simp] theorem foldPulls_frame (gs : List Pull) (s : State) :
    (gs.foldl pullOne s).now = s.now ∧ (gs.foldl pullOne s).jobs = s.jobs ∧ (gs.foldl pullOne s).sau = s.sau
      ∧ (gs.foldl pullOne s).ocr = s.ocr ∧ (gs.foldl pullOne s).gcm = s.gcm ∧ (gs.foldl pullOne s).ghm = s.ghm
      ∧ (gs.foldl pullOne s).cw = s.cw ∧ (gs.foldl pullOne s).icd = s.icd ∧ (gs.foldl pullOne s).lb = s.lb
      ∧ (gs.foldl pullOne s).cc = s.cc ∧ (gs.foldl pullOne s).pi = s.pi ∧ (gs.foldl pullOne s).pub = s.pub
      ∧ (gs.foldl pullOne s).pending = s.pending := by
  induction gs generalizing s with
  | nil => simp
  | cons g gs ih => simpa using ih (pullOne s g)

@[simp] theorem takePulls_frame (gs : List Pull) (s : State) :
    (takePulls gs s).now = s.now ∧ (takePulls gs s).jobs = s.jobs ∧ (takePulls gs s).sau = s.sau
      ∧ (takePulls gs s).ocr = s.ocr ∧ (takePulls gs s).gcm = s.gcm ∧ (takePulls gs s).ghm = s.ghm
      ∧ (takePulls gs s).cw = s.cw ∧ (takePulls gs s).icd = s.icd ∧ (takePulls gs s).cc = s.cc
      ∧ (takePulls gs s).pi = s.pi ∧ (takePulls gs s).pending = s.pending := by
  unfold takePulls; repeat' split
  all_goals simp

/-! ### Coincidence Watch -/

@[simp] theorem setCoincLatches_frame (s : State) :
    (setCoincLatches s).now = s.now ∧ (setCoincLatches s).jobs = s.jobs ∧ (setCoincLatches s).sau = s.sau
      ∧ (setCoincLatches s).ocr = s.ocr ∧ (setCoincLatches s).gcm = s.gcm ∧ (setCoincLatches s).ghm = s.ghm
      ∧ (setCoincLatches s).cw = s.cw ∧ (setCoincLatches s).icd = s.icd ∧ (setCoincLatches s).lb = s.lb
      ∧ (setCoincLatches s).cc = s.cc ∧ (setCoincLatches s).ms = s.ms ∧ (setCoincLatches s).ej = s.ej
      ∧ (setCoincLatches s).pi = s.pi ∧ (setCoincLatches s).pub = s.pub ∧ (setCoincLatches s).pending = s.pending := by
  simp [setCoincLatches]

@[simp] theorem latchReport_frame (before : Cw) (s : State) :
    (latchReport before s).now = s.now ∧ (latchReport before s).jobs = s.jobs ∧ (latchReport before s).sau = s.sau
      ∧ (latchReport before s).ocr = s.ocr ∧ (latchReport before s).gcm = s.gcm ∧ (latchReport before s).ghm = s.ghm
      ∧ (latchReport before s).cw = s.cw ∧ (latchReport before s).icd = s.icd ∧ (latchReport before s).lb = s.lb
      ∧ (latchReport before s).cc = s.cc ∧ (latchReport before s).ms = s.ms ∧ (latchReport before s).pi = s.pi
      ∧ (latchReport before s).pub = s.pub ∧ (latchReport before s).pending = s.pending := by
  unfold latchReport; split <;> simp

@[simp] theorem coincEvent_frame (cause : EvalCause) (f : Cw → Cw) (s : State) :
    (coincEvent cause f s).now = s.now ∧ (coincEvent cause f s).jobs = s.jobs ∧ (coincEvent cause f s).sau = s.sau
      ∧ (coincEvent cause f s).ocr = s.ocr ∧ (coincEvent cause f s).gcm = s.gcm ∧ (coincEvent cause f s).ghm = s.ghm
      ∧ (coincEvent cause f s).icd = s.icd ∧ (coincEvent cause f s).cc = s.cc ∧ (coincEvent cause f s).ms = s.ms
      ∧ (coincEvent cause f s).pi = s.pi ∧ (coincEvent cause f s).pending = s.pending := by
  unfold coincEvent; dsimp only; split <;> simp

@[simp] theorem coincTakeFrame_frame (sd : Side) (v : Nat) (ls : List ListedLine) (s : State) :
    (coincTakeFrame sd v ls s).now = s.now ∧ (coincTakeFrame sd v ls s).jobs = s.jobs
      ∧ (coincTakeFrame sd v ls s).sau = s.sau ∧ (coincTakeFrame sd v ls s).ocr = s.ocr
      ∧ (coincTakeFrame sd v ls s).gcm = s.gcm ∧ (coincTakeFrame sd v ls s).ghm = s.ghm
      ∧ (coincTakeFrame sd v ls s).icd = s.icd ∧ (coincTakeFrame sd v ls s).cc = s.cc
      ∧ (coincTakeFrame sd v ls s).ms = s.ms ∧ (coincTakeFrame sd v ls s).pi = s.pi
      ∧ (coincTakeFrame sd v ls s).pending = s.pending := by
  simp [coincTakeFrame]

@[simp] theorem coincTakeBlock_frame (slots : List Nat) (s : State) :
    (coincTakeBlock slots s).now = s.now ∧ (coincTakeBlock slots s).jobs = s.jobs ∧ (coincTakeBlock slots s).sau = s.sau
      ∧ (coincTakeBlock slots s).ocr = s.ocr ∧ (coincTakeBlock slots s).gcm = s.gcm
      ∧ (coincTakeBlock slots s).ghm = s.ghm ∧ (coincTakeBlock slots s).icd = s.icd ∧ (coincTakeBlock slots s).cc = s.cc
      ∧ (coincTakeBlock slots s).ms = s.ms ∧ (coincTakeBlock slots s).pi = s.pi
      ∧ (coincTakeBlock slots s).pending = s.pending := by
  simp [coincTakeBlock]

@[simp] theorem coincForgetLines_frame (s : State) :
    (coincForgetLines s).now = s.now ∧ (coincForgetLines s).jobs = s.jobs ∧ (coincForgetLines s).sau = s.sau
      ∧ (coincForgetLines s).ocr = s.ocr ∧ (coincForgetLines s).gcm = s.gcm ∧ (coincForgetLines s).ghm = s.ghm
      ∧ (coincForgetLines s).icd = s.icd ∧ (coincForgetLines s).lb = s.lb ∧ (coincForgetLines s).cc = s.cc
      ∧ (coincForgetLines s).ms = s.ms ∧ (coincForgetLines s).ej = s.ej ∧ (coincForgetLines s).rep = s.rep
      ∧ (coincForgetLines s).pi = s.pi ∧ (coincForgetLines s).pending = s.pending := by
  simp [coincForgetLines]

@[simp] theorem coincForgetGrid_frame (s : State) :
    (coincForgetGrid s).now = s.now ∧ (coincForgetGrid s).jobs = s.jobs ∧ (coincForgetGrid s).sau = s.sau
      ∧ (coincForgetGrid s).ocr = s.ocr ∧ (coincForgetGrid s).gcm = s.gcm ∧ (coincForgetGrid s).ghm = s.ghm
      ∧ (coincForgetGrid s).icd = s.icd ∧ (coincForgetGrid s).lb = s.lb ∧ (coincForgetGrid s).cc = s.cc
      ∧ (coincForgetGrid s).ms = s.ms ∧ (coincForgetGrid s).ej = s.ej ∧ (coincForgetGrid s).rep = s.rep
      ∧ (coincForgetGrid s).pi = s.pi ∧ (coincForgetGrid s).pending = s.pending := by
  simp [coincForgetGrid]

/-! ### Gear Condition Monitor -/

@[simp] theorem gcmEvaluated_frame (sd : Side) (seq : Nat) (ls : List ListedLine) (s : State) :
    (gcmEvaluated sd seq ls s).now = s.now ∧ (gcmEvaluated sd seq ls s).jobs = s.jobs
      ∧ (gcmEvaluated sd seq ls s).sau = s.sau ∧ (gcmEvaluated sd seq ls s).ocr = s.ocr
      ∧ (gcmEvaluated sd seq ls s).ghm = s.ghm ∧ (gcmEvaluated sd seq ls s).cw = s.cw
      ∧ (gcmEvaluated sd seq ls s).icd = s.icd ∧ (gcmEvaluated sd seq ls s).lb = s.lb
      ∧ (gcmEvaluated sd seq ls s).cc = s.cc ∧ (gcmEvaluated sd seq ls s).ms = s.ms
      ∧ (gcmEvaluated sd seq ls s).pi = s.pi ∧ (gcmEvaluated sd seq ls s).pub = s.pub
      ∧ (gcmEvaluated sd seq ls s).pending = s.pending := by
  simp [gcmEvaluated]

@[simp] theorem gcmDiscarded_frame (sd : Side) (s : State) :
    (gcmDiscarded sd s).now = s.now ∧ (gcmDiscarded sd s).jobs = s.jobs ∧ (gcmDiscarded sd s).sau = s.sau
      ∧ (gcmDiscarded sd s).ocr = s.ocr ∧ (gcmDiscarded sd s).ghm = s.ghm ∧ (gcmDiscarded sd s).cw = s.cw
      ∧ (gcmDiscarded sd s).icd = s.icd ∧ (gcmDiscarded sd s).lb = s.lb ∧ (gcmDiscarded sd s).cc = s.cc
      ∧ (gcmDiscarded sd s).ms = s.ms ∧ (gcmDiscarded sd s).pi = s.pi ∧ (gcmDiscarded sd s).pub = s.pub
      ∧ (gcmDiscarded sd s).pending = s.pending := by
  unfold gcmDiscarded; dsimp only; repeat' split
  all_goals simp

/-! ### Order Correlator -/

@[simp] theorem tryStart_frame (sd : Side) (v : Nat) (s : State) :
    (tryStart sd v s).now = s.now ∧ (tryStart sd v s).jobs = s.jobs ∧ (tryStart sd v s).sau = s.sau
      ∧ (tryStart sd v s).gcm = s.gcm ∧ (tryStart sd v s).ghm = s.ghm ∧ (tryStart sd v s).cw = s.cw
      ∧ (tryStart sd v s).icd = s.icd ∧ (tryStart sd v s).lb = s.lb ∧ (tryStart sd v s).cc = s.cc
      ∧ (tryStart sd v s).ms = s.ms ∧ (tryStart sd v s).ej = s.ej ∧ (tryStart sd v s).rep = s.rep
      ∧ (tryStart sd v s).pi = s.pi ∧ (tryStart sd v s).pub = s.pub ∧ (tryStart sd v s).pending = s.pending := by
  unfold tryStart; dsimp only; split <;> simp

@[simp] theorem discardAs_frame (sd : Side) (cause : DiscardCause) (f : Frame) (s : State) :
    (discardAs sd cause f s).now = s.now ∧ (discardAs sd cause f s).jobs = s.jobs
      ∧ (discardAs sd cause f s).sau = s.sau ∧ (discardAs sd cause f s).ghm = s.ghm
      ∧ (discardAs sd cause f s).cw = s.cw ∧ (discardAs sd cause f s).icd = s.icd
      ∧ (discardAs sd cause f s).lb = s.lb ∧ (discardAs sd cause f s).cc = s.cc ∧ (discardAs sd cause f s).ms = s.ms
      ∧ (discardAs sd cause f s).pi = s.pi ∧ (discardAs sd cause f s).pending = s.pending := by
  simp [discardAs]

@[simp] theorem discardFrame_frame (sd : Side) (cause : DiscardCause) (s : State) :
    (discardFrame sd cause s).now = s.now ∧ (discardFrame sd cause s).jobs = s.jobs
      ∧ (discardFrame sd cause s).sau = s.sau ∧ (discardFrame sd cause s).ghm = s.ghm
      ∧ (discardFrame sd cause s).cw = s.cw ∧ (discardFrame sd cause s).icd = s.icd
      ∧ (discardFrame sd cause s).lb = s.lb ∧ (discardFrame sd cause s).cc = s.cc ∧ (discardFrame sd cause s).ms = s.ms
      ∧ (discardFrame sd cause s).pi = s.pi ∧ (discardFrame sd cause s).pending = s.pending := by
  unfold discardFrame; split <;> simp

@[simp] theorem evaluateFrame_frame (sd : Side) (f : Frame) (s : State) :
    (evaluateFrame sd f s).now = s.now ∧ (evaluateFrame sd f s).jobs = s.jobs ∧ (evaluateFrame sd f s).sau = s.sau
      ∧ (evaluateFrame sd f s).ghm = s.ghm ∧ (evaluateFrame sd f s).icd = s.icd ∧ (evaluateFrame sd f s).cc = s.cc
      ∧ (evaluateFrame sd f s).pi = s.pi ∧ (evaluateFrame sd f s).pending = s.pending := by
  simp [evaluateFrame]

@[simp] theorem setFrame_frame (sd : Side) (f : Frame) (s : State) :
    (setFrame sd f s).now = s.now ∧ (setFrame sd f s).jobs = s.jobs ∧ (setFrame sd f s).sau = s.sau
      ∧ (setFrame sd f s).gcm = s.gcm ∧ (setFrame sd f s).ghm = s.ghm ∧ (setFrame sd f s).cw = s.cw
      ∧ (setFrame sd f s).icd = s.icd ∧ (setFrame sd f s).lb = s.lb ∧ (setFrame sd f s).cc = s.cc
      ∧ (setFrame sd f s).ms = s.ms ∧ (setFrame sd f s).ej = s.ej ∧ (setFrame sd f s).rep = s.rep
      ∧ (setFrame sd f s).pi = s.pi ∧ (setFrame sd f s).pub = s.pub ∧ (setFrame sd f s).pending = s.pending := by
  simp [setFrame]

@[simp] theorem revolutionToFrames_frame (sd : Side) (p v : Nat) (s : State) :
    (revolutionToFrames sd p v s).now = s.now ∧ (revolutionToFrames sd p v s).jobs = s.jobs
      ∧ (revolutionToFrames sd p v s).sau = s.sau ∧ (revolutionToFrames sd p v s).ghm = s.ghm
      ∧ (revolutionToFrames sd p v s).icd = s.icd ∧ (revolutionToFrames sd p v s).cc = s.cc
      ∧ (revolutionToFrames sd p v s).pi = s.pi ∧ (revolutionToFrames sd p v s).pending = s.pending := by
  unfold revolutionToFrames; dsimp only; repeat' split
  all_goals simp

@[simp] theorem angleToFrames_frame (sd : Side) (s : State) :
    (angleToFrames sd s).now = s.now ∧ (angleToFrames sd s).jobs = s.jobs ∧ (angleToFrames sd s).sau = s.sau
      ∧ (angleToFrames sd s).ghm = s.ghm ∧ (angleToFrames sd s).cw = s.cw ∧ (angleToFrames sd s).icd = s.icd
      ∧ (angleToFrames sd s).lb = s.lb ∧ (angleToFrames sd s).cc = s.cc ∧ (angleToFrames sd s).ms = s.ms
      ∧ (angleToFrames sd s).pi = s.pi ∧ (angleToFrames sd s).pending = s.pending := by
  unfold angleToFrames; dsimp only; repeat' split
  all_goals simp

@[simp] theorem directionToFrames_frame (s : State) :
    (directionToFrames s).now = s.now ∧ (directionToFrames s).jobs = s.jobs ∧ (directionToFrames s).sau = s.sau
      ∧ (directionToFrames s).ghm = s.ghm ∧ (directionToFrames s).cw = s.cw ∧ (directionToFrames s).icd = s.icd
      ∧ (directionToFrames s).lb = s.lb ∧ (directionToFrames s).cc = s.cc ∧ (directionToFrames s).ms = s.ms
      ∧ (directionToFrames s).pi = s.pi ∧ (directionToFrames s).pending = s.pending := by
  simp [directionToFrames]

@[simp] theorem takeSet_frame (ws : List LinkWord) (s : State) :
    (takeSet ws s).now = s.now ∧ (takeSet ws s).jobs = s.jobs ∧ (takeSet ws s).sau = s.sau ∧ (takeSet ws s).gcm = s.gcm
      ∧ (takeSet ws s).ghm = s.ghm ∧ (takeSet ws s).cw = s.cw ∧ (takeSet ws s).icd = s.icd ∧ (takeSet ws s).lb = s.lb
      ∧ (takeSet ws s).cc = s.cc ∧ (takeSet ws s).ms = s.ms ∧ (takeSet ws s).pi = s.pi ∧ (takeSet ws s).pub = s.pub
      ∧ (takeSet ws s).pending = s.pending := by
  unfold takeSet; dsimp only; repeat' split
  all_goals simp

@[simp] theorem linkExpire_frame (s : State) :
    (linkExpire s).now = s.now ∧ (linkExpire s).jobs = s.jobs ∧ (linkExpire s).sau = s.sau ∧ (linkExpire s).ghm = s.ghm
      ∧ (linkExpire s).cw = s.cw ∧ (linkExpire s).icd = s.icd ∧ (linkExpire s).lb = s.lb ∧ (linkExpire s).cc = s.cc
      ∧ (linkExpire s).ms = s.ms ∧ (linkExpire s).pi = s.pi ∧ (linkExpire s).pending = s.pending := by
  unfold linkExpire; dsimp only; split <;> simp

/-! ### Shaft Angle Unit -/

@[simp] theorem disarmRatio_frame (s : State) :
    (disarmRatio s).now = s.now ∧ (disarmRatio s).jobs = s.jobs ∧ (disarmRatio s).ocr = s.ocr
      ∧ (disarmRatio s).gcm = s.gcm ∧ (disarmRatio s).ghm = s.ghm ∧ (disarmRatio s).cw = s.cw
      ∧ (disarmRatio s).icd = s.icd ∧ (disarmRatio s).lb = s.lb ∧ (disarmRatio s).cc = s.cc ∧ (disarmRatio s).ms = s.ms
      ∧ (disarmRatio s).ej = s.ej ∧ (disarmRatio s).rep = s.rep ∧ (disarmRatio s).pi = s.pi
      ∧ (disarmRatio s).pub = s.pub ∧ (disarmRatio s).pending = s.pending := by
  simp [disarmRatio]

@[simp] theorem State.setSide_frame (s : State) (sd : Side) (y : ShaftSide) :
    (s.setSide sd y).now = s.now ∧ (s.setSide sd y).jobs = s.jobs ∧ (s.setSide sd y).ocr = s.ocr
      ∧ (s.setSide sd y).gcm = s.gcm ∧ (s.setSide sd y).ghm = s.ghm ∧ (s.setSide sd y).cw = s.cw
      ∧ (s.setSide sd y).icd = s.icd ∧ (s.setSide sd y).lb = s.lb ∧ (s.setSide sd y).cc = s.cc
      ∧ (s.setSide sd y).ms = s.ms ∧ (s.setSide sd y).ej = s.ej ∧ (s.setSide sd y).rep = s.rep
      ∧ (s.setSide sd y).pi = s.pi ∧ (s.setSide sd y).pub = s.pub ∧ (s.setSide sd y).pending = s.pending := by
  simp [State.setSide]

@[simp] theorem anglePoint_frame (sd : Side) (index : Nat) (s : State) :
    (anglePoint sd index s).now = s.now ∧ (anglePoint sd index s).jobs = s.jobs ∧ (anglePoint sd index s).ghm = s.ghm
      ∧ (anglePoint sd index s).cw = s.cw ∧ (anglePoint sd index s).icd = s.icd ∧ (anglePoint sd index s).lb = s.lb
      ∧ (anglePoint sd index s).cc = s.cc ∧ (anglePoint sd index s).ms = s.ms ∧ (anglePoint sd index s).pi = s.pi
      ∧ (anglePoint sd index s).pending = s.pending := by
  simp [anglePoint]

@[simp] theorem ratioTest_frame (s : State) :
    (ratioTest s).now = s.now ∧ (ratioTest s).jobs = s.jobs ∧ (ratioTest s).ocr = s.ocr ∧ (ratioTest s).gcm = s.gcm
      ∧ (ratioTest s).ghm = s.ghm ∧ (ratioTest s).cw = s.cw ∧ (ratioTest s).icd = s.icd ∧ (ratioTest s).lb = s.lb
      ∧ (ratioTest s).cc = s.cc ∧ (ratioTest s).ms = s.ms ∧ (ratioTest s).pi = s.pi ∧ (ratioTest s).pub = s.pub
      ∧ (ratioTest s).pending = s.pending := by
  unfold ratioTest; dsimp only; repeat' split
  all_goals simp

@[simp] theorem revolutionToRatio_frame (sd : Side) (s : State) :
    (revolutionToRatio sd s).now = s.now ∧ (revolutionToRatio sd s).jobs = s.jobs ∧ (revolutionToRatio sd s).ocr = s.ocr
      ∧ (revolutionToRatio sd s).gcm = s.gcm ∧ (revolutionToRatio sd s).ghm = s.ghm ∧ (revolutionToRatio sd s).cw = s.cw
      ∧ (revolutionToRatio sd s).icd = s.icd ∧ (revolutionToRatio sd s).lb = s.lb ∧ (revolutionToRatio sd s).cc = s.cc
      ∧ (revolutionToRatio sd s).ms = s.ms ∧ (revolutionToRatio sd s).pi = s.pi ∧ (revolutionToRatio sd s).pub = s.pub
      ∧ (revolutionToRatio sd s).pending = s.pending := by
  unfold revolutionToRatio; repeat' split
  all_goals simp

@[simp] theorem countRevolution_frame (s : State) :
    (countRevolution s).now = s.now ∧ (countRevolution s).jobs = s.jobs ∧ (countRevolution s).sau = s.sau
      ∧ (countRevolution s).ocr = s.ocr ∧ (countRevolution s).gcm = s.gcm ∧ (countRevolution s).ghm = s.ghm
      ∧ (countRevolution s).cw = s.cw ∧ (countRevolution s).icd = s.icd ∧ (countRevolution s).lb = s.lb
      ∧ (countRevolution s).ms = s.ms ∧ (countRevolution s).ej = s.ej ∧ (countRevolution s).rep = s.rep
      ∧ (countRevolution s).pi = s.pi ∧ (countRevolution s).pub = s.pub ∧ (countRevolution s).pending = s.pending := by
  simp [countRevolution]

@[simp] theorem revolutionEvent_frame (sd : Side) (p v : Nat) (s : State) :
    (revolutionEvent sd p v s).now = s.now ∧ (revolutionEvent sd p v s).jobs = s.jobs
      ∧ (revolutionEvent sd p v s).ghm = s.ghm ∧ (revolutionEvent sd p v s).icd = s.icd
      ∧ (revolutionEvent sd p v s).pi = s.pi ∧ (revolutionEvent sd p v s).pending = s.pending := by
  unfold revolutionEvent; cases sd <;> simp

@[simp] theorem setDirection_frame (rev : Bool) (s : State) :
    (setDirection rev s).now = s.now ∧ (setDirection rev s).jobs = s.jobs ∧ (setDirection rev s).ghm = s.ghm
      ∧ (setDirection rev s).cw = s.cw ∧ (setDirection rev s).icd = s.icd ∧ (setDirection rev s).lb = s.lb
      ∧ (setDirection rev s).cc = s.cc ∧ (setDirection rev s).ms = s.ms ∧ (setDirection rev s).pi = s.pi
      ∧ (setDirection rev s).pending = s.pending := by
  unfold setDirection; dsimp only; split <;> simp

@[simp] theorem countEdge_frame (up : Bool) (s : State) :
    (countEdge up s).now = s.now ∧ (countEdge up s).jobs = s.jobs ∧ (countEdge up s).ghm = s.ghm
      ∧ (countEdge up s).cw = s.cw ∧ (countEdge up s).icd = s.icd ∧ (countEdge up s).lb = s.lb
      ∧ (countEdge up s).cc = s.cc ∧ (countEdge up s).ms = s.ms ∧ (countEdge up s).pi = s.pi
      ∧ (countEdge up s).pending = s.pending := by
  unfold countEdge; dsimp only; split <;> simp

@[simp] theorem decodeEdge_frame (line : EncoderLine) (level : Bool) (s : State) :
    (decodeEdge line level s).now = s.now ∧ (decodeEdge line level s).jobs = s.jobs
      ∧ (decodeEdge line level s).ghm = s.ghm ∧ (decodeEdge line level s).cw = s.cw
      ∧ (decodeEdge line level s).icd = s.icd ∧ (decodeEdge line level s).lb = s.lb
      ∧ (decodeEdge line level s).cc = s.cc ∧ (decodeEdge line level s).ms = s.ms ∧ (decodeEdge line level s).pi = s.pi
      ∧ (decodeEdge line level s).pending = s.pending := by
  unfold decodeEdge; repeat' split
  all_goals simp

@[simp] theorem slipToFault_frame (sd : Side) (s : State) :
    (slipToFault sd s).now = s.now ∧ (slipToFault sd s).jobs = s.jobs ∧ (slipToFault sd s).ghm = s.ghm
      ∧ (slipToFault sd s).cw = s.cw ∧ (slipToFault sd s).icd = s.icd ∧ (slipToFault sd s).lb = s.lb
      ∧ (slipToFault sd s).cc = s.cc ∧ (slipToFault sd s).ms = s.ms ∧ (slipToFault sd s).pi = s.pi
      ∧ (slipToFault sd s).pending = s.pending := by
  unfold slipToFault; cases sd <;> simp

@[simp] theorem slipAlone_frame (sd : Side) (s : State) :
    (slipAlone sd s).now = s.now ∧ (slipAlone sd s).jobs = s.jobs ∧ (slipAlone sd s).ghm = s.ghm
      ∧ (slipAlone sd s).cw = s.cw ∧ (slipAlone sd s).icd = s.icd ∧ (slipAlone sd s).lb = s.lb
      ∧ (slipAlone sd s).cc = s.cc ∧ (slipAlone sd s).ms = s.ms ∧ (slipAlone sd s).pi = s.pi
      ∧ (slipAlone sd s).pending = s.pending := by
  simp [slipAlone]

@[simp] theorem slipIndex_frame (sd : Side) (s : State) :
    (slipIndex sd s).now = s.now ∧ (slipIndex sd s).jobs = s.jobs ∧ (slipIndex sd s).ghm = s.ghm
      ∧ (slipIndex sd s).cw = s.cw ∧ (slipIndex sd s).icd = s.icd ∧ (slipIndex sd s).lb = s.lb
      ∧ (slipIndex sd s).cc = s.cc ∧ (slipIndex sd s).ms = s.ms ∧ (slipIndex sd s).pi = s.pi
      ∧ (slipIndex sd s).pending = s.pending := by
  unfold slipIndex; repeat' split
  all_goals simp

@[simp] theorem closePeriod_frame (sd : Side) (x : ShaftSide) (s : State) :
    (closePeriod sd x s).now = s.now ∧ (closePeriod sd x s).jobs = s.jobs ∧ (closePeriod sd x s).ghm = s.ghm
      ∧ (closePeriod sd x s).icd = s.icd ∧ (closePeriod sd x s).pi = s.pi ∧ (closePeriod sd x s).pending = s.pending := by
  unfold closePeriod; dsimp only; split <;> simp

@[simp] theorem forwardIndex_frame (sd : Side) (s : State) :
    (forwardIndex sd s).now = s.now ∧ (forwardIndex sd s).jobs = s.jobs ∧ (forwardIndex sd s).ghm = s.ghm
      ∧ (forwardIndex sd s).icd = s.icd ∧ (forwardIndex sd s).pi = s.pi ∧ (forwardIndex sd s).pending = s.pending := by
  unfold forwardIndex; dsimp only; repeat' split
  all_goals simp

@[simp] theorem reverseIndex_frame (s : State) :
    (reverseIndex s).now = s.now ∧ (reverseIndex s).jobs = s.jobs ∧ (reverseIndex s).ocr = s.ocr
      ∧ (reverseIndex s).gcm = s.gcm ∧ (reverseIndex s).ghm = s.ghm ∧ (reverseIndex s).cw = s.cw
      ∧ (reverseIndex s).icd = s.icd ∧ (reverseIndex s).lb = s.lb ∧ (reverseIndex s).cc = s.cc
      ∧ (reverseIndex s).ms = s.ms ∧ (reverseIndex s).ej = s.ej ∧ (reverseIndex s).rep = s.rep
      ∧ (reverseIndex s).pi = s.pi ∧ (reverseIndex s).pub = s.pub ∧ (reverseIndex s).pending = s.pending := by
  simp [reverseIndex]

@[simp] theorem takeIndex_frame (level : Bool) (s : State) :
    (takeIndex level s).now = s.now ∧ (takeIndex level s).jobs = s.jobs ∧ (takeIndex level s).ghm = s.ghm
      ∧ (takeIndex level s).icd = s.icd ∧ (takeIndex level s).pi = s.pi ∧ (takeIndex level s).pending = s.pending := by
  unfold takeIndex; repeat' split
  all_goals simp

@[simp] theorem takeLsIndex_frame (level : Bool) (s : State) :
    (takeLsIndex level s).now = s.now ∧ (takeLsIndex level s).jobs = s.jobs ∧ (takeLsIndex level s).ghm = s.ghm
      ∧ (takeLsIndex level s).icd = s.icd ∧ (takeLsIndex level s).pi = s.pi ∧ (takeLsIndex level s).pending = s.pending := by
  unfold takeLsIndex; repeat' split
  all_goals simp

@[simp] theorem takeTooth_frame (level : Bool) (s : State) :
    (takeTooth level s).now = s.now ∧ (takeTooth level s).jobs = s.jobs ∧ (takeTooth level s).ghm = s.ghm
      ∧ (takeTooth level s).cw = s.cw ∧ (takeTooth level s).icd = s.icd ∧ (takeTooth level s).lb = s.lb
      ∧ (takeTooth level s).cc = s.cc ∧ (takeTooth level s).ms = s.ms ∧ (takeTooth level s).pi = s.pi
      ∧ (takeTooth level s).pending = s.pending := by
  unfold takeTooth; dsimp only; split <;> simp

@[simp] theorem standstillExpire_frame (sd : Side) (s : State) :
    (standstillExpire sd s).now = s.now ∧ (standstillExpire sd s).jobs = s.jobs ∧ (standstillExpire sd s).ghm = s.ghm
      ∧ (standstillExpire sd s).cw = s.cw ∧ (standstillExpire sd s).icd = s.icd ∧ (standstillExpire sd s).lb = s.lb
      ∧ (standstillExpire sd s).cc = s.cc ∧ (standstillExpire sd s).ms = s.ms ∧ (standstillExpire sd s).pi = s.pi
      ∧ (standstillExpire sd s).pending = s.pending := by
  simp [standstillExpire]

/-! ### Grid Harmonic Monitor -/

@[simp] theorem evaluateBlock_frame (s : State) :
    (evaluateBlock s).now = s.now ∧ (evaluateBlock s).jobs = s.jobs ∧ (evaluateBlock s).sau = s.sau
      ∧ (evaluateBlock s).ocr = s.ocr ∧ (evaluateBlock s).gcm = s.gcm ∧ (evaluateBlock s).icd = s.icd
      ∧ (evaluateBlock s).cc = s.cc ∧ (evaluateBlock s).ms = s.ms ∧ (evaluateBlock s).pi = s.pi
      ∧ (evaluateBlock s).pending = s.pending := by
  unfold evaluateBlock; repeat' split
  all_goals simp

@[simp] theorem tryBlock_frame (s : State) :
    (tryBlock s).now = s.now ∧ (tryBlock s).jobs = s.jobs ∧ (tryBlock s).sau = s.sau ∧ (tryBlock s).ocr = s.ocr
      ∧ (tryBlock s).gcm = s.gcm ∧ (tryBlock s).icd = s.icd ∧ (tryBlock s).cc = s.cc ∧ (tryBlock s).ms = s.ms
      ∧ (tryBlock s).pi = s.pi ∧ (tryBlock s).pending = s.pending := by
  unfold tryBlock; repeat' split
  all_goals simp

@[simp] theorem windowEvaluated_frame (w : Window) (s : State) :
    (windowEvaluated w s).now = s.now ∧ (windowEvaluated w s).jobs = s.jobs ∧ (windowEvaluated w s).sau = s.sau
      ∧ (windowEvaluated w s).ocr = s.ocr ∧ (windowEvaluated w s).gcm = s.gcm ∧ (windowEvaluated w s).icd = s.icd
      ∧ (windowEvaluated w s).cc = s.cc ∧ (windowEvaluated w s).ms = s.ms ∧ (windowEvaluated w s).pi = s.pi
      ∧ (windowEvaluated w s).pending = s.pending := by
  simp [windowEvaluated]

@[simp] theorem windowDiscarded_frame (cause : WindowCause) (s : State) :
    (windowDiscarded cause s).now = s.now ∧ (windowDiscarded cause s).jobs = s.jobs
      ∧ (windowDiscarded cause s).sau = s.sau ∧ (windowDiscarded cause s).ocr = s.ocr
      ∧ (windowDiscarded cause s).gcm = s.gcm ∧ (windowDiscarded cause s).icd = s.icd
      ∧ (windowDiscarded cause s).cc = s.cc ∧ (windowDiscarded cause s).ms = s.ms ∧ (windowDiscarded cause s).pi = s.pi
      ∧ (windowDiscarded cause s).pending = s.pending := by
  unfold windowDiscarded; repeat' split
  all_goals simp

@[simp] theorem completeWindow_frame (w : Window) (s : State) :
    (completeWindow w s).now = s.now ∧ (completeWindow w s).jobs = s.jobs ∧ (completeWindow w s).sau = s.sau
      ∧ (completeWindow w s).ocr = s.ocr ∧ (completeWindow w s).gcm = s.gcm ∧ (completeWindow w s).icd = s.icd
      ∧ (completeWindow w s).cc = s.cc ∧ (completeWindow w s).ms = s.ms ∧ (completeWindow w s).pi = s.pi
      ∧ (completeWindow w s).pending = s.pending := by
  unfold completeWindow; repeat' split
  all_goals simp

@[simp] theorem countCycle_frame (s : State) :
    (countCycle s).now = s.now ∧ (countCycle s).jobs = s.jobs ∧ (countCycle s).sau = s.sau ∧ (countCycle s).ocr = s.ocr
      ∧ (countCycle s).gcm = s.gcm ∧ (countCycle s).icd = s.icd ∧ (countCycle s).cc = s.cc ∧ (countCycle s).ms = s.ms
      ∧ (countCycle s).pi = s.pi ∧ (countCycle s).pending = s.pending := by
  unfold countCycle; dsimp only; repeat' split
  all_goals simp

@[simp] theorem leaveLocked_frame (cause : WindowCause) (s : State) :
    (leaveLocked cause s).now = s.now ∧ (leaveLocked cause s).jobs = s.jobs ∧ (leaveLocked cause s).sau = s.sau
      ∧ (leaveLocked cause s).ocr = s.ocr ∧ (leaveLocked cause s).gcm = s.gcm ∧ (leaveLocked cause s).icd = s.icd
      ∧ (leaveLocked cause s).cc = s.cc ∧ (leaveLocked cause s).ms = s.ms ∧ (leaveLocked cause s).pi = s.pi
      ∧ (leaveLocked cause s).pending = s.pending := by
  simp [leaveLocked]

@[simp] theorem lockedEdge_frame (s : State) :
    (lockedEdge s).now = s.now ∧ (lockedEdge s).jobs = s.jobs ∧ (lockedEdge s).sau = s.sau ∧ (lockedEdge s).ocr = s.ocr
      ∧ (lockedEdge s).gcm = s.gcm ∧ (lockedEdge s).icd = s.icd ∧ (lockedEdge s).cc = s.cc ∧ (lockedEdge s).ms = s.ms
      ∧ (lockedEdge s).pi = s.pi ∧ (lockedEdge s).pending = s.pending := by
  unfold lockedEdge; dsimp only; split <;> simp

@[simp] theorem lockReport_frame (a : LockState) (b : LockState) (value : Nat) (s : State) :
    (lockReport a b value s).now = s.now ∧ (lockReport a b value s).jobs = s.jobs ∧ (lockReport a b value s).sau = s.sau
      ∧ (lockReport a b value s).ocr = s.ocr ∧ (lockReport a b value s).gcm = s.gcm
      ∧ (lockReport a b value s).ghm = s.ghm ∧ (lockReport a b value s).cw = s.cw ∧ (lockReport a b value s).icd = s.icd
      ∧ (lockReport a b value s).lb = s.lb ∧ (lockReport a b value s).cc = s.cc ∧ (lockReport a b value s).ms = s.ms
      ∧ (lockReport a b value s).pi = s.pi ∧ (lockReport a b value s).pub = s.pub
      ∧ (lockReport a b value s).pending = s.pending := by
  unfold lockReport; repeat' split
  all_goals simp

@[simp] theorem measuredEdge_frame (p : Nat) (s : State) :
    (measuredEdge p s).now = s.now ∧ (measuredEdge p s).jobs = s.jobs ∧ (measuredEdge p s).sau = s.sau
      ∧ (measuredEdge p s).ocr = s.ocr ∧ (measuredEdge p s).gcm = s.gcm ∧ (measuredEdge p s).icd = s.icd
      ∧ (measuredEdge p s).cc = s.cc ∧ (measuredEdge p s).ms = s.ms ∧ (measuredEdge p s).pi = s.pi
      ∧ (measuredEdge p s).pending = s.pending := by
  unfold measuredEdge; dsimp only; repeat' split
  all_goals simp

@[simp] theorem takeZeroCross_frame (s : State) :
    (takeZeroCross s).now = s.now ∧ (takeZeroCross s).jobs = s.jobs ∧ (takeZeroCross s).sau = s.sau
      ∧ (takeZeroCross s).ocr = s.ocr ∧ (takeZeroCross s).gcm = s.gcm ∧ (takeZeroCross s).icd = s.icd
      ∧ (takeZeroCross s).cc = s.cc ∧ (takeZeroCross s).ms = s.ms ∧ (takeZeroCross s).pi = s.pi
      ∧ (takeZeroCross s).pending = s.pending := by
  unfold takeZeroCross; repeat' split
  all_goals simp

@[simp] theorem lossExpire_frame (s : State) :
    (lossExpire s).now = s.now ∧ (lossExpire s).jobs = s.jobs ∧ (lossExpire s).sau = s.sau ∧ (lossExpire s).ocr = s.ocr
      ∧ (lossExpire s).gcm = s.gcm ∧ (lossExpire s).icd = s.icd ∧ (lossExpire s).cc = s.cc ∧ (lossExpire s).ms = s.ms
      ∧ (lossExpire s).pi = s.pi ∧ (lossExpire s).pending = s.pending := by
  unfold lossExpire; dsimp only; repeat' split
  all_goals simp

@[simp] theorem dropGridFrame_frame (s : State) :
    (dropGridFrame s).now = s.now ∧ (dropGridFrame s).jobs = s.jobs ∧ (dropGridFrame s).sau = s.sau
      ∧ (dropGridFrame s).ocr = s.ocr ∧ (dropGridFrame s).gcm = s.gcm ∧ (dropGridFrame s).cw = s.cw
      ∧ (dropGridFrame s).icd = s.icd ∧ (dropGridFrame s).lb = s.lb ∧ (dropGridFrame s).cc = s.cc
      ∧ (dropGridFrame s).ms = s.ms ∧ (dropGridFrame s).ej = s.ej ∧ (dropGridFrame s).pi = s.pi
      ∧ (dropGridFrame s).pub = s.pub ∧ (dropGridFrame s).pending = s.pending := by
  simp [dropGridFrame]

@[simp] theorem takeGridFrame_frame (ws : List LinkWord) (s : State) :
    (takeGridFrame ws s).now = s.now ∧ (takeGridFrame ws s).jobs = s.jobs ∧ (takeGridFrame ws s).sau = s.sau
      ∧ (takeGridFrame ws s).ocr = s.ocr ∧ (takeGridFrame ws s).gcm = s.gcm ∧ (takeGridFrame ws s).cw = s.cw
      ∧ (takeGridFrame ws s).icd = s.icd ∧ (takeGridFrame ws s).lb = s.lb ∧ (takeGridFrame ws s).cc = s.cc
      ∧ (takeGridFrame ws s).ms = s.ms ∧ (takeGridFrame ws s).ej = s.ej ∧ (takeGridFrame ws s).pi = s.pi
      ∧ (takeGridFrame ws s).pub = s.pub ∧ (takeGridFrame ws s).pending = s.pending := by
  unfold takeGridFrame; repeat' split
  all_goals simp

@[simp] theorem stopGrid_frame (s : State) :
    (stopGrid s).now = s.now ∧ (stopGrid s).jobs = s.jobs ∧ (stopGrid s).sau = s.sau ∧ (stopGrid s).ocr = s.ocr
      ∧ (stopGrid s).gcm = s.gcm ∧ (stopGrid s).icd = s.icd ∧ (stopGrid s).cc = s.cc ∧ (stopGrid s).ms = s.ms
      ∧ (stopGrid s).pi = s.pi ∧ (stopGrid s).pending = s.pending := by
  unfold stopGrid; dsimp only; split <;> split <;> simp

/-! ### Icing Detector -/

@[simp] theorem operatingArrived_frame (s : State) :
    (operatingArrived s).now = s.now ∧ (operatingArrived s).jobs = s.jobs ∧ (operatingArrived s).sau = s.sau
      ∧ (operatingArrived s).ocr = s.ocr ∧ (operatingArrived s).gcm = s.gcm ∧ (operatingArrived s).ghm = s.ghm
      ∧ (operatingArrived s).cw = s.cw ∧ (operatingArrived s).lb = s.lb ∧ (operatingArrived s).cc = s.cc
      ∧ (operatingArrived s).ms = s.ms ∧ (operatingArrived s).pi = s.pi ∧ (operatingArrived s).pub = s.pub
      ∧ (operatingArrived s).pending = s.pending := by
  unfold operatingArrived; dsimp only; split <;> simp

@[simp] theorem freshnessTick_frame (s : State) :
    (freshnessTick s).now = s.now ∧ (freshnessTick s).jobs = s.jobs ∧ (freshnessTick s).sau = s.sau
      ∧ (freshnessTick s).ocr = s.ocr ∧ (freshnessTick s).gcm = s.gcm ∧ (freshnessTick s).ghm = s.ghm
      ∧ (freshnessTick s).cw = s.cw ∧ (freshnessTick s).lb = s.lb ∧ (freshnessTick s).cc = s.cc
      ∧ (freshnessTick s).ms = s.ms ∧ (freshnessTick s).pi = s.pi ∧ (freshnessTick s).pub = s.pub
      ∧ (freshnessTick s).pending = s.pending := by
  unfold freshnessTick; dsimp only; split <;> simp

@[simp] theorem icingChange_frame (st : IcingState) (value : Int) (f : Icd → Icd) (s : State) :
    (icingChange st value f s).now = s.now ∧ (icingChange st value f s).jobs = s.jobs
      ∧ (icingChange st value f s).sau = s.sau ∧ (icingChange st value f s).ocr = s.ocr
      ∧ (icingChange st value f s).gcm = s.gcm ∧ (icingChange st value f s).ghm = s.ghm
      ∧ (icingChange st value f s).cw = s.cw ∧ (icingChange st value f s).cc = s.cc
      ∧ (icingChange st value f s).ms = s.ms ∧ (icingChange st value f s).pi = s.pi
      ∧ (icingChange st value f s).pending = s.pending := by
  simp [icingChange]

@[simp] theorem closeInterval_frame (s : State) :
    (closeInterval s).now = s.now ∧ (closeInterval s).jobs = s.jobs ∧ (closeInterval s).sau = s.sau
      ∧ (closeInterval s).ocr = s.ocr ∧ (closeInterval s).gcm = s.gcm ∧ (closeInterval s).ghm = s.ghm
      ∧ (closeInterval s).cw = s.cw ∧ (closeInterval s).cc = s.cc ∧ (closeInterval s).ms = s.ms
      ∧ (closeInterval s).pi = s.pi ∧ (closeInterval s).pending = s.pending := by
  unfold closeInterval; dsimp only; split <;> simp

@[simp] theorem intervalTick_frame (s : State) :
    (intervalTick s).now = s.now ∧ (intervalTick s).jobs = s.jobs ∧ (intervalTick s).sau = s.sau
      ∧ (intervalTick s).ocr = s.ocr ∧ (intervalTick s).gcm = s.gcm ∧ (intervalTick s).ghm = s.ghm
      ∧ (intervalTick s).cw = s.cw ∧ (intervalTick s).cc = s.cc ∧ (intervalTick s).ms = s.ms
      ∧ (intervalTick s).pi = s.pi ∧ (intervalTick s).pending = s.pending := by
  unfold intervalTick; repeat' split
  all_goals simp

@[simp] theorem thawExpire_frame (s : State) :
    (thawExpire s).now = s.now ∧ (thawExpire s).jobs = s.jobs ∧ (thawExpire s).sau = s.sau ∧ (thawExpire s).ocr = s.ocr
      ∧ (thawExpire s).gcm = s.gcm ∧ (thawExpire s).ghm = s.ghm ∧ (thawExpire s).cw = s.cw ∧ (thawExpire s).cc = s.cc
      ∧ (thawExpire s).ms = s.ms ∧ (thawExpire s).pi = s.pi ∧ (thawExpire s).pending = s.pending := by
  unfold thawExpire; repeat' split
  all_goals simp

@[simp] theorem thawTick_frame (before : Option Nat) (s : State) :
    (thawTick before s).now = s.now ∧ (thawTick before s).jobs = s.jobs ∧ (thawTick before s).sau = s.sau
      ∧ (thawTick before s).ocr = s.ocr ∧ (thawTick before s).gcm = s.gcm ∧ (thawTick before s).ghm = s.ghm
      ∧ (thawTick before s).cw = s.cw ∧ (thawTick before s).cc = s.cc ∧ (thawTick before s).ms = s.ms
      ∧ (thawTick before s).pi = s.pi ∧ (thawTick before s).pending = s.pending := by
  unfold thawTick; repeat' split
  all_goals simp

@[simp] theorem icingTick_frame (s : State) :
    (icingTick s).now = s.now ∧ (icingTick s).jobs = s.jobs ∧ (icingTick s).sau = s.sau ∧ (icingTick s).ocr = s.ocr
      ∧ (icingTick s).gcm = s.gcm ∧ (icingTick s).ghm = s.ghm ∧ (icingTick s).cw = s.cw ∧ (icingTick s).cc = s.cc
      ∧ (icingTick s).ms = s.ms ∧ (icingTick s).pi = s.pi ∧ (icingTick s).pending = s.pending := by
  simp [icingTick]

/-! ### Clock -/

@[simp] theorem calendarTick_frame (s : State) :
    (calendarTick s).now = s.now ∧ (calendarTick s).jobs = s.jobs ∧ (calendarTick s).sau = s.sau
      ∧ (calendarTick s).ocr = s.ocr ∧ (calendarTick s).gcm = s.gcm ∧ (calendarTick s).ghm = s.ghm
      ∧ (calendarTick s).cw = s.cw ∧ (calendarTick s).icd = s.icd ∧ (calendarTick s).lb = s.lb
      ∧ (calendarTick s).ms = s.ms ∧ (calendarTick s).pi = s.pi ∧ (calendarTick s).pub = s.pub
      ∧ (calendarTick s).pending = s.pending := by
  unfold calendarTick; repeat' split
  all_goals simp

@[simp] theorem handTick_frame (order : TickOrder) (s : State) :
    (handTick order s).now = s.now ∧ (handTick order s).jobs = s.jobs ∧ (handTick order s).sau = s.sau
      ∧ (handTick order s).ocr = s.ocr ∧ (handTick order s).gcm = s.gcm ∧ (handTick order s).ghm = s.ghm
      ∧ (handTick order s).cw = s.cw ∧ (handTick order s).cc = s.cc ∧ (handTick order s).pi = s.pi
      ∧ (handTick order s).pending = s.pending := by
  unfold handTick; cases order <;> simp

@[simp] theorem countSecond_frame (s : State) :
    (countSecond s).now = s.now ∧ (countSecond s).jobs = s.jobs ∧ (countSecond s).sau = s.sau
      ∧ (countSecond s).ocr = s.ocr ∧ (countSecond s).gcm = s.gcm ∧ (countSecond s).ghm = s.ghm
      ∧ (countSecond s).cw = s.cw ∧ (countSecond s).icd = s.icd ∧ (countSecond s).lb = s.lb ∧ (countSecond s).ms = s.ms
      ∧ (countSecond s).ej = s.ej ∧ (countSecond s).rep = s.rep ∧ (countSecond s).pi = s.pi
      ∧ (countSecond s).pub = s.pub ∧ (countSecond s).pending = s.pending := by
  unfold countSecond; repeat' split
  all_goals simp

@[simp] theorem issueTick_frame (order : TickOrder) (s : State) :
    (issueTick order s).now = s.now ∧ (issueTick order s).jobs = s.jobs ∧ (issueTick order s).sau = s.sau
      ∧ (issueTick order s).ocr = s.ocr ∧ (issueTick order s).gcm = s.gcm ∧ (issueTick order s).ghm = s.ghm
      ∧ (issueTick order s).cw = s.cw ∧ (issueTick order s).pi = s.pi ∧ (issueTick order s).pending = s.pending := by
  simp [issueTick]

@[simp] theorem zeroPhase_frame (s : State) :
    (zeroPhase s).now = s.now ∧ (zeroPhase s).jobs = s.jobs ∧ (zeroPhase s).sau = s.sau ∧ (zeroPhase s).ocr = s.ocr
      ∧ (zeroPhase s).gcm = s.gcm ∧ (zeroPhase s).ghm = s.ghm ∧ (zeroPhase s).cw = s.cw ∧ (zeroPhase s).icd = s.icd
      ∧ (zeroPhase s).lb = s.lb ∧ (zeroPhase s).ms = s.ms ∧ (zeroPhase s).ej = s.ej ∧ (zeroPhase s).rep = s.rep
      ∧ (zeroPhase s).pi = s.pi ∧ (zeroPhase s).pub = s.pub ∧ (zeroPhase s).pending = s.pending := by
  simp [zeroPhase]

@[simp] theorem phaseTick_frame (order : TickOrder) (s : State) :
    (phaseTick order s).jobs = s.jobs ∧ (phaseTick order s).ocr = s.ocr ∧ (phaseTick order s).gcm = s.gcm
      ∧ (phaseTick order s).ghm = s.ghm ∧ (phaseTick order s).cw = s.cw ∧ (phaseTick order s).pi = s.pi
      ∧ (phaseTick order s).pending = s.pending := by
  simp [phaseTick]

@[simp] theorem loadClock_frame (value : Nat) (s : State) :
    (loadClock value s).now = s.now ∧ (loadClock value s).jobs = s.jobs ∧ (loadClock value s).sau = s.sau
      ∧ (loadClock value s).ocr = s.ocr ∧ (loadClock value s).gcm = s.gcm ∧ (loadClock value s).ghm = s.ghm
      ∧ (loadClock value s).cw = s.cw ∧ (loadClock value s).icd = s.icd ∧ (loadClock value s).lb = s.lb
      ∧ (loadClock value s).ms = s.ms ∧ (loadClock value s).pi = s.pi ∧ (loadClock value s).pub = s.pub
      ∧ (loadClock value s).pending = s.pending := by
  simp [loadClock]

@[simp] theorem abandonClock_frame (s : State) :
    (abandonClock s).now = s.now ∧ (abandonClock s).jobs = s.jobs ∧ (abandonClock s).sau = s.sau
      ∧ (abandonClock s).ocr = s.ocr ∧ (abandonClock s).gcm = s.gcm ∧ (abandonClock s).ghm = s.ghm
      ∧ (abandonClock s).cw = s.cw ∧ (abandonClock s).icd = s.icd ∧ (abandonClock s).lb = s.lb
      ∧ (abandonClock s).ms = s.ms ∧ (abandonClock s).pi = s.pi ∧ (abandonClock s).pub = s.pub
      ∧ (abandonClock s).pending = s.pending := by
  simp [abandonClock]

@[simp] theorem alignTick_frame (order : TickOrder) (s : State) :
    (alignTick order s).now = s.now ∧ (alignTick order s).jobs = s.jobs ∧ (alignTick order s).sau = s.sau
      ∧ (alignTick order s).ocr = s.ocr ∧ (alignTick order s).gcm = s.gcm ∧ (alignTick order s).ghm = s.ghm
      ∧ (alignTick order s).cw = s.cw ∧ (alignTick order s).pi = s.pi ∧ (alignTick order s).pending = s.pending := by
  unfold alignTick; repeat' split
  all_goals simp

@[simp] theorem takePps_frame (order : TickOrder) (s : State) :
    (takePps order s).now = s.now ∧ (takePps order s).jobs = s.jobs ∧ (takePps order s).sau = s.sau
      ∧ (takePps order s).ocr = s.ocr ∧ (takePps order s).gcm = s.gcm ∧ (takePps order s).ghm = s.ghm
      ∧ (takePps order s).cw = s.cw ∧ (takePps order s).pi = s.pi ∧ (takePps order s).pending = s.pending := by
  unfold takePps; dsimp only; repeat' split
  all_goals simp

/-! ### Written records -/

@[simp] theorem writeShaft_frame (ms : List MaskedWord) (s : State) :
    (writeShaft ms s).now = s.now ∧ (writeShaft ms s).jobs = s.jobs ∧ (writeShaft ms s).ocr = s.ocr
      ∧ (writeShaft ms s).gcm = s.gcm ∧ (writeShaft ms s).ghm = s.ghm ∧ (writeShaft ms s).cw = s.cw
      ∧ (writeShaft ms s).icd = s.icd ∧ (writeShaft ms s).lb = s.lb ∧ (writeShaft ms s).cc = s.cc
      ∧ (writeShaft ms s).ms = s.ms ∧ (writeShaft ms s).ej = s.ej ∧ (writeShaft ms s).pi = s.pi
      ∧ (writeShaft ms s).pub = s.pub ∧ (writeShaft ms s).pending = s.pending := by
  unfold writeShaft; repeat' split
  all_goals simp

@[simp] theorem writeLine_frame (n : Nat) (ms : List MaskedWord) (s : State) :
    (writeLine n ms s).now = s.now ∧ (writeLine n ms s).jobs = s.jobs ∧ (writeLine n ms s).sau = s.sau
      ∧ (writeLine n ms s).ocr = s.ocr ∧ (writeLine n ms s).ghm = s.ghm ∧ (writeLine n ms s).cw = s.cw
      ∧ (writeLine n ms s).icd = s.icd ∧ (writeLine n ms s).lb = s.lb ∧ (writeLine n ms s).cc = s.cc
      ∧ (writeLine n ms s).ms = s.ms ∧ (writeLine n ms s).ej = s.ej ∧ (writeLine n ms s).pi = s.pi
      ∧ (writeLine n ms s).pub = s.pub ∧ (writeLine n ms s).pending = s.pending := by
  simp [writeLine]

@[simp] theorem writeCorr_frame (ms : List MaskedWord) (s : State) :
    (writeCorr ms s).now = s.now ∧ (writeCorr ms s).jobs = s.jobs ∧ (writeCorr ms s).sau = s.sau
      ∧ (writeCorr ms s).gcm = s.gcm ∧ (writeCorr ms s).ghm = s.ghm ∧ (writeCorr ms s).cw = s.cw
      ∧ (writeCorr ms s).icd = s.icd ∧ (writeCorr ms s).lb = s.lb ∧ (writeCorr ms s).cc = s.cc
      ∧ (writeCorr ms s).ms = s.ms ∧ (writeCorr ms s).ej = s.ej ∧ (writeCorr ms s).rep = s.rep
      ∧ (writeCorr ms s).pi = s.pi ∧ (writeCorr ms s).pub = s.pub ∧ (writeCorr ms s).pending = s.pending := by
  simp [writeCorr]

@[simp] theorem writeGrid_frame (ms : List MaskedWord) (s : State) :
    (writeGrid ms s).now = s.now ∧ (writeGrid ms s).jobs = s.jobs ∧ (writeGrid ms s).sau = s.sau
      ∧ (writeGrid ms s).ocr = s.ocr ∧ (writeGrid ms s).gcm = s.gcm ∧ (writeGrid ms s).cw = s.cw
      ∧ (writeGrid ms s).icd = s.icd ∧ (writeGrid ms s).lb = s.lb ∧ (writeGrid ms s).cc = s.cc
      ∧ (writeGrid ms s).ms = s.ms ∧ (writeGrid ms s).ej = s.ej ∧ (writeGrid ms s).rep = s.rep
      ∧ (writeGrid ms s).pi = s.pi ∧ (writeGrid ms s).pub = s.pub ∧ (writeGrid ms s).pending = s.pending := by
  simp [writeGrid]

@[simp] theorem writeWatch_frame (ms : List MaskedWord) (s : State) :
    (writeWatch ms s).now = s.now ∧ (writeWatch ms s).jobs = s.jobs ∧ (writeWatch ms s).sau = s.sau
      ∧ (writeWatch ms s).ocr = s.ocr ∧ (writeWatch ms s).gcm = s.gcm ∧ (writeWatch ms s).ghm = s.ghm
      ∧ (writeWatch ms s).icd = s.icd ∧ (writeWatch ms s).lb = s.lb ∧ (writeWatch ms s).cc = s.cc
      ∧ (writeWatch ms s).ms = s.ms ∧ (writeWatch ms s).ej = s.ej ∧ (writeWatch ms s).rep = s.rep
      ∧ (writeWatch ms s).pi = s.pi ∧ (writeWatch ms s).pub = s.pub ∧ (writeWatch ms s).pending = s.pending := by
  simp [writeWatch]

@[simp] theorem writeOperating_frame (ms : List MaskedWord) (s : State) :
    (writeOperating ms s).now = s.now ∧ (writeOperating ms s).jobs = s.jobs ∧ (writeOperating ms s).sau = s.sau
      ∧ (writeOperating ms s).ocr = s.ocr ∧ (writeOperating ms s).gcm = s.gcm ∧ (writeOperating ms s).ghm = s.ghm
      ∧ (writeOperating ms s).cw = s.cw ∧ (writeOperating ms s).lb = s.lb ∧ (writeOperating ms s).cc = s.cc
      ∧ (writeOperating ms s).ms = s.ms ∧ (writeOperating ms s).pi = s.pi ∧ (writeOperating ms s).pub = s.pub
      ∧ (writeOperating ms s).pending = s.pending := by
  simp [writeOperating]

@[simp] theorem writeIcing_frame (ms : List MaskedWord) (s : State) :
    (writeIcing ms s).now = s.now ∧ (writeIcing ms s).jobs = s.jobs ∧ (writeIcing ms s).sau = s.sau
      ∧ (writeIcing ms s).ocr = s.ocr ∧ (writeIcing ms s).gcm = s.gcm ∧ (writeIcing ms s).ghm = s.ghm
      ∧ (writeIcing ms s).cw = s.cw ∧ (writeIcing ms s).lb = s.lb ∧ (writeIcing ms s).cc = s.cc
      ∧ (writeIcing ms s).ms = s.ms ∧ (writeIcing ms s).ej = s.ej ∧ (writeIcing ms s).pi = s.pi
      ∧ (writeIcing ms s).pending = s.pending := by
  unfold writeIcing; dsimp only; split <;> simp

@[simp] theorem writeCurve_frame (ms : List MaskedWord) (s : State) :
    (writeCurve ms s).now = s.now ∧ (writeCurve ms s).jobs = s.jobs ∧ (writeCurve ms s).sau = s.sau
      ∧ (writeCurve ms s).ocr = s.ocr ∧ (writeCurve ms s).gcm = s.gcm ∧ (writeCurve ms s).ghm = s.ghm
      ∧ (writeCurve ms s).cw = s.cw ∧ (writeCurve ms s).lb = s.lb ∧ (writeCurve ms s).cc = s.cc
      ∧ (writeCurve ms s).ms = s.ms ∧ (writeCurve ms s).ej = s.ej ∧ (writeCurve ms s).rep = s.rep
      ∧ (writeCurve ms s).pi = s.pi ∧ (writeCurve ms s).pub = s.pub ∧ (writeCurve ms s).pending = s.pending := by
  simp [writeCurve]

@[simp] theorem writeBoard_frame (ms : List MaskedWord) (s : State) :
    (writeBoard ms s).now = s.now ∧ (writeBoard ms s).jobs = s.jobs ∧ (writeBoard ms s).sau = s.sau
      ∧ (writeBoard ms s).ocr = s.ocr ∧ (writeBoard ms s).gcm = s.gcm ∧ (writeBoard ms s).ghm = s.ghm
      ∧ (writeBoard ms s).cw = s.cw ∧ (writeBoard ms s).icd = s.icd ∧ (writeBoard ms s).cc = s.cc
      ∧ (writeBoard ms s).ms = s.ms ∧ (writeBoard ms s).ej = s.ej ∧ (writeBoard ms s).rep = s.rep
      ∧ (writeBoard ms s).pi = s.pi ∧ (writeBoard ms s).pub = s.pub ∧ (writeBoard ms s).pending = s.pending := by
  simp [writeBoard]

@[simp] theorem writeCounters_frame (ms : List MaskedWord) (s : State) :
    (writeCounters ms s).now = s.now ∧ (writeCounters ms s).jobs = s.jobs ∧ (writeCounters ms s).sau = s.sau
      ∧ (writeCounters ms s).ocr = s.ocr ∧ (writeCounters ms s).gcm = s.gcm ∧ (writeCounters ms s).ghm = s.ghm
      ∧ (writeCounters ms s).cw = s.cw ∧ (writeCounters ms s).icd = s.icd ∧ (writeCounters ms s).lb = s.lb
      ∧ (writeCounters ms s).ms = s.ms ∧ (writeCounters ms s).ej = s.ej ∧ (writeCounters ms s).rep = s.rep
      ∧ (writeCounters ms s).pi = s.pi ∧ (writeCounters ms s).pub = s.pub ∧ (writeCounters ms s).pending = s.pending := by
  simp [writeCounters]

@[simp] theorem writeStaging_frame (ms : List MaskedWord) (s : State) :
    (writeStaging ms s).now = s.now ∧ (writeStaging ms s).jobs = s.jobs ∧ (writeStaging ms s).sau = s.sau
      ∧ (writeStaging ms s).ocr = s.ocr ∧ (writeStaging ms s).gcm = s.gcm ∧ (writeStaging ms s).ghm = s.ghm
      ∧ (writeStaging ms s).cw = s.cw ∧ (writeStaging ms s).icd = s.icd ∧ (writeStaging ms s).lb = s.lb
      ∧ (writeStaging ms s).ms = s.ms ∧ (writeStaging ms s).ej = s.ej ∧ (writeStaging ms s).rep = s.rep
      ∧ (writeStaging ms s).pi = s.pi ∧ (writeStaging ms s).pub = s.pub ∧ (writeStaging ms s).pending = s.pending := by
  simp [writeStaging]

@[simp] theorem writeRestore_frame (ms : List MaskedWord) (s : State) :
    (writeRestore ms s).now = s.now ∧ (writeRestore ms s).jobs = s.jobs ∧ (writeRestore ms s).sau = s.sau
      ∧ (writeRestore ms s).ocr = s.ocr ∧ (writeRestore ms s).gcm = s.gcm ∧ (writeRestore ms s).ghm = s.ghm
      ∧ (writeRestore ms s).cw = s.cw ∧ (writeRestore ms s).icd = s.icd ∧ (writeRestore ms s).lb = s.lb
      ∧ (writeRestore ms s).ms = s.ms ∧ (writeRestore ms s).ej = s.ej ∧ (writeRestore ms s).rep = s.rep
      ∧ (writeRestore ms s).pi = s.pi ∧ (writeRestore ms s).pub = s.pub ∧ (writeRestore ms s).pending = s.pending := by
  simp [writeRestore]

@[simp] theorem writeDeferArg_frame (ms : List MaskedWord) (s : State) :
    (writeDeferArg ms s).now = s.now ∧ (writeDeferArg ms s).jobs = s.jobs ∧ (writeDeferArg ms s).sau = s.sau
      ∧ (writeDeferArg ms s).ocr = s.ocr ∧ (writeDeferArg ms s).gcm = s.gcm ∧ (writeDeferArg ms s).ghm = s.ghm
      ∧ (writeDeferArg ms s).cw = s.cw ∧ (writeDeferArg ms s).icd = s.icd ∧ (writeDeferArg ms s).lb = s.lb
      ∧ (writeDeferArg ms s).cc = s.cc ∧ (writeDeferArg ms s).ej = s.ej ∧ (writeDeferArg ms s).rep = s.rep
      ∧ (writeDeferArg ms s).pi = s.pi ∧ (writeDeferArg ms s).pub = s.pub ∧ (writeDeferArg ms s).pending = s.pending := by
  simp [writeDeferArg]

@[simp] theorem writeItem_frame (n : Nat) (ms : List MaskedWord) (s : State) :
    (writeItem n ms s).now = s.now ∧ (writeItem n ms s).jobs = s.jobs ∧ (writeItem n ms s).sau = s.sau
      ∧ (writeItem n ms s).ocr = s.ocr ∧ (writeItem n ms s).gcm = s.gcm ∧ (writeItem n ms s).ghm = s.ghm
      ∧ (writeItem n ms s).cw = s.cw ∧ (writeItem n ms s).icd = s.icd ∧ (writeItem n ms s).lb = s.lb
      ∧ (writeItem n ms s).cc = s.cc ∧ (writeItem n ms s).ej = s.ej ∧ (writeItem n ms s).pi = s.pi
      ∧ (writeItem n ms s).pub = s.pub ∧ (writeItem n ms s).pending = s.pending := by
  simp [writeItem]

@[simp] theorem writeStatus_frame (p : PortId) (ms : List MaskedWord) (s : State) :
    (writeStatus p ms s).now = s.now ∧ (writeStatus p ms s).jobs = s.jobs ∧ (writeStatus p ms s).sau = s.sau
      ∧ (writeStatus p ms s).ocr = s.ocr ∧ (writeStatus p ms s).gcm = s.gcm ∧ (writeStatus p ms s).ghm = s.ghm
      ∧ (writeStatus p ms s).cw = s.cw ∧ (writeStatus p ms s).icd = s.icd ∧ (writeStatus p ms s).lb = s.lb
      ∧ (writeStatus p ms s).cc = s.cc ∧ (writeStatus p ms s).ms = s.ms ∧ (writeStatus p ms s).ej = s.ej
      ∧ (writeStatus p ms s).pi = s.pi ∧ (writeStatus p ms s).pub = s.pub ∧ (writeStatus p ms s).pending = s.pending := by
  simp [writeStatus, State.setRepPort]

@[simp] theorem writeRecord_frame (p : PortId) (g r : Nat) (ms : List MaskedWord) (s : State) :
    (writeRecord p g r ms s).now = s.now ∧ (writeRecord p g r ms s).jobs = s.jobs ∧ (writeRecord p g r ms s).pi = s.pi
      ∧ (writeRecord p g r ms s).pending = s.pending := by
  unfold writeRecord; repeat' split
  all_goals simp

@[simp] theorem applyRecord_frame (p : PortId) (g : Nat) (buf : List BufferWord) (s : State) (r : Nat) :
    (applyRecord p g buf s r).now = s.now ∧ (applyRecord p g buf s r).jobs = s.jobs
      ∧ (applyRecord p g buf s r).pi = s.pi ∧ (applyRecord p g buf s r).pending = s.pending := by
  unfold applyRecord; dsimp only; split <;> simp

@[simp] theorem foldRecords_frame (p : PortId) (g : Nat) (buf : List BufferWord) (rs : List Nat) (s : State) :
    (rs.foldl (applyRecord p g buf) s).now = s.now ∧ (rs.foldl (applyRecord p g buf) s).jobs = s.jobs
      ∧ (rs.foldl (applyRecord p g buf) s).pi = s.pi ∧ (rs.foldl (applyRecord p g buf) s).pending = s.pending := by
  induction rs generalizing s with
  | nil => simp
  | cons r rs ih => simpa using ih (applyRecord p g buf s r)

@[simp] theorem completeWrite_frame (p : PortId) (g : Nat) (buf : List BufferWord) (s : State) :
    (completeWrite p g buf s).now = s.now ∧ (completeWrite p g buf s).jobs = s.jobs
      ∧ (completeWrite p g buf s).pi = s.pi ∧ (completeWrite p g buf s).pending = s.pending := by
  simp [completeWrite]

/-! ### Port Interface -/

@[simp] theorem startTransaction_frame (p : PortId) (s : State) :
    (startTransaction p s).now = s.now ∧ (startTransaction p s).jobs = s.jobs ∧ (startTransaction p s).sau = s.sau
      ∧ (startTransaction p s).ocr = s.ocr ∧ (startTransaction p s).gcm = s.gcm ∧ (startTransaction p s).ghm = s.ghm
      ∧ (startTransaction p s).cw = s.cw ∧ (startTransaction p s).icd = s.icd ∧ (startTransaction p s).lb = s.lb
      ∧ (startTransaction p s).cc = s.cc ∧ (startTransaction p s).ms = s.ms ∧ (startTransaction p s).ej = s.ej
      ∧ (startTransaction p s).rep = s.rep ∧ (startTransaction p s).pub = s.pub
      ∧ (startTransaction p s).pending = s.pending := by
  unfold startTransaction; dsimp only; repeat' split
  all_goals simp [State.setPort]

@[simp] theorem takeHeaderWord_frame (p : PortId) (w : Word) (s : State) :
    (takeHeaderWord p w s).now = s.now ∧ (takeHeaderWord p w s).jobs = s.jobs ∧ (takeHeaderWord p w s).sau = s.sau
      ∧ (takeHeaderWord p w s).ocr = s.ocr ∧ (takeHeaderWord p w s).gcm = s.gcm ∧ (takeHeaderWord p w s).ghm = s.ghm
      ∧ (takeHeaderWord p w s).cw = s.cw ∧ (takeHeaderWord p w s).icd = s.icd ∧ (takeHeaderWord p w s).lb = s.lb
      ∧ (takeHeaderWord p w s).cc = s.cc ∧ (takeHeaderWord p w s).ms = s.ms ∧ (takeHeaderWord p w s).ej = s.ej
      ∧ (takeHeaderWord p w s).rep = s.rep ∧ (takeHeaderWord p w s).pub = s.pub
      ∧ (takeHeaderWord p w s).pending = s.pending := by
  unfold takeHeaderWord; dsimp only; repeat' split
  all_goals simp [State.setPort]

@[simp] theorem takeHeader_frame (p : PortId) (w : Word) (s : State) :
    (takeHeader p w s).now = s.now ∧ (takeHeader p w s).jobs = s.jobs ∧ (takeHeader p w s).sau = s.sau
      ∧ (takeHeader p w s).ocr = s.ocr ∧ (takeHeader p w s).gcm = s.gcm ∧ (takeHeader p w s).ghm = s.ghm
      ∧ (takeHeader p w s).cw = s.cw ∧ (takeHeader p w s).icd = s.icd ∧ (takeHeader p w s).lb = s.lb
      ∧ (takeHeader p w s).cc = s.cc ∧ (takeHeader p w s).ms = s.ms ∧ (takeHeader p w s).ej = s.ej
      ∧ (takeHeader p w s).rep = s.rep ∧ (takeHeader p w s).pub = s.pub ∧ (takeHeader p w s).pending = s.pending := by
  unfold takeHeader; dsimp only; repeat' split
  all_goals simp [State.setPort]

@[simp] theorem takeFiller_frame (p : PortId) (s : State) :
    (takeFiller p s).now = s.now ∧ (takeFiller p s).jobs = s.jobs ∧ (takeFiller p s).sau = s.sau
      ∧ (takeFiller p s).ocr = s.ocr ∧ (takeFiller p s).gcm = s.gcm ∧ (takeFiller p s).ghm = s.ghm
      ∧ (takeFiller p s).cw = s.cw ∧ (takeFiller p s).icd = s.icd ∧ (takeFiller p s).lb = s.lb
      ∧ (takeFiller p s).cc = s.cc ∧ (takeFiller p s).ms = s.ms ∧ (takeFiller p s).ej = s.ej
      ∧ (takeFiller p s).rep = s.rep ∧ (takeFiller p s).pending = s.pending := by
  unfold takeFiller; dsimp only; repeat' split
  all_goals simp [State.setPort]

@[simp] theorem takeRead_frame (p : PortId) (s : State) :
    (takeRead p s).now = s.now ∧ (takeRead p s).jobs = s.jobs ∧ (takeRead p s).sau = s.sau ∧ (takeRead p s).ocr = s.ocr
      ∧ (takeRead p s).gcm = s.gcm ∧ (takeRead p s).ghm = s.ghm ∧ (takeRead p s).cw = s.cw ∧ (takeRead p s).icd = s.icd
      ∧ (takeRead p s).lb = s.lb ∧ (takeRead p s).cc = s.cc ∧ (takeRead p s).ms = s.ms ∧ (takeRead p s).ej = s.ej
      ∧ (takeRead p s).rep = s.rep ∧ (takeRead p s).pub = s.pub ∧ (takeRead p s).pending = s.pending := by
  unfold takeRead; dsimp only; repeat' split
  all_goals simp [State.setPort]

@[simp] theorem discardWord_frame (p : PortId) (s : State) :
    (discardWord p s).now = s.now ∧ (discardWord p s).jobs = s.jobs ∧ (discardWord p s).sau = s.sau
      ∧ (discardWord p s).ocr = s.ocr ∧ (discardWord p s).gcm = s.gcm ∧ (discardWord p s).ghm = s.ghm
      ∧ (discardWord p s).cw = s.cw ∧ (discardWord p s).icd = s.icd ∧ (discardWord p s).lb = s.lb
      ∧ (discardWord p s).cc = s.cc ∧ (discardWord p s).ms = s.ms ∧ (discardWord p s).ej = s.ej
      ∧ (discardWord p s).pub = s.pub ∧ (discardWord p s).pending = s.pending := by
  simp [discardWord, State.setPort]

@[simp] theorem takeWrite_frame (p : PortId) (m : MaskedWord) (s : State) :
    (takeWrite p m s).now = s.now ∧ (takeWrite p m s).jobs = s.jobs ∧ (takeWrite p m s).sau = s.sau
      ∧ (takeWrite p m s).ocr = s.ocr ∧ (takeWrite p m s).gcm = s.gcm ∧ (takeWrite p m s).ghm = s.ghm
      ∧ (takeWrite p m s).cw = s.cw ∧ (takeWrite p m s).icd = s.icd ∧ (takeWrite p m s).lb = s.lb
      ∧ (takeWrite p m s).cc = s.cc ∧ (takeWrite p m s).ms = s.ms ∧ (takeWrite p m s).ej = s.ej
      ∧ (takeWrite p m s).pub = s.pub ∧ (takeWrite p m s).pending = s.pending := by
  unfold takeWrite; dsimp only; repeat' split
  all_goals simp [State.setPort]

@[simp] theorem completeTransaction_frame (p : PortId) (s : State) :
    (completeTransaction p s).now = s.now ∧ (completeTransaction p s).jobs = s.jobs
      ∧ (completeTransaction p s).pending = s.pending := by
  unfold completeTransaction; dsimp only; repeat' split
  all_goals simp [State.setPort]

@[simp] theorem writeWhole_frame (p : PortId) (g r : Nat) (words : List MaskedWord) (s : State) :
    (writeWhole p g r words s).now = s.now ∧ (writeWhole p g r words s).jobs = s.jobs
      ∧ (writeWhole p g r words s).pi = s.pi ∧ (writeWhole p g r words s).pending = s.pending := by
  unfold writeWhole; dsimp only; repeat' split
  all_goals simp

/-! ### Answers of the owning blocks -/

@[simp] theorem accept_state (s : State) : (accept s).state = s := rfl

@[simp] theorem refuse_state (r : Reason) (s : State) : (refuse r s).state = s := rfl

@[simp] theorem grant_state (s : State) : (grant s).state = s := rfl

@[simp] theorem deny_state (r : Reason) (s : State) : (deny r s).state = s := rfl

@[simp] theorem enableShaft_frame (s : State) :
    ((enableShaft s).state).now = s.now ∧ ((enableShaft s).state).ocr = s.ocr ∧ ((enableShaft s).state).gcm = s.gcm
      ∧ ((enableShaft s).state).ghm = s.ghm ∧ ((enableShaft s).state).cw = s.cw ∧ ((enableShaft s).state).icd = s.icd
      ∧ ((enableShaft s).state).lb = s.lb ∧ ((enableShaft s).state).cc = s.cc ∧ ((enableShaft s).state).ms = s.ms
      ∧ ((enableShaft s).state).pi = s.pi ∧ ((enableShaft s).state).pub = s.pub
      ∧ ((enableShaft s).state).pending = s.pending := by
  unfold enableShaft; repeat' split
  all_goals simp

@[simp] theorem disableShaft_frame (s : State) :
    ((disableShaft s).state).now = s.now ∧ ((disableShaft s).state).ocr = s.ocr ∧ ((disableShaft s).state).gcm = s.gcm
      ∧ ((disableShaft s).state).ghm = s.ghm ∧ ((disableShaft s).state).cw = s.cw ∧ ((disableShaft s).state).icd = s.icd
      ∧ ((disableShaft s).state).lb = s.lb ∧ ((disableShaft s).state).cc = s.cc ∧ ((disableShaft s).state).ms = s.ms
      ∧ ((disableShaft s).state).pi = s.pi ∧ ((disableShaft s).state).pub = s.pub
      ∧ ((disableShaft s).state).pending = s.pending := by
  unfold disableShaft; repeat' split
  all_goals simp

@[simp] theorem enableGear_frame (s : State) :
    ((enableGear s).state).now = s.now ∧ ((enableGear s).state).sau = s.sau ∧ ((enableGear s).state).ocr = s.ocr
      ∧ ((enableGear s).state).gcm = s.gcm ∧ ((enableGear s).state).ghm = s.ghm ∧ ((enableGear s).state).cw = s.cw
      ∧ ((enableGear s).state).icd = s.icd ∧ ((enableGear s).state).lb = s.lb ∧ ((enableGear s).state).cc = s.cc
      ∧ ((enableGear s).state).ms = s.ms ∧ ((enableGear s).state).ej = s.ej ∧ ((enableGear s).state).rep = s.rep
      ∧ ((enableGear s).state).pi = s.pi ∧ ((enableGear s).state).pub = s.pub
      ∧ ((enableGear s).state).pending = s.pending := by
  unfold enableGear; repeat' split
  all_goals simp

@[simp] theorem stopGear_frame (s : State) :
    (stopGear s).now = s.now ∧ (stopGear s).jobs = s.jobs ∧ (stopGear s).sau = s.sau ∧ (stopGear s).ghm = s.ghm
      ∧ (stopGear s).icd = s.icd ∧ (stopGear s).cc = s.cc ∧ (stopGear s).ms = s.ms ∧ (stopGear s).pi = s.pi
      ∧ (stopGear s).pending = s.pending := by
  unfold stopGear; dsimp only; split <;> simp

@[simp] theorem disableGear_frame (s : State) :
    ((disableGear s).state).now = s.now ∧ ((disableGear s).state).sau = s.sau ∧ ((disableGear s).state).ghm = s.ghm
      ∧ ((disableGear s).state).icd = s.icd ∧ ((disableGear s).state).cc = s.cc ∧ ((disableGear s).state).ms = s.ms
      ∧ ((disableGear s).state).pi = s.pi ∧ ((disableGear s).state).pending = s.pending := by
  unfold disableGear; repeat' split
  all_goals simp

@[simp] theorem enableGrid_frame (s : State) :
    ((enableGrid s).state).now = s.now ∧ ((enableGrid s).state).sau = s.sau ∧ ((enableGrid s).state).ocr = s.ocr
      ∧ ((enableGrid s).state).gcm = s.gcm ∧ ((enableGrid s).state).cw = s.cw ∧ ((enableGrid s).state).icd = s.icd
      ∧ ((enableGrid s).state).lb = s.lb ∧ ((enableGrid s).state).cc = s.cc ∧ ((enableGrid s).state).ms = s.ms
      ∧ ((enableGrid s).state).ej = s.ej ∧ ((enableGrid s).state).rep = s.rep ∧ ((enableGrid s).state).pi = s.pi
      ∧ ((enableGrid s).state).pub = s.pub ∧ ((enableGrid s).state).pending = s.pending := by
  unfold enableGrid; repeat' split
  all_goals simp

@[simp] theorem disableGrid_frame (s : State) :
    ((disableGrid s).state).now = s.now ∧ ((disableGrid s).state).sau = s.sau ∧ ((disableGrid s).state).ocr = s.ocr
      ∧ ((disableGrid s).state).gcm = s.gcm ∧ ((disableGrid s).state).icd = s.icd ∧ ((disableGrid s).state).cc = s.cc
      ∧ ((disableGrid s).state).ms = s.ms ∧ ((disableGrid s).state).pi = s.pi
      ∧ ((disableGrid s).state).pending = s.pending := by
  unfold disableGrid; repeat' split
  all_goals simp

@[simp] theorem enableCoinc_frame (s : State) :
    ((enableCoinc s).state).now = s.now ∧ ((enableCoinc s).state).sau = s.sau ∧ ((enableCoinc s).state).ocr = s.ocr
      ∧ ((enableCoinc s).state).gcm = s.gcm ∧ ((enableCoinc s).state).ghm = s.ghm ∧ ((enableCoinc s).state).icd = s.icd
      ∧ ((enableCoinc s).state).cc = s.cc ∧ ((enableCoinc s).state).ms = s.ms ∧ ((enableCoinc s).state).pi = s.pi
      ∧ ((enableCoinc s).state).pending = s.pending := by
  unfold enableCoinc; repeat' split
  all_goals simp

@[simp] theorem disableCoinc_frame (s : State) :
    ((disableCoinc s).state).now = s.now ∧ ((disableCoinc s).state).sau = s.sau ∧ ((disableCoinc s).state).ocr = s.ocr
      ∧ ((disableCoinc s).state).gcm = s.gcm ∧ ((disableCoinc s).state).ghm = s.ghm
      ∧ ((disableCoinc s).state).icd = s.icd ∧ ((disableCoinc s).state).cc = s.cc ∧ ((disableCoinc s).state).ms = s.ms
      ∧ ((disableCoinc s).state).pi = s.pi ∧ ((disableCoinc s).state).pending = s.pending := by
  unfold disableCoinc; repeat' split
  all_goals simp

@[simp] theorem clearCoincidence_frame (s : State) :
    ((clearCoincidence s).state).now = s.now ∧ ((clearCoincidence s).state).jobs = s.jobs
      ∧ ((clearCoincidence s).state).sau = s.sau ∧ ((clearCoincidence s).state).ocr = s.ocr
      ∧ ((clearCoincidence s).state).gcm = s.gcm ∧ ((clearCoincidence s).state).ghm = s.ghm
      ∧ ((clearCoincidence s).state).icd = s.icd ∧ ((clearCoincidence s).state).lb = s.lb
      ∧ ((clearCoincidence s).state).cc = s.cc ∧ ((clearCoincidence s).state).ms = s.ms
      ∧ ((clearCoincidence s).state).pi = s.pi ∧ ((clearCoincidence s).state).pending = s.pending := by
  unfold clearCoincidence; repeat' split
  all_goals simp

@[simp] theorem enableIcing_frame (s : State) :
    ((enableIcing s).state).now = s.now ∧ ((enableIcing s).state).sau = s.sau ∧ ((enableIcing s).state).ocr = s.ocr
      ∧ ((enableIcing s).state).gcm = s.gcm ∧ ((enableIcing s).state).ghm = s.ghm ∧ ((enableIcing s).state).cw = s.cw
      ∧ ((enableIcing s).state).cc = s.cc ∧ ((enableIcing s).state).ms = s.ms ∧ ((enableIcing s).state).pi = s.pi
      ∧ ((enableIcing s).state).pending = s.pending := by
  unfold enableIcing; repeat' split
  all_goals simp

@[simp] theorem disableIcing_frame (s : State) :
    ((disableIcing s).state).now = s.now ∧ ((disableIcing s).state).sau = s.sau ∧ ((disableIcing s).state).ocr = s.ocr
      ∧ ((disableIcing s).state).gcm = s.gcm ∧ ((disableIcing s).state).ghm = s.ghm ∧ ((disableIcing s).state).cw = s.cw
      ∧ ((disableIcing s).state).cc = s.cc ∧ ((disableIcing s).state).ms = s.ms ∧ ((disableIcing s).state).pi = s.pi
      ∧ ((disableIcing s).state).pending = s.pending := by
  unfold disableIcing; repeat' split
  all_goals simp

@[simp] theorem icingReport_frame (s : State) :
    ((icingReport s).state).now = s.now ∧ ((icingReport s).state).jobs = s.jobs ∧ ((icingReport s).state).sau = s.sau
      ∧ ((icingReport s).state).ocr = s.ocr ∧ ((icingReport s).state).gcm = s.gcm ∧ ((icingReport s).state).ghm = s.ghm
      ∧ ((icingReport s).state).cw = s.cw ∧ ((icingReport s).state).cc = s.cc ∧ ((icingReport s).state).ms = s.ms
      ∧ ((icingReport s).state).pi = s.pi ∧ ((icingReport s).state).pending = s.pending := by
  unfold icingReport; repeat' split
  all_goals simp

@[simp] theorem icingRelease_frame (s : State) :
    ((icingRelease s).state).now = s.now ∧ ((icingRelease s).state).jobs = s.jobs ∧ ((icingRelease s).state).sau = s.sau
      ∧ ((icingRelease s).state).ocr = s.ocr ∧ ((icingRelease s).state).gcm = s.gcm
      ∧ ((icingRelease s).state).ghm = s.ghm ∧ ((icingRelease s).state).cw = s.cw ∧ ((icingRelease s).state).cc = s.cc
      ∧ ((icingRelease s).state).ms = s.ms ∧ ((icingRelease s).state).pi = s.pi
      ∧ ((icingRelease s).state).pending = s.pending := by
  unfold icingRelease; repeat' split
  all_goals simp

@[simp] theorem learnBaseline_frame (s : State) :
    ((learnBaseline s).state).now = s.now ∧ ((learnBaseline s).state).jobs = s.jobs
      ∧ ((learnBaseline s).state).sau = s.sau ∧ ((learnBaseline s).state).ocr = s.ocr
      ∧ ((learnBaseline s).state).gcm = s.gcm ∧ ((learnBaseline s).state).ghm = s.ghm
      ∧ ((learnBaseline s).state).cw = s.cw ∧ ((learnBaseline s).state).cc = s.cc ∧ ((learnBaseline s).state).ms = s.ms
      ∧ ((learnBaseline s).state).pi = s.pi ∧ ((learnBaseline s).state).pending = s.pending := by
  unfold learnBaseline; repeat' split
  all_goals simp

@[simp] theorem restartRequest_frame (s : State) :
    ((restartRequest s).state).now = s.now ∧ ((restartRequest s).state).jobs = s.jobs
      ∧ ((restartRequest s).state).sau = s.sau ∧ ((restartRequest s).state).ocr = s.ocr
      ∧ ((restartRequest s).state).gcm = s.gcm ∧ ((restartRequest s).state).ghm = s.ghm
      ∧ ((restartRequest s).state).cw = s.cw ∧ ((restartRequest s).state).icd = s.icd
      ∧ ((restartRequest s).state).lb = s.lb ∧ ((restartRequest s).state).cc = s.cc
      ∧ ((restartRequest s).state).ms = s.ms ∧ ((restartRequest s).state).ej = s.ej
      ∧ ((restartRequest s).state).rep = s.rep ∧ ((restartRequest s).state).pi = s.pi
      ∧ ((restartRequest s).state).pub = s.pub ∧ ((restartRequest s).state).pending = s.pending := by
  unfold restartRequest; repeat' split
  all_goals simp

@[simp] theorem ackCap_frame (g : Nat) (s : State) :
    ((ackCap g s).state).now = s.now ∧ ((ackCap g s).state).jobs = s.jobs ∧ ((ackCap g s).state).sau = s.sau
      ∧ ((ackCap g s).state).ocr = s.ocr ∧ ((ackCap g s).state).gcm = s.gcm ∧ ((ackCap g s).state).ghm = s.ghm
      ∧ ((ackCap g s).state).cw = s.cw ∧ ((ackCap g s).state).icd = s.icd ∧ ((ackCap g s).state).cc = s.cc
      ∧ ((ackCap g s).state).ms = s.ms ∧ ((ackCap g s).state).pi = s.pi ∧ ((ackCap g s).state).pending = s.pending := by
  unfold ackCap; repeat' split
  all_goals simp

@[simp] theorem clockArm_frame (mode : Nat) (s : State) :
    ((clockArm mode s).state).now = s.now ∧ ((clockArm mode s).state).jobs = s.jobs
      ∧ ((clockArm mode s).state).sau = s.sau ∧ ((clockArm mode s).state).ocr = s.ocr
      ∧ ((clockArm mode s).state).gcm = s.gcm ∧ ((clockArm mode s).state).ghm = s.ghm
      ∧ ((clockArm mode s).state).cw = s.cw ∧ ((clockArm mode s).state).icd = s.icd
      ∧ ((clockArm mode s).state).lb = s.lb ∧ ((clockArm mode s).state).ms = s.ms ∧ ((clockArm mode s).state).pi = s.pi
      ∧ ((clockArm mode s).state).pub = s.pub ∧ ((clockArm mode s).state).pending = s.pending := by
  unfold clockArm; repeat' split
  all_goals simp

@[simp] theorem counterRestore_frame (a : Nat) (s : State) :
    ((counterRestore a s).state).now = s.now ∧ ((counterRestore a s).state).jobs = s.jobs
      ∧ ((counterRestore a s).state).sau = s.sau ∧ ((counterRestore a s).state).ocr = s.ocr
      ∧ ((counterRestore a s).state).gcm = s.gcm ∧ ((counterRestore a s).state).ghm = s.ghm
      ∧ ((counterRestore a s).state).cw = s.cw ∧ ((counterRestore a s).state).icd = s.icd
      ∧ ((counterRestore a s).state).lb = s.lb ∧ ((counterRestore a s).state).ms = s.ms
      ∧ ((counterRestore a s).state).pi = s.pi ∧ ((counterRestore a s).state).pub = s.pub
      ∧ ((counterRestore a s).state).pending = s.pending := by
  unfold counterRestore; dsimp only; repeat' split
  all_goals simp

@[simp] theorem setPart_frame (n : Nat) (y : ItemPart) (s : State) :
    (setPart n y s).now = s.now ∧ (setPart n y s).jobs = s.jobs ∧ (setPart n y s).sau = s.sau
      ∧ (setPart n y s).ocr = s.ocr ∧ (setPart n y s).gcm = s.gcm ∧ (setPart n y s).ghm = s.ghm
      ∧ (setPart n y s).cw = s.cw ∧ (setPart n y s).icd = s.icd ∧ (setPart n y s).lb = s.lb ∧ (setPart n y s).cc = s.cc
      ∧ (setPart n y s).ej = s.ej ∧ (setPart n y s).rep = s.rep ∧ (setPart n y s).pi = s.pi
      ∧ (setPart n y s).pub = s.pub ∧ (setPart n y s).pending = s.pending := by
  simp [setPart]

@[simp] theorem finishItem_frame (n : Nat) (y : ItemPart) (s : State) :
    (finishItem n y s).now = s.now ∧ (finishItem n y s).jobs = s.jobs ∧ (finishItem n y s).sau = s.sau
      ∧ (finishItem n y s).ocr = s.ocr ∧ (finishItem n y s).gcm = s.gcm ∧ (finishItem n y s).ghm = s.ghm
      ∧ (finishItem n y s).cw = s.cw ∧ (finishItem n y s).icd = s.icd ∧ (finishItem n y s).lb = s.lb
      ∧ (finishItem n y s).cc = s.cc ∧ (finishItem n y s).pi = s.pi ∧ (finishItem n y s).pub = s.pub
      ∧ (finishItem n y s).pending = s.pending := by
  simp [finishItem]

@[simp] theorem postponeItem_frame (n : Nat) (y : ItemPart) (s : State) :
    (postponeItem n y s).now = s.now ∧ (postponeItem n y s).jobs = s.jobs ∧ (postponeItem n y s).sau = s.sau
      ∧ (postponeItem n y s).ocr = s.ocr ∧ (postponeItem n y s).gcm = s.gcm ∧ (postponeItem n y s).ghm = s.ghm
      ∧ (postponeItem n y s).cw = s.cw ∧ (postponeItem n y s).icd = s.icd ∧ (postponeItem n y s).lb = s.lb
      ∧ (postponeItem n y s).cc = s.cc ∧ (postponeItem n y s).pi = s.pi ∧ (postponeItem n y s).pub = s.pub
      ∧ (postponeItem n y s).pending = s.pending := by
  simp [postponeItem]

@[simp] theorem itemDone_frame (n : Nat) (s : State) :
    ((itemDone n s).state).now = s.now ∧ ((itemDone n s).state).jobs = s.jobs ∧ ((itemDone n s).state).sau = s.sau
      ∧ ((itemDone n s).state).ocr = s.ocr ∧ ((itemDone n s).state).gcm = s.gcm ∧ ((itemDone n s).state).ghm = s.ghm
      ∧ ((itemDone n s).state).cw = s.cw ∧ ((itemDone n s).state).icd = s.icd ∧ ((itemDone n s).state).cc = s.cc
      ∧ ((itemDone n s).state).pi = s.pi ∧ ((itemDone n s).state).pending = s.pending := by
  unfold itemDone; repeat' split
  all_goals simp

@[simp] theorem itemDefer_frame (n : Nat) (s : State) :
    ((itemDefer n s).state).now = s.now ∧ ((itemDefer n s).state).jobs = s.jobs ∧ ((itemDefer n s).state).sau = s.sau
      ∧ ((itemDefer n s).state).ocr = s.ocr ∧ ((itemDefer n s).state).gcm = s.gcm ∧ ((itemDefer n s).state).ghm = s.ghm
      ∧ ((itemDefer n s).state).cw = s.cw ∧ ((itemDefer n s).state).icd = s.icd ∧ ((itemDefer n s).state).cc = s.cc
      ∧ ((itemDefer n s).state).pi = s.pi ∧ ((itemDefer n s).state).pending = s.pending := by
  unfold itemDefer; dsimp only; repeat' split
  all_goals simp

@[simp] theorem enableMaint_frame (s : State) :
    ((enableMaint s).state).now = s.now ∧ ((enableMaint s).state).sau = s.sau ∧ ((enableMaint s).state).ocr = s.ocr
      ∧ ((enableMaint s).state).gcm = s.gcm ∧ ((enableMaint s).state).ghm = s.ghm ∧ ((enableMaint s).state).cw = s.cw
      ∧ ((enableMaint s).state).icd = s.icd ∧ ((enableMaint s).state).cc = s.cc ∧ ((enableMaint s).state).pi = s.pi
      ∧ ((enableMaint s).state).pending = s.pending := by
  unfold enableMaint; repeat' split
  all_goals simp

@[simp] theorem stopMaint_frame (s : State) :
    (stopMaint s).now = s.now ∧ (stopMaint s).sau = s.sau ∧ (stopMaint s).ocr = s.ocr ∧ (stopMaint s).gcm = s.gcm
      ∧ (stopMaint s).ghm = s.ghm ∧ (stopMaint s).cw = s.cw ∧ (stopMaint s).icd = s.icd ∧ (stopMaint s).cc = s.cc
      ∧ (stopMaint s).pi = s.pi ∧ (stopMaint s).pending = s.pending := by
  simp [stopMaint]

@[simp] theorem disableMaint_frame (s : State) :
    ((disableMaint s).state).now = s.now ∧ ((disableMaint s).state).sau = s.sau ∧ ((disableMaint s).state).ocr = s.ocr
      ∧ ((disableMaint s).state).gcm = s.gcm ∧ ((disableMaint s).state).ghm = s.ghm ∧ ((disableMaint s).state).cw = s.cw
      ∧ ((disableMaint s).state).icd = s.icd ∧ ((disableMaint s).state).cc = s.cc ∧ ((disableMaint s).state).pi = s.pi
      ∧ ((disableMaint s).state).pending = s.pending := by
  unfold disableMaint; repeat' split
  all_goals simp

@[simp] theorem journalAdvance_frame (p : PortId) (n : Nat) (s : State) :
    ((journalAdvance p n s).state).now = s.now ∧ ((journalAdvance p n s).state).jobs = s.jobs
      ∧ ((journalAdvance p n s).state).sau = s.sau ∧ ((journalAdvance p n s).state).ocr = s.ocr
      ∧ ((journalAdvance p n s).state).gcm = s.gcm ∧ ((journalAdvance p n s).state).ghm = s.ghm
      ∧ ((journalAdvance p n s).state).cw = s.cw ∧ ((journalAdvance p n s).state).icd = s.icd
      ∧ ((journalAdvance p n s).state).lb = s.lb ∧ ((journalAdvance p n s).state).cc = s.cc
      ∧ ((journalAdvance p n s).state).ms = s.ms ∧ ((journalAdvance p n s).state).ej = s.ej
      ∧ ((journalAdvance p n s).state).pi = s.pi ∧ ((journalAdvance p n s).state).pub = s.pub
      ∧ ((journalAdvance p n s).state).pending = s.pending := by
  simp [journalAdvance, State.setRepPort]

@[simp] theorem attnMask_frame (p : PortId) (arg : Word) (s : State) :
    ((attnMask p arg s).state).now = s.now ∧ ((attnMask p arg s).state).jobs = s.jobs
      ∧ ((attnMask p arg s).state).sau = s.sau ∧ ((attnMask p arg s).state).ocr = s.ocr
      ∧ ((attnMask p arg s).state).gcm = s.gcm ∧ ((attnMask p arg s).state).ghm = s.ghm
      ∧ ((attnMask p arg s).state).cw = s.cw ∧ ((attnMask p arg s).state).icd = s.icd
      ∧ ((attnMask p arg s).state).lb = s.lb ∧ ((attnMask p arg s).state).cc = s.cc
      ∧ ((attnMask p arg s).state).ms = s.ms ∧ ((attnMask p arg s).state).ej = s.ej
      ∧ ((attnMask p arg s).state).pi = s.pi ∧ ((attnMask p arg s).state).pub = s.pub
      ∧ ((attnMask p arg s).state).pending = s.pending := by
  unfold attnMask; split <;> simp [State.setRepPort]

/-! ### Control words and resets -/

@[simp] theorem takeCommandWord_frame (p : PortId) (w : Word) (s : State) :
    (takeCommandWord p w s).now = s.now ∧ (takeCommandWord p w s).jobs = s.jobs ∧ (takeCommandWord p w s).sau = s.sau
      ∧ (takeCommandWord p w s).ocr = s.ocr ∧ (takeCommandWord p w s).gcm = s.gcm ∧ (takeCommandWord p w s).ghm = s.ghm
      ∧ (takeCommandWord p w s).cw = s.cw ∧ (takeCommandWord p w s).icd = s.icd ∧ (takeCommandWord p w s).lb = s.lb
      ∧ (takeCommandWord p w s).cc = s.cc ∧ (takeCommandWord p w s).ms = s.ms ∧ (takeCommandWord p w s).ej = s.ej
      ∧ (takeCommandWord p w s).rep = s.rep ∧ (takeCommandWord p w s).pub = s.pub
      ∧ (takeCommandWord p w s).pending = s.pending := by
  unfold takeCommandWord; dsimp only; repeat' split
  all_goals simp [State.setPort]

@[simp] theorem writeResult_frame (p : PortId) (raw arg : Word) (r : Reply) :
    (writeResult p raw arg r).now = r.state.now ∧ (writeResult p raw arg r).jobs = r.state.jobs
      ∧ (writeResult p raw arg r).sau = r.state.sau ∧ (writeResult p raw arg r).ocr = r.state.ocr
      ∧ (writeResult p raw arg r).gcm = r.state.gcm ∧ (writeResult p raw arg r).ghm = r.state.ghm
      ∧ (writeResult p raw arg r).cw = r.state.cw ∧ (writeResult p raw arg r).icd = r.state.icd
      ∧ (writeResult p raw arg r).lb = r.state.lb ∧ (writeResult p raw arg r).cc = r.state.cc
      ∧ (writeResult p raw arg r).ms = r.state.ms ∧ (writeResult p raw arg r).ej = r.state.ej
      ∧ (writeResult p raw arg r).rep = r.state.rep ∧ (writeResult p raw arg r).pub = r.state.pub
      ∧ (writeResult p raw arg r).pending = r.state.pending := by
  simp [writeResult, State.setPort]

@[simp] theorem resetPort_frame (p : PortId) (s : State) :
    (resetPort p s).now = s.now ∧ (resetPort p s).jobs = s.jobs ∧ (resetPort p s).sau = s.sau
      ∧ (resetPort p s).ocr = s.ocr ∧ (resetPort p s).gcm = s.gcm ∧ (resetPort p s).ghm = s.ghm
      ∧ (resetPort p s).cw = s.cw ∧ (resetPort p s).icd = s.icd ∧ (resetPort p s).lb = s.lb ∧ (resetPort p s).cc = s.cc
      ∧ (resetPort p s).ms = s.ms ∧ (resetPort p s).ej = s.ej ∧ (resetPort p s).pub = s.pub
      ∧ (resetPort p s).pending = s.pending := by
  simp [resetPort, State.setPort, State.setRepPort]

end Sys2Proof.Machine
end

