-- ==== Sys2Proof/Laws/Board.lean ====
section
/-! SUPPORT. What a change of the board comes to (R121 to R124, R127, R128): the slots it changes, the least cap and the governing slot it
leaves. -/

namespace Sys2Proof.Machine

/-! ### Tables -/

theorem tget_eq {α : Type} [Inhabited α] (xs : List α) (n : Nat) (h : n < xs.length) : tget xs n = xs[n] := by
  simp [tget, List.getD, h]

theorem tget_mem {α : Type} [Inhabited α] (xs : List α) (n : Nat) (h : n < xs.length) : tget xs n ∈ xs := by
  rw [tget_eq xs n h]; exact List.getElem_mem h

@[simp] theorem tmod_length {α : Type} [Inhabited α] (xs : List α) (n : Nat) (f : α → α) : (tmod xs n f).length = xs.length := by
  simp [tmod]

theorem tget_tmod_self {α : Type} [Inhabited α] (xs : List α) (n : Nat) (f : α → α) (h : n < xs.length) :
    tget (tmod xs n f) n = f (tget xs n) := by
  simp [tmod, tget, List.getD, h]

theorem tget_tmod_other {α : Type} [Inhabited α] (xs : List α) {n m : Nat} (f : α → α) (h : m ≠ n) :
    tget (tmod xs n f) m = tget xs m := by
  simp [tmod, tget, List.getD, List.getElem?_set_ne (Ne.symm h)]

/-! ### The changes of one event (R121) -/

@[simp] theorem applyChanges_length (t : Nat) (u : Bool) (xs : List Slot) (cs : List SlotChange) :
    (applyChanges t u xs cs).length = xs.length := by
  unfold applyChanges
  induction cs generalizing xs with
  | nil => rfl
  | cons c cs ih => simpa using ih (tmod xs c.slot (fun x => x.apply t u c.act))

/-- A slot no change names keeps its content. -/
theorem applyChanges_other (t : Nat) (u : Bool) (xs : List Slot) (cs : List SlotChange) (k : Nat)
    (h : ∀ c ∈ cs, c.slot ≠ k) : tget (applyChanges t u xs cs) k = tget xs k := by
  unfold applyChanges
  induction cs generalizing xs with
  | nil => rfl
  | cons c cs ih =>
    simp only [List.mem_cons, forall_eq_or_imp] at h
    simp only [List.foldl_cons]
    rw [ih _ h.2, tget_tmod_other _ _ (Ne.symm h.1)]

/-- The board after a change: recomputed over the changed slots, or untouched when no change has an effect. -/
theorem boardChange_lb (cs : List SlotChange) (s : State) :
    (boardChange cs s).lb =
      if (cs.filter (SlotChange.effective s.lb.slots)).isEmpty then s.lb
      else s.lb.recompute (applyChanges s.cc.time (!s.cc.isSet) s.lb.slots (cs.filter (SlotChange.effective s.lb.slots))) := by
  unfold boardChange; dsimp only; split <;> simp

/-- A change touches no slot it does not name. -/
theorem boardChange_other (cs : List SlotChange) (s : State) (k : Nat) (h : ∀ c ∈ cs, c.slot ≠ k) :
    tget (boardChange cs s).lb.slots k = tget s.lb.slots k := by
  rw [boardChange_lb]; split
  · rfl
  · exact applyChanges_other _ _ _ _ _ (fun c hc => h c (List.mem_filter.1 hc).1)

@[simp] theorem boardChange_slots_length (cs : List SlotChange) (s : State) :
    (boardChange cs s).lb.slots.length = s.lb.slots.length := by
  rw [boardChange_lb]; split <;> simp [Lb.recompute]

/-- A change asks nothing of the hard-stop line, A_gen, A_cap and the timer's start value. -/
theorem boardChange_keeps (cs : List SlotChange) (s : State) :
    (boardChange cs s).lb.line = s.lb.line ∧ (boardChange cs s).lb.aGen = s.lb.aGen ∧ (boardChange cs s).lb.aCap = s.lb.aCap
      ∧ (boardChange cs s).lb.tAck = s.lb.tAck := by
  rw [boardChange_lb]; split <;> simp [Lb.recompute]

/-! ### The least cap (R122) -/

theorem minFold_le (xs : List Slot) (a : Nat) :
    xs.foldl (fun a x => if x.active then min a x.cap else a) a ≤ a
      ∧ ∀ x ∈ xs, x.active = true → xs.foldl (fun a x => if x.active then min a x.cap else a) a ≤ x.cap := by
  induction xs generalizing a with
  | nil => simp
  | cons x xs ih =>
    simp only [List.foldl_cons, List.mem_cons, forall_eq_or_imp]
    obtain ⟨h1, h2⟩ := ih (if x.active then min a x.cap else a)
    refine ⟨h1.trans ?_, fun hx => h1.trans ?_, h2⟩
    · split <;> omega
    · simp [hx]

theorem minFold_attained (xs : List Slot) (a : Nat) :
    xs.foldl (fun a x => if x.active then min a x.cap else a) a = a
      ∨ ∃ x ∈ xs, x.active = true ∧ x.cap = xs.foldl (fun a x => if x.active then min a x.cap else a) a := by
  induction xs generalizing a with
  | nil => simp
  | cons x xs ih =>
    simp only [List.foldl_cons, List.mem_cons]
    rcases ih (if x.active then min a x.cap else a) with h | ⟨y, hy, ha, hc⟩
    · rw [h]
      by_cases hx : x.active = true
      · rcases Nat.le_total a x.cap with hl | hl
        · left; simp [hx, hl]
        · right; exact ⟨x, .inl rfl, hx, by simp [hx, hl]⟩
      · left; simp [hx]
    · right; exact ⟨y, .inr hy, ha, hc⟩

/-- No active slot has a cap below the effective cap. -/
theorem effectiveCap_le {xs : List Slot} {x : Slot} (h : x ∈ xs) (ha : x.active = true) : effectiveCap xs ≤ x.cap :=
  (minFold_le xs 100).2 x h ha

/-- The effective cap is 100 or the cap of an active slot. -/
theorem effectiveCap_attained (xs : List Slot) :
    effectiveCap xs = 100 ∨ ∃ x ∈ xs, x.active = true ∧ x.cap = effectiveCap xs := minFold_attained xs 100

/-- What the search for the governing slot finds: the first active slot of that cap, if there is one. -/
theorem governingFrom_spec (cap n : Nat) (xs : List Slot) :
    match governingFrom cap n xs with
    | none => ∀ x ∈ xs, x.active = true → x.cap ≠ cap
    | some i => n ≤ i ∧ i - n < xs.length ∧ (tget xs (i - n)).active = true ∧ (tget xs (i - n)).cap = cap
        ∧ ∀ j, j < i - n → (tget xs j).active = true → (tget xs j).cap ≠ cap := by
  induction xs generalizing n with
  | nil => simp [governingFrom]
  | cons x xs ih =>
    unfold governingFrom
    by_cases hx : (x.active && decide (x.cap = cap)) = true
    · simp only [hx, if_true]
      simp only [Bool.and_eq_true, decide_eq_true_eq] at hx
      simp [tget, hx]
    · simp only [hx, if_false, Bool.false_eq_true]
      have h := ih (n + 1)
      simp only [Bool.and_eq_true, decide_eq_true_eq, not_and] at hx
      split
      · rename_i hg; rw [hg] at h
        simpa using ⟨hx, h⟩
      · rename_i i hg; rw [hg] at h
        obtain ⟨h1, h2, h3, h4, h5⟩ := h
        obtain ⟨k, rfl⟩ : ∃ k, i = n + 1 + k := ⟨i - (n + 1), by omega⟩
        have e1 : n + 1 + k - (n + 1) = k := by omega
        have e2 : n + 1 + k - n = k + 1 := by omega
        rw [e1] at h2 h3 h4 h5; rw [e2]
        have tc : ∀ m, tget (x :: xs) (m + 1) = tget xs m := fun m => by simp [tget]
        refine ⟨by omega, by simpa using h2, by rw [tc]; exact h3, by rw [tc]; exact h4, ?_⟩
        intro j hj ha
        cases j with
        | zero => simpa [tget] using hx (by simpa [tget] using ha)
        | succ j => rw [tc] at ha ⊢; exact h5 j (by omega) ha


end Sys2Proof.Machine
end

