-- ==== Sys2Proof/Laws/Report.lean ====
section
/-! SUPPORT. What reporting does (chapter 10): flags that are set stay set, an appended entry is the newest one, and a journal that keeps
its form keeps it when an entry is appended. -/

namespace Sys2Proof.Machine

/-! ### Flags (R175) -/

/-- Setting a flag sets it and leaves every other flag as it was. -/
theorem RepPort.hasFlag_setFlag (r : RepPort) (f g : Flag) :
    (r.setFlag f).hasFlag g = (decide (g = f) || r.hasFlag g) := by
  cases f <;> cases g <;> simp [RepPort.setFlag, RepPort.hasFlag]

theorem State.raise_hasFlag (s : State) (f g : Flag) (p : PortId) :
    ((s.raise f).rep.get p).hasFlag g = (decide (g = f) || (s.rep.get p).hasFlag g) := by
  simp [State.raise, RepPort.hasFlag_setFlag]

@[simp] theorem State.raise_self (s : State) (f : Flag) (p : PortId) : ((s.raise f).rep.get p).hasFlag f = true := by
  simp [State.raise_hasFlag]

theorem State.raise_keeps (s : State) (f g : Flag) (p : PortId) (h : (s.rep.get p).hasFlag g = true) :
    ((s.raise f).rep.get p).hasFlag g = true := by
  simp [State.raise_hasFlag, h]

theorem State.raiseIf_keeps (s : State) (b : Bool) (f g : Flag) (p : PortId) (h : (s.rep.get p).hasFlag g = true) :
    ((s.raiseIf b f).rep.get p).hasFlag g = true := by
  unfold State.raiseIf; split
  · exact s.raise_keeps f g p h
  · exact h

@[simp] theorem RepPort.passOver_hasFlag (r : RepPort) (l o : Nat) (g : Flag) : (r.passOver l o).hasFlag g = r.hasFlag g := by
  unfold RepPort.passOver; split <;> cases g <;> rfl

@[simp] theorem State.appendStamped_hasFlag (s : State) (t : Nat) (u : Bool) (b : EntryBody) (p : PortId) (g : Flag) :
    ((s.appendStamped t u b).rep.get p).hasFlag g = (s.rep.get p).hasFlag g := by
  unfold State.appendStamped; dsimp only; split <;> simp

@[simp] theorem State.journal_hasFlag (s : State) (b : EntryBody) (p : PortId) (g : Flag) :
    ((s.journal b).rep.get p).hasFlag g = (s.rep.get p).hasFlag g := by
  simp [State.journal]

@[simp] theorem State.journalAll_hasFlag (s : State) (bs : List EntryBody) (p : PortId) (g : Flag) :
    ((s.journalAll bs).rep.get p).hasFlag g = (s.rep.get p).hasFlag g := by
  unfold State.journalAll
  induction bs generalizing s with
  | nil => rfl
  | cons b bs ih => simpa using ih (s.journal b)

/-! ### What an entry leaves of a port (R172) -/

/-- Appending an entry moves of a port nothing but cursor and gap count. -/
theorem State.appendStamped_port (s : State) (t : Nat) (u : Bool) (b : EntryBody) (p : PortId) :
    ∃ c g, (s.appendStamped t u b).rep.get p = { s.rep.get p with cursor := c, gap := g } := by
  unfold State.appendStamped; dsimp only; split
  · exact ⟨_, _, rfl⟩
  · simp only [State.setRep_rep, Trio.get_map]
    unfold RepPort.passOver; split <;> exact ⟨_, _, rfl⟩

/-- An entry moves no port's COINC latch. -/
@[simp] theorem State.journal_latch (s : State) (b : EntryBody) (p : PortId) :
    ((s.journal b).rep.get p).latch = (s.rep.get p).latch := by
  obtain ⟨c, g, h⟩ := s.appendStamped_port s.cc.time (!s.cc.isSet) b p
  simp [State.journal, h]

@[simp] theorem State.journalAll_latch (s : State) (bs : List EntryBody) (p : PortId) :
    ((s.journalAll bs).rep.get p).latch = (s.rep.get p).latch := by
  unfold State.journalAll
  induction bs generalizing s with
  | nil => rfl
  | cons b bs ih => simpa using ih (s.journal b)

/-! ### The newest entry (R171, R172) -/

/-- The entry an event makes of its body. -/
def State.entryOf (s : State) (b : EntryBody) : Entry :=
  ⟨s.ej.next, s.cc.time, !s.cc.isSet, b.source, b.inst, b.kind, b.fromState, b.toState, journalValue b.value⟩

/-- The journal after an entry: the ring as it was, less its oldest entry when it was full, with the new entry at its end; the next sequence
number is one further. -/
theorem State.journal_ej (s : State) (b : EntryBody) :
    (s.journal b).ej =
      ⟨(if s.ej.ring.length < 256 then s.ej.ring else s.ej.ring.tail) ++ [s.entryOf b], (s.ej.next + 1) % 4294967296⟩ := by
  unfold State.journal State.appendStamped State.entryOf ringSize seqModulus; dsimp only
  split <;> simp_all

theorem State.journal_mem_self (s : State) (b : EntryBody) : s.entryOf b ∈ (s.journal b).ej.ring := by
  simp [State.journal_ej]

/-- An entry that is not the oldest of a full ring outlives an append, one place further from the end. -/
theorem State.journal_last (s : State) (b : EntryBody) (e : Entry) (k : Nat) (hk : k < 255)
    (h : s.ej.ring[s.ej.ring.length - 1 - k]? = some e) (hl : k < s.ej.ring.length) :
    (s.journal b).ej.ring[(s.journal b).ej.ring.length - 1 - (k + 1)]? = some e ∧
      k + 1 < (s.journal b).ej.ring.length := by
  rw [State.journal_ej]
  split
  · refine ⟨?_, by simp; omega⟩
    have hi : s.ej.ring.length + 1 - 1 - (k + 1) = s.ej.ring.length - 1 - k := by omega
    simp only [List.length_append, List.length_singleton, hi]
    rw [List.getElem?_append_left (by omega)]; exact h
  · refine ⟨?_, by simp; omega⟩
    have hi : s.ej.ring.tail.length + 1 - 1 - (k + 1) + 1 = s.ej.ring.length - 1 - k := by simp; omega
    simp only [List.length_append, List.length_singleton]
    rw [List.getElem?_append_left (by simp; omega), List.getElem?_tail, hi]
    exact h

/-! ### A journal in form (R170) -/

/-- The pending count of a port whose cursor lies in range is the distance to the next sequence number. -/
theorem pendingCount_lt (e : Ej) (r : RepPort) : pendingCount e r < 4294967296 := Nat.mod_lt _ (by decide)

end Sys2Proof.Machine
end

