-- ==== Sys2Proof/Laws/Taking.lean ====
section
/-! SUPPORT. When an edge and a control word are taken, and what taking them comes to: one lemma for each of the shared operations
`onEdge`, `takeControl`, `giveCommand` and `writeWhole`. -/

namespace Sys2Proof.Machine

/-! ### Edges (R3) -/

theorem edgeAccepted_iff (l : SauLine) (s : State) : edgeAccepted l s = true ↔ ¬Deaf l s ∧ ¬HeldOff l s := by
  unfold edgeAccepted Deaf HeldOff ShaftSide.deaf EdgeLine.heldOff
  cases h : (s.sau.line l).last
  · simp
  · simp; tauto

/-- An edge that is taken gives its line level and time, and is handed on. -/
theorem onEdge_taken {l : SauLine} {level : Bool} {s : State} (h : EdgeTaken l level s) (f : State → State) :
    onEdge l level f s = f (s.setSau (s.seen l level)) := by
  obtain ⟨a, b, c⟩ := h
  have h := (edgeAccepted_iff l s).2 ⟨a, b⟩
  have h' := h
  unfold edgeAccepted at h'
  simp only [Bool.and_eq_true, Bool.not_eq_true'] at h'
  simp [onEdge, edgeChanges, h, c, State.seen, Sau.takeEdge, h']

/-! ### Control words (R193, R194; log entry 4) -/

theorem controlRaw_takes {p : PortId} {canonical raw : Word} {ok : Word → Bool} {s : State} (h : PortTakes p canonical raw s)
    (hok : ok raw = true) : controlRaw (s.pi.get p) canonical ok = some raw := by
  obtain ⟨hh, ⟨h1, h2, rfl⟩ | ⟨h1, h2, x, h3, h4, h5⟩⟩ := h
  · simp [controlRaw, hh, h1, h2]
  · simp [controlRaw, hh, h1, h2, h3, h4, h5, hok]

/-- A control word that the port can take writes the answer of its body into the result record. -/
theorem takeControl_takes {p : PortId} {canonical raw : Word} {ok : Word → Bool} {s : State} (arg : Word) (body : State → Reply)
    (h : PortTakes p canonical raw s) (hok : ok raw = true) :
    takeControl p canonical ok arg body s = writeResult p raw arg (body s) := by
  simp [takeControl, controlRaw_takes h hok]

/-- A command that is delivered is answered by its block when the port's role may give it, and NOT_PERMITTED otherwise. -/
theorem giveCommand_delivers {c : Command} {p : PortId} {raw : Word} {s : State} (arg : Word) (body : State → Reply)
    (h : Delivers p c raw s) :
    giveCommand c p arg body s =
      writeResult p raw arg (if c.allows (s.pi.get p).role then body s else refuse .notPermitted s) := by
  unfold giveCommand
  rw [takeControl_takes arg _ h.1 (by simpa using h.2)]
  rfl

/-- An answer over a state whose port is as it was is the answer of `State.answered`. -/
theorem writeResult_eq_answered (p : PortId) (raw arg : Word) (r : Reply) :
    writeResult p raw arg r = r.state.answered p raw arg r.answer r.reason := rfl

/-! ### Whole writes (R189, R190; log entry 3) -/

/-- A whole write of words that the role may write is the completion of its buffer. -/
theorem writeWhole_ready {p : PortId} {g r : Nat} {ws : List MaskedWord} {s : State} (h : PortReady p s) (hw : ws ≠ [])
    (hr : r < recordCount g) (hm : mayWrite (s.pi.get p).role p g r = true) :
    writeWhole p g r ws s = completeWrite p g (wholeBuffer r (recordLength g r) ws) s := by
  simp [writeWhole, h.1, h.2, hw, hr, hm]

end Sys2Proof.Machine
end

