-- ==== Sys2Proof/WellFormed.lean ====
section
/-! DEFINITION. Well-formed commands: the operands the rows of the table admit. -/

namespace Sys2Proof

/-- The groups that publish (R186). -/
def publishGroups : List Nat := [4, 6, 7, 8, 10, 13]

/-- What the row of a command asks of its operands: a line is 0..23 and an item 0..31 (00_scope.md, Capacities); PUBLISH_COMPLETE names a
group that publishes (R186); UNKNOWN_COMMAND carries a word that names no command, INVALID_JOB_CODE a code that names no job (R193). -/
def Instr.wellFormed : Instr → Bool
  | .lineDefinitionWrite _ _ line _ => decide (line < 24)
  | .itemDefinitionWrite _ _ item _ => decide (item < 32)
  | .publishComplete _ group => publishGroups.contains group
  | .unknownCommand _ _ command _ => decide (Machine.commandOfWord command = .unknown)
  | .invalidJobCode _ _ _ job _ => decide (Machine.jobOfCode job.toNat = none)
  | .encoderEdge _ _ _ => true
  | .indexEdge _ _ => true
  | .toothEdge _ _ => true
  | .lsIndexEdge _ _ => true
  | .standstillTimerExpiry _ => true
  | .sampleSet _ _ => true
  | .linkTimerExpiry => true
  | .gzxEdge _ _ => true
  | .lossTimerExpiry => true
  | .strobe => true
  | .gridFrame _ _ => true
  | .ppsEdge _ _ _ => true
  | .secondTick _ => true
  | .clockSetDeadline => true
  | .ackTimerExpiry _ => true
  | .thawTimerExpiry _ => true
  | .operatingRecordStale _ => true
  | .intervalClose _ => true
  | .transactionStart _ _ => true
  | .transactionHeader _ _ _ => true
  | .readDataWord _ _ => true
  | .writeDataWord _ _ _ => true
  | .recordWrite _ _ => true
  | .operatingArrival _ _ _ => true
  | .statusWrite _ _ _ => true
  | .shaftConfigurationWrite _ _ _ => true
  | .gridConfigurationWrite _ _ _ => true
  | .watchConfigurationWrite _ _ _ => true
  | .icingConfigurationWrite _ _ _ => true
  | .enableShaft _ _ _ => true
  | .disableShaft _ _ _ => true
  | .enableGear _ _ _ => true
  | .disableGear _ _ _ => true
  | .enableGrid _ _ _ => true
  | .disableGrid _ _ _ => true
  | .enableCoinc _ _ _ => true
  | .disableCoinc _ _ _ => true
  | .clearCoincidence _ _ _ => true
  | .enableIcing _ _ _ => true
  | .disableIcing _ _ _ => true
  | .icingReport _ _ _ => true
  | .icingRelease _ _ _ => true
  | .learnBaseline _ _ _ => true
  | .restartRequest _ _ _ => true
  | .ackCap _ _ _ => true
  | .clockArm _ _ _ => true
  | .counterRestore _ _ _ => true
  | .itemDone _ _ _ => true
  | .itemDefer _ _ _ => true
  | .enableMaint _ _ _ => true
  | .disableMaint _ _ _ => true
  | .journalAdvance _ _ _ => true
  | .attnMask _ _ _ => true
  | .portReset _ _ => true
  | .partReset _ _ _ => true
  | .headerWord _ _ _ => true
  | .fillerWord _ _ _ => true
  | .commandWord _ _ _ => true
  | .portResetRelease _ _ => true

end Sys2Proof
end

