-- ==== Sys2Proof/Tests/Slice0.lean ====
section
/-! SUPPORT. Tests: one ill-formed command for each check of WellFormed; one or two steps for the commands, with the values of the spec's
own examples and worked sequences; and, for each statement with hypotheses, a state and operands that meet them. -/

namespace Sys2Proof.Tests

open Sys2Proof Sys2Proof.Machine

/-! ### Well-formed commands -/

theorem test_wf_line_24 : Instr.wellFormed (.lineDefinitionWrite 0 .p2 24 []) = false := by decide
theorem test_wf_line_23 : Instr.wellFormed (.lineDefinitionWrite 0 .p2 23 []) = true := by decide
theorem test_wf_item_32 : Instr.wellFormed (.itemDefinitionWrite 0 .p2 32 []) = false := by decide
theorem test_wf_publish_group_5 : Instr.wellFormed (.publishComplete 0 5) = false := by decide
theorem test_wf_unknown_known_word : Instr.wellFormed (.unknownCommand 0 .p0 0x2000 0) = false := by decide
theorem test_wf_unknown_free_word : Instr.wellFormed (.unknownCommand 0 .p0 0x4000 0) = true := by decide
theorem test_wf_job_code_6 : Instr.wellFormed (.invalidJobCode 0 .p0 true 6 0) = false := by decide
theorem test_wf_job_code_7 : Instr.wellFormed (.invalidJobCode 0 .p0 true 7 0) = true := by decide

/-! ### Small states -/

/-- The state a command leaves. -/
def after (c : Instr) (s : State) : State := match exec c s with | .next t => t | _ => s

/-- A side in a state, at a position, with REFERENCED and TIMED set. -/
def side (st : SideState) (position : Int) (counter : Nat) : ShaftSide :=
  { ShaftSide.initial with state := st, position := position, referenced := true, timed := true, counter := counter }

/-- The shaft unit at tick 1,000,000 with the SHAFT job enabled. -/
def shaft (hs ls : ShaftSide) : State :=
  { State.reset with
    now := 1000000
    jobs := { State.reset.jobs with shaft := true }
    sau := { Sau.initial with hs := hs, ls := ls, lz := ⟨false, false, none⟩ } }

/-- Both sides TRACKING in the middle of a turn. -/
def turning : State := shaft (side .tracking 100 500) (side .tracking 5 500)

/-- The same with the held level of B high. -/
def bHigh : State := { turning with sau := { turning.sau with lb := ⟨true, true, none⟩ } }

/-- The same with REVERSE set. -/
def reversed (s : State) : State := { s with sau := { s.sau with reverse := true } }

/-- Jobs by their order in R191. -/
def withJobs (s : State) (shaft gear grid coinc icing maint : Bool) : State :=
  { s with jobs := ⟨shaft, gear, grid, coinc, icing, maint⟩ }

/-- The flag in every copy, as data. -/
def everyCopy (f : Flag) (s : State) : Bool := s.rep.p0.hasFlag f && s.rep.p1.hasFlag f && s.rep.p2.hasFlag f

/-- The answer and reason of a port's result record. -/
def answerOf (p : PortId) (s : State) : Answer × Reason := ((s.pi.get p).result.answer, (s.pi.get p).result.reason)

/-! ### Shaft Angle Unit: 01_shaft_angle_and_speed.md, R4 to R17 and the worked sequence -/

theorem test_encoder_forward : (after (.encoderEdge 1 .a true) turning).sau.hs.position = 101 := by decide
theorem test_encoder_reverse :
    ((after (.encoderEdge 1 .a true) bHigh).sau.hs.position, (after (.encoderEdge 1 .a true) bHigh).sau.reverse)
      = (99, true) := by decide
theorem test_index_closes_period :
    let t := after (.indexEdge 0 true) (shaft (side .seeking 4096 1600000) (side .seeking 0 0))
    (t.sau.hs.state, t.sau.hs.lastPeriod, t.sau.hs.speed) = (.tracking, 1600000, 24000) := by decide
theorem test_index_slip :
    let t := after (.indexEdge 0 true) (shaft (side .tracking 4095 1598600) (side .seeking 0 0))
    (t.sau.hs.consecutive, t.sau.hs.counter, everyCopy .slip t) = (1, 0, true) := by decide
theorem test_tooth_angle : (after (.toothEdge 0 true) turning).sau.lastAngle = some (.ls, 5) := by decide
theorem test_ls_index_speed :
    (after (.lsIndexEdge 0 true) (shaft (side .tracking 0 0) (side .tracking 128 160000000))).sau.ls.speed = 3840 := by decide
theorem test_ratio_of_95_revolutions_fails : ratioMismatch 95 24909 = true ∧ ratioMismatch 97 24909 = false := by decide

/-- Worked sequence: the timer of the HS side expires at t 205,107,000. -/
def standing : State :=
  let s := shaft { side .tracking 17 0 with lastPeriod := 1598400, speed := 24024, standstill := some 205107000 } (side .seeking 0 0)
  { s with now := 5107000 }

theorem test_standstill :
    let t := after (.standstillTimerExpiry .hs) standing
    (t.now, t.sau.hs.state, t.sau.hs.lastPeriod, t.sau.hs.speed, t.sau.hs.timed) = (205107000, .standstill, 1598400, 0, false) := by
  decide
theorem test_enable_shaft :
    let t := after (.enableShaft 0 .p0 0) State.reset
    (t.sau.hs.state, t.sau.ls.state, t.jobs.shaft, answerOf .p0 t) = (.seeking, .seeking, true, (.accepted, .none)) := by decide
theorem test_enable_shaft_bad_config :
    let s := { State.reset with sau := { Sau.initial with config := { ShaftConfig.initial with eLines := 256, mode := .x1, dec := 4 } } }
    (after (.enableShaft 0 .p0 0) s).jobs.shaft = false ∧ answerOf .p0 (after (.enableShaft 0 .p0 0) s) = (.refused, .badConfig) := by
  decide
theorem test_disable_shaft :
    let t := after (.disableShaft 0 .p0 0) turning
    (t.sau.hs.state, t.sau.ls.state, t.jobs.shaft) = (.off, .off, false) := by decide

/-! ### Order Correlator and Gear Condition Monitor: chapters 2 and 3 -/

/-- A sample word with its correct parity. -/
def sampleWord (n : Nat) : LinkWord :=
  let w : Word := BitVec.ofNat 16 n
  ⟨w, (List.range 16).countP (fun k => w.getLsbD k) % 2 == 0⟩

def goodSet : List LinkWord := [sampleWord 412, sampleWord 1, sampleWord 2, sampleWord 3]

def linkAt (now dropped : Nat) (timer : Option Nat) (up : Bool) : State :=
  { State.reset with now := now, ocr := { Ocr.initial with link := ⟨up, none, timer, 5070, dropped, false, false⟩ } }

theorem test_sample_set_good :
    let t := after (.sampleSet 0 goodSet) (linkAt 100000 0 none true)
    (t.ocr.link.timer, t.ocr.link.good, t.ocr.link.latest.map (·.a0)) = (some 140000, 5071, some 412) := by decide
theorem test_sample_set_of_five :
    let t := after (.sampleSet 0 (sampleWord 1 :: goodSet)) (linkAt 101600 0 (some 140000) true)
    (t.ocr.link.timer, t.ocr.link.dropped, everyCopy .setDropped t) = (some 140000, 1, true) := by decide
theorem test_link_expiry :
    let t := after .linkTimerExpiry (linkAt 103200 1 (some 143200) true)
    (t.now, t.ocr.link.up, everyCopy .linkLost t, t.ej.ring.map (fun e => (e.kind, e.value)))
      = (143200, false, true, [(.partReset, 0), (.link, 1)]) := by decide
theorem test_phase_23 : (List.range 23).foldl (fun q _ => (q + phaseStep 368 512) % 65536) 0 = 2176 := by decide

/-- Line 3 of the worked sequence of chapter 3. -/
def line3 : LineDef := { LineDef.initial with
  enabled := true, alertOn := 800, alertOff := 700, dangerOn := 1200, dangerOff := 1000, alpha := 1, kp := 3, alertCap := 60, dangerCap := 0 }

theorem test_smoothing_seq_44 :
    let c := (Cond.mk .normal 230400 2 0 0 false 42).evaluate line3 1400 false 44
    (c.level, c.e, c.alert) = (.alert, 294400, 0) := by decide
theorem test_smoothing_seq_50 :
    let c := (Cond.mk .danger 164400 0 0 2 false 49).evaluate line3 400 false 50
    (c.level, c.e, c.eCode) = (.normal, 133400, 521) := by decide
theorem test_line_definition_clamps :
    let d := tget (after (.lineDefinitionWrite 0 .p2 7 (whole [0x8000, 16, 900, 950, 850, 880, 0x0300, 0x8C64, 0, 0])) State.reset).gcm.defs 7
    (d.alertOn, d.alertOff, d.dangerOn, d.dangerOff, d.kp, d.alertCap) = (900, 900, 900, 880, 1, 100) := by decide

/-- GEAR enabled with line 3 in ALERT on slot GL3. -/
def gearOn : State :=
  { withJobs turning true true false false false false with
    gcm := { Gcm.initial with defs := Gcm.initial.defs.set 3 line3, conds := Gcm.initial.conds.set 3 ⟨.alert, 294400, 0, 1, 0, false, 44⟩ }
    lb := { Lb.initial with slots := Lb.initial.slots.set 7 ⟨true, 60, .alert, 0, true⟩, cap := 60, gov := some 7, gen := 1, timer := some 10 } }

theorem test_enable_gear :
    answerOf .p2 (after (.enableGear 0 .p2 0) { gearOn with jobs := { gearOn.jobs with gear := false } }) = (.accepted, .none) := by decide
theorem test_disable_gear :
    let t := after (.disableGear 0 .p2 0) gearOn
    ((tget t.gcm.conds 3).level, (tget t.lb.slots 7).active, t.lb.cap, t.lb.timer) = (.unrated, false, 100, none) := by decide

/-! ### Grid Harmonic Monitor: chapter 4, worked sequence of the lock -/

def gridAt (now : Nat) (g : Ghm) : State :=
  { withJobs State.reset false false true false false false with now := now, ghm := g }

theorem test_gzx_locks :
    let t := after (.gzxEdge 0 true) (gridAt 2600050 { Ghm.initial with edgeRef := some 1800000, valid := 1 })
    (t.ghm.lock, t.ghm.held, t.ghm.gen.map (fun x => (x.base, x.r)), t.ghm.outstanding) = (.locked, 800050, some (6250, 50), some 0) := by
  decide
theorem test_gzx_ignored :
    (after (.gzxEdge 0 true) (gridAt 1050000 { Ghm.initial with edgeRef := some 1000000 })).ghm.ignored = 1 := by decide
theorem test_loss_unlocks :
    let t := after .lossTimerExpiry (gridAt 0 { Ghm.initial with loss := some 2000000, lock := .freqOut, edgeRef := some 0 })
    (t.ghm.lock, t.ghm.edgeRef, everyCopy .unlocked t) = (.unlocked, none, true) := by decide
theorem test_strobe_51 :
    let t := after .strobe (gridAt 0 { Ghm.initial with gen := some ⟨800050, 6250, 50, 50, some 312550⟩ })
    (t.now, t.ghm.outstanding, t.ghm.gen.map (·.due)) = (312550, some 50, some (some 318800)) := by decide
theorem test_grid_frame_late :
    let t := after (.gridFrame 0 (goodSet ++ [sampleWord 4, sampleWord 5])) (gridAt 0 Ghm.initial)
    (t.ghm.droppedFrames, everyCopy .gridFrameDropped t) = (1, true) := by decide
theorem test_grid_frame_taken :
    let t := after (.gridFrame 0 (goodSet ++ [sampleWord 4, sampleWord 65535])) (gridAt 0 { Ghm.initial with outstanding := some 127 })
    (t.ghm.samples, t.ghm.outstanding) = ([412, 1, 2, 3, 4, -1], none) := by decide

/-- Slots 3 and 4 with h 5 and 7, as in the example of ENABLE GRID. -/
def gridConfigured : Ghm := { Ghm.initial with config := { GridConfig.initial with h := [0, 0, 5, 7] ++ List.replicate 11 0 } }

theorem test_enable_grid :
    let s := { State.reset with ghm := gridConfigured }
    (after (.enableGrid 0 .p1 0) s).jobs.grid = true ∧ answerOf .p1 (after (.enableGrid 0 .p1 0) State.reset) = (.refused, .badConfig) := by
  decide
theorem test_disable_grid :
    let t := after (.disableGrid 0 .p1 0) (gridAt 0 { gridConfigured with lock := .locked, exceeding := true })
    (t.ghm.lock, t.ghm.exceeding, t.jobs.grid) = (.unlocked, false, false) := by decide

/-! ### Coincidence Watch: chapter 5 -/

def watched : Cw :=
  { Cw.initial with
    config := { Cw.initial.config with m := [1, 0, 0, 0, 0, 0, 0, 0], coincCap := 50 }
    liveLines := [9], liveEntries := [1], latchedLines := [5, 9], latchedEntries := [0, 1], firstPair := some ⟨5, 0, 8794, 8800⟩ }

def coincOn : State :=
  { withJobs turning true true true true false false with
    cw := watched
    lb := { Lb.initial with slots := Lb.initial.slots.set 2 ⟨true, 50, .live, 0, true⟩, cap := 50, gov := some 2, gen := 1, timer := some 10 } }

theorem test_clear_coincidence :
    let t := after (.clearCoincidence 0 .p0 0) coincOn
    (t.cw.latchedLines, t.cw.latchedEntries, t.cw.firstPair, t.lb.cap) = ([9], [1], some ⟨5, 0, 8794, 8800⟩, 50) := by decide
theorem test_disable_coinc :
    let t := after (.disableCoinc 0 .p0 0) coincOn
    (t.cw.latchedLines, (tget t.lb.slots 2).active, t.lb.cap) = ([], false, 100) := by decide
theorem test_enable_coinc :
    (after (.enableCoinc 0 .p0 0) { coincOn with jobs := { coincOn.jobs with coinc := false } }).cw.count = 0 := by decide
theorem test_mechanical_frequency : 352 * 23985 / 960 = 8794 := by decide

/-! ### Icing Detector: chapter 6 -/

/-- Slot ICING active with cap 0. -/
def icingCap (code : SlotCode) : Lb :=
  { Lb.initial with slots := Lb.initial.slots.set 0 ⟨true, 0, code, 0, true⟩, cap := 0, gov := some 0, gen := 1, timer := some 10 }

def icingIn (st : IcingState) : State :=
  { withJobs State.reset false false false false true false with
    icd := { Icd.initial with state := st, curve := List.replicate 32 100, suspect := 1 }
    lb :=
      match st with
      | .iced => icingCap .iced
      | .thaw => icingCap .thaw
      | _ => Lb.initial }

theorem test_icing_report :
    let t := after (.icingReport 0 .p0 0) (icingIn .watch)
    (t.icd.state, t.icd.suspect, t.lb.cap, answerOf .p0 t) = (.iced, 0, 0, (.accepted, .none)) := by decide
theorem test_icing_report_farm : answerOf .p2 (after (.icingReport 0 .p2 0) (icingIn .watch)) = (.refused, .notPermitted) := by decide
theorem test_icing_release :
    let t := after (.icingRelease 0 .p2 0) (icingIn .iced)
    (t.icd.state, (tget t.lb.slots 0).active) = (.clear, false) := by decide
theorem test_icing_release_tracking :
    answerOf .p2 (after (.icingRelease 0 .p2 0) { icingIn .iced with sau := turning.sau }) = (.refused, .notStandstill) := by decide
theorem test_enable_icing :
    answerOf .p0 (after (.enableIcing 0 .p0 0) State.reset) = (.refused, .badConfig) := by decide
theorem test_disable_icing : (after (.disableIcing 0 .p0 0) (icingIn .iced)).icd.state = .off := by decide

/-- B learnt from line 2 at E_code 400. -/
def learning : State :=
  { icingIn .clear with
    icd := { (icingIn .clear).icd with config := { Icd.initial.config with line := some 2 } }
    gcm := { Gcm.initial with conds := Gcm.initial.conds.set 2 ⟨.normal, 102400, 0, 0, 0, false, 1⟩ } }

theorem test_learn_baseline : (after (.learnBaseline 0 .p2 0) learning).icd.base = 400 := by decide
theorem test_restart_icing : answerOf .p0 (after (.restartRequest 0 .p0 0) (icingIn .thaw)) = (.denied, .icing) := by decide
theorem test_restart_granted : answerOf .p0 (after (.restartRequest 0 .p0 0) (icingIn .clear)) = (.granted, .none) := by decide

def opRecord : List Word := [7, 2, 87, 2200, 873, 0xFFFC, 92, 0]

theorem test_operating_arrival :
    let t := after (.operatingArrival 0 .p0 (whole opRecord)) (icingIn .clear)
    (t.icd.op.temp, t.icd.op.turbine, t.icd.fresh, t.icd.sumTemp, t.icd.arrivals) = (-4, .producing, .fresh, -4, 1) := by decide
theorem test_expected_power :
    expectedPower ((List.replicate 32 0).set 8 2100 |>.set 9 2900) 87 = 2660 := by decide
theorem test_operating_record_stale :
    let s := { State.reset with icd := { Icd.initial with fresh := .fresh, age := 4 } }
    (after (.operatingRecordStale .icdLbMs) s).icd.fresh = .stale ∧ everyCopy .opStale (after (.operatingRecordStale .icdLbMs) s) = true := by
  decide
theorem test_interval_void :
    let s := { icingIn .clear with icd := { (icingIn .clear).icd with second := 9 } }
    ((after (.intervalClose .icdLbMs) s).icd.last.outcome, (after (.intervalClose .icdLbMs) s).icd.number) = (.void, 1) := by decide
theorem test_interval_means :
    let i := { (icingIn .clear).icd with
      fresh := .fresh, second := 9, arrivals := 4, sumTemp := -15, sumHum := 368, sumWind := 348, sumPower := 8800, lastState := .producing,
      curve := (List.replicate 32 0).set 8 2100 |>.set 9 2900 }
    let t := after (.intervalClose .icdLbMs) { icingIn .clear with icd := i }
    (t.icd.last.t, t.icd.last.rh, t.icd.last.prod) = (-4, 92, some (2660, 172)) := by decide
theorem test_thaw_expiry :
    let s := { icingIn .thaw with icd := { (icingIn .thaw).icd with thaw := some 1 } }
    ((after (.thawTimerExpiry .icdLbMs) s).icd.state, (after (.thawTimerExpiry .icdLbMs) s).lb.cap) = (.clear, 100) := by decide

/-! ### Limit Board: chapter 7 -/

/-- GRID active with cap 80, generation 41 acknowledged. -/
def boardAt80 : State :=
  { State.reset with lb := { Lb.initial with
      slots := Lb.initial.slots.set 3 ⟨true, 80, .exceeding, 0, true⟩, cap := 80, gov := some 3, gen := 41, aGen := 41, aCap := 80 } }

theorem test_board_tightens :
    let t := boardChange [⟨9, .post 80 .alert⟩, ⟨6, .post 60 .alert⟩] boardAt80
    (t.lb.cap, t.lb.gov, t.lb.gen, t.lb.timer) = (60, some 6, 42, some 10) := by decide
theorem test_board_higher_slot_alone : (boardChange [⟨9, .post 80 .alert⟩] boardAt80).lb.gen = 41 := by decide
theorem test_ack_releases_line :
    let s := { boardAt80 with lb := { boardAt80.lb with gen := 3, aGen := 2, aCap := 0, line := true } }
    let t := after (.ackCap 0 .p0 3) s
    (t.lb.line, t.lb.aGen, t.lb.aCap) = (false, 3, 80) := by decide
theorem test_ack_stale_generation :
    answerOf .p0 (after (.ackCap 0 .p0 40) boardAt80) = (.refused, .staleGeneration) := by decide

/-- One second before the expiry at an effective cap of 0. -/
def stopping : State :=
  { State.reset with lb := { Lb.initial with
      slots := Lb.initial.slots.set 7 ⟨true, 0, .danger, 0, true⟩, cap := 0, gov := some 7, gen := 2, timer := some 1 } }

theorem test_expiry_asserts_line :
    let t := after (.ackTimerExpiry .icdLbMs) stopping
    (t.lb.line, t.lb.timer, t.lb.lastOutcome, everyCopy .hardStop t) = (true, none, .hardStop, true) := by decide

/-! ### Counters and Calendar: chapter 8 -/

def calendarAt (time phase : Nat) : State := { State.reset with cc := { Cc.initial with isSet := true, time := time, phase := phase } }

theorem test_day_number : dayOfDate 2024 3 1 = 8826 := by decide
theorem test_second_tick : (after (.secondTick .icdLbMs) (calendarAt 762609600 39999200)).cc.time = 762609601 := by decide
theorem test_last_second :
    let t := after (.secondTick .icdLbMs) (calendarAt 3155759999 0)
    (t.cc.time, t.cc.limit, everyCopy .calLimit t) = (3155759999, true, true) := by decide
theorem test_pps_early :
    let t := after (.ppsEdge 0 true .icdLbMs) (calendarAt 762609600 39999200)
    (t.cc.phase, t.cc.time, t.cc.ppsOffset) = (0, 762609601, -800) := by decide
theorem test_pps_late :
    let t := after (.ppsEdge 0 true .icdLbMs) (calendarAt 762609602 800)
    (t.cc.phase, t.cc.time, t.cc.ppsOffset) = (0, 762609602, 800) := by decide

/-- The example of CLOCK ARM. -/
def staged (mode day : Word) : State :=
  { State.reset with cc := { Cc.initial with time := 1860, phase := 27413000, staging := ⟨mode, 3, day, 12, 0, 0⟩ } }

theorem test_clock_arm :
    let t := after (.clockArm 0 .p2 0) (staged 2024 1)
    (t.cc.time, t.cc.isSet, t.cc.phase, t.ej.ring.map (·.value)) = (762609600, true, 0, [0, 762607740]) := by decide
theorem test_clock_arm_no_such_day :
    let s := { staged 2023 29 with cc := { (staged 2023 29).cc with staging := ⟨2023, 2, 29, 0, 0, 0⟩ } }
    answerOf .p2 (after (.clockArm 0 .p2 0) s) = (.refused, .badArgument) := by decide
theorem test_clock_deadline :
    let s := { State.reset with cc := { Cc.initial with armed := some ⟨5, 180000000⟩ } }
    (after .clockSetDeadline s).cc.armed = none ∧ everyCopy .clockSetAbandoned (after .clockSetDeadline s) = true := by decide
theorem test_counter_restore :
    let s := { State.reset with cc := { Cc.initial with seconds := 7200, baseSeconds := 61234500, damage := 11520000, baseDamage := 410557902118 } }
    let t := after (.counterRestore 0 .p2 0) s
    (t.cc.seconds, t.cc.damage, t.cc.restored) = (61241700, 410569422118, true) := by decide
theorem test_counted_revolution :
    let c := { Cc.initial with bins := Cc.initial.bins.set 8 1000, damage := 123000, config := ⟨8000, 1280, (List.replicate 16 1).set 8 81⟩ }
    let t := c.countRevolution (torqueBin 873)
    (tget t.bins 8, t.damage) = (1001, 123081) := by decide

/-! ### Maintenance Schedule: chapter 9, item 12 -/

def task : ItemDef := ⟨true, 4021, .hours, 21600000, 0, 360000, 720000, 1080000, 180000, 50, true⟩

def taskAt (seconds : Nat) (part : ItemPart) (deferArg : Nat) (maint : Bool) : State :=
  { withJobs State.reset false false false false false maint with
    cc := { Cc.initial with restored := true, seconds := seconds }
    ms := { Ms.initial with
      items := Ms.initial.items.set 12 ⟨task, task, false, some part⟩
      deferArg := deferArg
      sample := ⟨false, 0, true, seconds, 0⟩
      posted := if maint && decide (part.state = .overdue) then some 50 else none }
    lb := if maint && decide (part.state = .overdue) then
        { Lb.initial with slots := Lb.initial.slots.set 1 ⟨true, 50, .overdue, 0, true⟩, cap := 50, gov := some 1, gen := 1, timer := some 10 }
      else Lb.initial }

def partOf (s : State) : Option ItemPart := (tget s.ms.items 12).part

theorem test_item_done :
    let t := after (.itemDone 0 .p2 12) (taskAt 61520000 ⟨.overdue, 61480040, none, some 3, none, true⟩ 0 true)
    (partOf t, (tget t.lb.slots 1).active) = (some ⟨.pending, 83120000, some 61520000, none, none, false⟩, false) := by decide
theorem test_item_defer :
    partOf (after (.itemDefer 0 .p2 12) (taskAt 61480300 ⟨.due, 61480040, none, some 3, none, false⟩ 61840040 true))
      = some ⟨.deferred, 61480040, none, some 3, some 61840040, true⟩ := by decide
theorem test_item_defer_limit :
    answerOf .p2 (after (.itemDefer 0 .p2 12) (taskAt 61480300 ⟨.due, 61480040, none, some 3, none, false⟩ 62300000 true))
      = (.refused, .deferLimit) := by decide
theorem test_enable_maint :
    let t := after (.enableMaint 0 .p0 0) (taskAt 61841000 ⟨.pending, 61480040, none, none, none, false⟩ 0 false)
    ((partOf t).map (·.state), t.lb.cap, t.ms.posted) = (some .overdue, 50, some 50) := by decide
theorem test_disable_maint :
    let t := after (.disableMaint 0 .p0 0) (taskAt 61841000 ⟨.overdue, 61480040, none, none, none, false⟩ 0 true)
    ((partOf t).map (·.state), t.lb.cap, t.ms.posted) = (some .overdue, 100, none) := by decide
theorem test_item_definition_pends :
    let t := after (.itemDefinitionWrite 0 .p2 4 (whole ([0x0001, 17, 1] ++ List.replicate 45 0))) State.reset
    ((tget t.ms.items 4).written.present, (tget t.ms.items 4).inForce.present, (tget t.ms.items 4).takePending) = (true, false, true) := by
  decide

/-! ### Journal, status and attention: chapter 10 -/

def journalOf (next cursor : Nat) : State :=
  let s := State.reset
  { s with
    ej := ⟨(List.range 20).map (fun k => ⟨next - 20 + k, 0, true, .ej, none, .lost, none, none, 0⟩), next⟩
    rep := s.rep.set .p2 { s.rep.p2 with cursor := cursor } }

theorem test_journal_advance : (after (.journalAdvance 0 .p2 19) (journalOf 5210 5190)).rep.p2.cursor = 5209 := by decide
theorem test_journal_advance_past_end : (after (.journalAdvance 0 .p2 40) (journalOf 5210 5190)).rep.p2.cursor = 5210 := by decide
theorem test_attn_mask : (after (.attnMask 0 .p0 0x4006) State.reset).rep.p0.mask = 0x6 := by decide
theorem test_attn_mask_no_op : answerOf .p0 (after (.attnMask 0 .p0 0x0001) State.reset) = (.refused, .badArgument) := by decide
theorem test_status_write :
    let s := State.reset.raise .unlocked
    let t := after (.statusWrite 0 .p1 (whole [0, 0x0004, 0, 0x0060, 1])) s
    (t.rep.p0.hasFlag .unlocked, t.rep.p1.hasFlag .unlocked, t.rep.p1.enDegraded) = (true, false, true) := by decide

/-! ### Port Interface: chapter 11 -/

/-- P1 in DATA of a RECORD write to the grid configuration. -/
def writing : State :=
  State.reset.setPort .p1 { State.reset.pi.p1 with
    phase := .data, header := some ⟨true, false, some .confined, 5, 0, 0, false⟩, buffer := [⟨0, 2, ⟨5, true, true⟩⟩] }

theorem test_record_write : (after (.recordWrite 0 .p1) writing).ghm.config.h = [0, 0, 5] ++ List.replicate 12 0 := by decide
theorem test_write_data_word :
    ((after (.writeDataWord 0 .p1 ⟨9, true, true⟩) writing).pi.p1.buffer.length, (after (.writeDataWord 0 .p1 ⟨9, true, true⟩) writing).pi.p1.offset)
      = (2, 1) := by decide
theorem test_read_out_of_range :
    let s := State.reset.setPort .p1 { State.reset.pi.p1 with
      phase := .data, header := some ⟨false, false, some .confined, 9, 5, 0, true⟩ }
    (after (.readDataWord 0 .p1) s).pi.p1.dataOut = 0xFFFF := by decide
theorem test_transaction_start : (after (.transactionStart 0 .p1) State.reset).pi.p1.phase = .header := by decide

/-- P0 in HEADER with `ws` received. -/
def inHeader (ws : List Word) : State :=
  State.reset.setPort .p0 { State.reset.pi.p0 with
    phase := .header, words := ws }

theorem test_header_word : (after (.headerWord 0 .p0 0x1234) (inHeader [])).pi.p0.words = [0x1234] := by decide
theorem test_transaction_header : (after (.transactionHeader 0 .p0 0) (inHeader [0, 0])).pi.p0.phase = .wait := by decide
theorem test_filler_word :
    let s := State.reset.setPort .p0 { State.reset.pi.p0 with
      phase := .wait, header := some ⟨false, false, some .confined, 9, 0, 0, false⟩, answer := some .prompt, filler := 1 }
    (after (.fillerWord 0 .p0 0xABCD) s).pi.p0.phase = .data := by decide
theorem test_publish_complete :
    let s := { State.reset with pub := ⟨[⟨10, 0, []⟩, ⟨7, 1, []⟩, ⟨10, 2, []⟩], 3⟩ }
    (after (.publishComplete 0 10) s).pub.flights.map (·.number) = [1, 2] := by decide

/-- P1 in DATA of a CONTROL write with `w` in its command buffer. -/
def commanding (w : Option Word) : State :=
  State.reset.setPort .p1 { State.reset.pi.p1 with
    phase := .data, header := some ⟨true, true, some .confined, 0, 0, 0, false⟩, command := w }

theorem test_command_word : (after (.commandWord 0 .p1 0x3000) (commanding none)).pi.p1.command = some 0x3000 := by decide
theorem test_unknown_command :
    answerOf .p1 (after (.unknownCommand 0 .p1 0x4000 0) (commanding (some 0x4000))) = (.refused, .unknownCommand) := by decide
theorem test_invalid_job_code :
    answerOf .p1 (after (.invalidJobCode 0 .p1 true 9 0) State.reset) = (.refused, .badArgument) := by decide
theorem test_port_reset :
    let t := after (.portReset 0 .p1) writing
    (t.pi.p1.phase, t.pi.p1.held, t.ghm.config.h) = (.idle, true, List.replicate 15 0) := by decide
theorem test_port_reset_release : (after (.portResetRelease 0 .p1) (after (.portReset 0 .p1) writing)).pi.p1.held = false := by decide
theorem test_part_reset_conflict :
    let t := after (.partReset .turbine .turbine .farm) turning
    (t.pi.p0.role, t.pi.p1.role, t.pi.p2.role, everyCopy .roleConflict t, t.ej.ring.map (·.value))
      = (.observer, .observer, .farm, true, [2]) := by decide
theorem test_shaft_write_while_enabled :
    let t := after (.shaftConfigurationWrite 0 .p0 (whole [256])) turning
    (t.sau.config.eLines, everyCopy .writeWhileEnabled t) = (1024, true) := by decide
theorem test_grid_write_denied :
    let t := after (.gridConfigurationWrite 0 .p0 (whole [5])) State.reset
    (t.ghm.config.h, everyCopy .accessDenied t) = (List.replicate 15 0, true) := by decide
theorem test_watch_write : (after (.watchConfigurationWrite 0 .p2 (whole [61])) State.reset).cw.config.m = 60 :: List.replicate 7 0 := by decide
theorem test_icing_write : (after (.icingConfigurationWrite 0 .p2 (whole [0xFC00])) State.reset).icd.config.tIce = -600 := by decide

/-! ### States and operands that meet the hypotheses of the statements

Each theorem names the statement and the clause it serves. The values stand at the boundary of a range where the clause has one. -/

/-- An edge on a side that is neither OFF nor FAULT, with no hold-off, is taken when it changes the held level. -/
theorem edge_taken {l : SauLine} {level : Bool} {s : State}
    (h1 : (s.sau.side l.side).state ≠ .off ∧ (s.sau.side l.side).state ≠ .fault) (h2 : s.sau.active.holdOff = 0)
    (h3 : (s.sau.line l).held ≠ level) : EdgeTaken l level s :=
  ⟨fun h => h.elim h1.1 h1.2, fun h => h.1 h2, h3⟩

theorem forward_index {sd : Side} {s : State}
    (h1 : (s.sau.side (indexLine sd).side).state ≠ .off ∧ (s.sau.side (indexLine sd).side).state ≠ .fault)
    (h2 : s.sau.active.holdOff = 0) (h3 : (s.sau.line (indexLine sd)).held ≠ true) (h4 : s.sau.reverse = false)
    (h5 : s.sau.la.held = s.sau.active.quadA ∧ s.sau.lb.held = s.sau.active.quadB) : ForwardIndex sd s :=
  ⟨edge_taken h1 h2 h3, h4, fun _ => h5⟩

/-- On an IDLE port every command is delivered as its command word. -/
theorem delivered {p : PortId} {s : State} (c : Command)
    (h : (s.pi.get p).held = false ∧ (s.pi.get p).phase = .idle ∧ (s.pi.get p).command = none) : Delivers p c c.word s := by
  refine ⟨⟨h.1, .inl ⟨h.2.1, h.2.2, rfl⟩⟩, ?_⟩
  cases c with
  | enable j => cases j <;> rfl
  | disable j => cases j <;> rfl
  | _ => rfl

theorem witness_step : ({ State.reset with pending := [Instr.strobe, .linkTimerExpiry] } : State).pending = .strobe :: [.linkTimerExpiry] := rfl
theorem witness_timers_stopped : State.reset.ocr.link.timer = none ∧ State.reset.ghm.loss = none := by decide

/-! DroppedOrRepeatedEdgeGivesNothing: a side OFF; 99 ticks after an edge at a hold-off of 100; 100 ticks after it, at the held level. -/
def holding (last : Nat) : State :=
  { turning with sau := { turning.sau with active := { ShaftConfig.initial with holdOff := 100 }, la := ⟨true, true, some last⟩ } }

theorem witness_edge_deaf : Deaf .a State.reset := .inl rfl
theorem witness_edge_held_off : ¬Deaf .a (holding 999901) ∧ HeldOff .a (holding 999901) :=
  ⟨fun h => h.elim (by decide) (by decide), by decide, 999901, rfl, by decide⟩
theorem witness_edge_repeated : ¬Deaf .a (holding 999900) ∧ ¬HeldOff .a (holding 999900) ∧ ((holding 999900).sau.line .a).held = true :=
  ⟨fun h => h.elim (by decide) (by decide), fun ⟨_, e, h, h'⟩ => by cases h; revert h'; decide, rfl⟩

/-! EncoderEdgeCounts: no count, a forward count, and a backward count with REVERSE set and clear. -/
def inX2 : State := { turning with sau := { turning.sau with active := { ShaftConfig.initial with mode := .x2 } } }

theorem witness_count_none : EdgeTaken .b true inX2 ∧ countTable .b true inX2.sau.la.held inX2.sau.active.mode = 0 :=
  ⟨edge_taken (by decide) rfl (by decide), rfl⟩
theorem witness_count_forward : EdgeTaken .a true turning ∧ countTable .a true turning.sau.lb.held turning.sau.active.mode = 1 :=
  ⟨edge_taken (by decide) rfl (by decide), rfl⟩
theorem witness_count_backward :
    EdgeTaken .a true bHigh ∧ countTable .a true bHigh.sau.lb.held bHigh.sau.active.mode = -1 ∧ bHigh.sau.reverse = false :=
  ⟨edge_taken (by decide) rfl (by decide), rfl, rfl⟩
theorem witness_count_backward_on :
    EdgeTaken .a true (reversed bHigh) ∧ countTable .a true bHigh.sau.lb.held bHigh.sau.active.mode = -1 ∧
      (reversed bHigh).sau.reverse = true :=
  ⟨edge_taken (by decide) rfl (by decide), rfl, rfl⟩

/-! IndexWithoutAPeriod -/
theorem witness_index_unqualified : EdgeTaken .z true bHigh ∧
    ¬(bHigh.sau.la.held = bHigh.sau.active.quadA ∧ bHigh.sau.lb.held = bHigh.sau.active.quadB) :=
  ⟨edge_taken (by decide) rfl (by decide), by decide⟩
theorem witness_index_reverse : EdgeTaken .z true (reversed turning) ∧
    (reversed turning).sau.la.held = (reversed turning).sau.active.quadA ∧
    (reversed turning).sau.lb.held = (reversed turning).sau.active.quadB ∧ (reversed turning).sau.reverse = true :=
  ⟨edge_taken (by decide) rfl (by decide), by decide⟩
theorem witness_ls_index_ignored : EdgeTaken .lsz true (reversed turning) ∧ (reversed turning).sau.reverse = true :=
  ⟨edge_taken (by decide) rfl (by decide), rfl⟩

/-- SEEKING on both sides before a first index. -/
def seeking : State := shaft { ShaftSide.initial with state := .seeking, position := 1733 } { ShaftSide.initial with state := .seeking }

theorem witness_index_restarts (sd : Side) : ForwardIndex sd seeking ∧ ¬IsSlip sd seeking ∧ (seeking.sau.side sd).timed = false := by
  cases sd <;> exact ⟨forward_index (by decide) rfl (by decide) rfl (by decide), fun h => absurd h.1 (by decide), rfl⟩

/-! ForwardIndexClosesThePeriod: the shortest HS and LS periods whose speed the field holds, and a saturated counter. -/
def closing (hs ls : Nat) : State := shaft (side .tracking 4096 hs) (side .tracking 128 ls)

theorem witness_period (sd : Side) (hs ls : Nat) :
    ForwardIndex sd (closing hs ls) ∧ ¬IsSlip sd (closing hs ls) ∧ ((closing hs ls).sau.side sd).timed = true := by
  cases sd
  · exact ⟨forward_index ⟨(nofun), (nofun)⟩ rfl (nofun) rfl ⟨rfl, rfl⟩, fun h => h.2 rfl, rfl⟩
  · exact ⟨forward_index ⟨(nofun), (nofun)⟩ rfl (nofun) rfl ⟨rfl, rfl⟩, fun h => h.2 rfl, rfl⟩
theorem witness_period_speeds :
    38400000000 / 9 ≤ 4294967295 ∧ 4294967295 < 38400000000 / 8 ∧ 614400000000 / 144 ≤ 4294967295 ∧
      4294967295 < 614400000000 / 143 ∧ 38400000000 / 4294967295 = 8 := by decide

/-- An armed ratio check that has counted `r` HS revolutions at a configured ratio of 24,909 / 256. -/
def ratioed (r : Nat) : State :=
  let s := closing 1600000 160000000
  { s with sau := { s.sau with armed := true, ratio := r, active := { ShaftConfig.initial with gearRatio := 24909 } } }

theorem witness_ratio (r : Nat) : ForwardIndex .ls (ratioed r) ∧ ¬IsSlip .ls (ratioed r) ∧ ((ratioed r).sau.side .ls).timed = true ∧
    (ratioed r).sau.armed = true ∧ (ratioed r).sau.active.gearRatio ≠ 0 :=
  ⟨forward_index ⟨(nofun), (nofun)⟩ rfl (nofun) rfl ⟨rfl, rfl⟩, fun h => h.2 rfl, rfl, rfl, (nofun)⟩
theorem witness_ratio_tests :
    let t := fun r => after (.lsIndexEdge 0 true) (ratioed r)
    ((t 95).sau.mismatch, (t 95).sau.testedR, (t 95).ej.ring.map (·.value)) = (true, 95, [0, 95]) ∧
      ((t 97).sau.mismatch, (t 97).ej.ring.map (·.value)) = (false, [0]) := by decide
theorem witness_period_seeking :
    let s := shaft (side .seeking 4096 1600000) (side .seeking 0 0)
    s.sau.hs.state ≠ .tracking ∧ s.sau.hs.timed = true ∧ (after (.indexEdge 0 true) s).ej.ring.map (·.value) = [0, 1600000] := by decide

/-! RevolutionStartsAFrame: a speed at the top of the band starts a frame, one above it does not. -/
def mayFrame (vMax : Nat) : State :=
  let s := closing 1600000 160000000
  { withJobs s true true false false false false with
    ocr := { Ocr.initial with link := ⟨true, some ⟨0, 0, 0, 0⟩, some 1040000, 1, 0, true, true⟩, config := ⟨16, 2, 8000, vMax, 1280, 5120, 20⟩ }
    gcm := { Gcm.initial with defs := Gcm.initial.defs.set 3 line3 } }

theorem witness_frame (vMax : Nat) : ForwardIndex .hs (mayFrame vMax) ∧ ¬IsSlip .hs (mayFrame vMax) ∧
    ((mayFrame vMax).sau.side .hs).timed = true ∧ ((mayFrame vMax).ocr.engine .hs).collecting = false :=
  ⟨forward_index ⟨(nofun), (nofun)⟩ rfl (nofun) rfl ⟨rfl, rfl⟩, fun h => h.2 rfl, rfl, rfl⟩
theorem witness_frame_starts : let e := (after (.indexEdge 0 true) (mayFrame 24000)).ocr.hs
    (e.collecting, e.frame.s) = (true, 512) := by decide
theorem witness_frame_waits : (after (.indexEdge 0 true) (mayFrame 23999)).ocr.hs.collecting = false := by decide

/-- An HS frame of two turns on line 3 at 24,000, a full sample count but for `short`, at a revolution of the same period. -/
def framed (revs short reuse minP vMax : Nat) (i : Int) : State :=
  let s := mayFrame 24000
  { s with ocr := { s.ocr with hs := { Engine.initial with
      collecting := true
      frame := ⟨512, 2, 8000, vMax, 20, [⟨3, 0, 368, true, 0, i, 0⟩], 1024 - short, revs, 1600000 * revs, minP, 1600000, reuse⟩ } } }

theorem witness_framed (revs short reuse minP vMax : Nat) (i : Int) :
    let s := framed revs short reuse minP vMax i
    ForwardIndex .hs s ∧ ¬IsSlip .hs s ∧ (s.sau.side .hs).timed = true ∧ (s.ocr.engine .hs).collecting = true ∧ FramesOk s := by
  refine ⟨forward_index ⟨(nofun), (nofun)⟩ rfl (nofun) rfl ⟨rfl, rfl⟩, fun h => h.2 rfl, rfl, rfl, rfl, rfl, rfl, rfl, ?_⟩
  intro sd
  cases sd
  · refine ⟨(nofun), ?_, List.pairwise_singleton _ _⟩
    intro l hl
    rcases List.mem_singleton.mp hl with rfl
    show (3 : Nat) < 24
    omega
  · exact ⟨fun _ => rfl, (nofun), .nil⟩
theorem witness_frame_goes_on :
    let t := after (.indexEdge 0 true) (framed 0 0 0 1600000 24000 0)
    (t.ocr.hs.collecting, t.ocr.hs.frame.revs, t.ocr.hs.last) = (true, 1, .none) := by decide
theorem witness_frame_ends :
    let last := fun short reuse minP vMax => (after (.indexEdge 0 true) (framed 1 short reuse minP vMax 0)).ocr.hs.last
    (last 0 0 1600000 23999, last 1 0 1600000 24000, last 0 0 1568749 24000, last 0 129 1600000 24000, last 0 128 1568750 24000) =
      (.discarded .speedBand, .discarded .encoder, .discarded .nonstationary, .discarded .undersampled, .evaluated) := by decide
theorem witness_frame_stale :
    let s := framed 1 1 0 1600000 24000 0
    let t := fun n => after (.indexEdge 0 true) { s with gcm := { s.gcm with discHs := n } }
    ((tget (t 30).gcm.conds 3).stale, (tget (t 31).gcm.conds 3).stale, everyCopy .staleLines (t 31)) = (false, true, true) := by decide

/-- Item 12 PENDING under an enabled schedule, pulled by line 3, whose code of 900 brings it to ALERT at once. -/
def pulling : State :=
  let s := framed 1 0 0 1600000 24000 943718400
  { s with
    jobs := { s.jobs with maint := true }
    gcm := { s.gcm with defs := s.gcm.defs.set 3 { line3 with kp := 1, item := some 12 } }
    ms := { Ms.initial with
      items := Ms.initial.items.set 12
        ⟨ItemDef.initial, { ItemDef.initial with present := true, kind := .hours, leadAlert := 50 }, false, some ⟨.pending, 90, none, none, none, false⟩⟩
      sample := ⟨false, 0, true, 7, 0⟩ } }

theorem witness_frame_pulls :
    let t := after (.indexEdge 0 true) pulling
    ((tget t.gcm.conds 3).level, (tget t.lb.slots 7).cap, (tget t.ms.items 12).part, t.ej.ring.map (·.kind)) =
      (.alert, 60, some ⟨.pending, 57, none, some 3, none, false⟩, [.partReset, .level, .level, .board, .pull]) := by decide +kernel

/-! SlipCountsAndTheThirdFaults: the second slip in a row and the third. -/
def slipping (n : Nat) : State := shaft { side .tracking 4095 1600000 with consecutive := n } { side .tracking 127 9 with consecutive := n }

theorem witness_slip (sd : Side) (n : Nat) : ForwardIndex sd (slipping n) ∧ IsSlip sd (slipping n) := by
  cases sd
  · exact ⟨forward_index ⟨(nofun), (nofun)⟩ rfl (nofun) rfl ⟨rfl, rfl⟩, rfl, fun h => absurd (show (4095 : Int) = 4096 from h) (by decide)⟩
  · exact ⟨forward_index ⟨(nofun), (nofun)⟩ rfl (nofun) rfl ⟨rfl, rfl⟩, rfl, fun h => absurd (show (127 : Int) = 128 from h) (by decide)⟩
theorem witness_slip_counts : ((slipping 1).sau.side .hs).consecutive + 1 < 3 ∧ 3 ≤ ((slipping 2).sau.side .hs).consecutive + 1 := by decide

/-! ToothCounts, ToothGivesTheFrameASample -/
theorem witness_tooth : EdgeTaken .t true turning ∧ turning.sau.reverse = false ∧ turning.ocr.ls.collecting = false :=
  ⟨edge_taken (by decide) rfl (by decide), rfl, rfl⟩
theorem witness_tooth_reversed : EdgeTaken .t true (reversed turning) ∧ (reversed turning).sau.reverse = true :=
  ⟨edge_taken (by decide) rfl (by decide), rfl⟩

/-- An LS frame of two revolutions with `n` samples taken. -/
def collecting (n : Nat) : State :=
  { turning with
    ocr := { Ocr.initial with
      link := ⟨true, some ⟨412, 1, 2, 3⟩, some 1040000, 1, 0, true, true⟩
      ls := { Engine.initial with
        collecting := true
        frame := ⟨128, 2, 1280, 5120, 20, [⟨3, 0, 16, true, 0, 0, 0⟩], n, 1, 0, 0, 0, 0⟩ } } }

theorem witness_sample : AnglePoint .ls (.toothEdge 0 true) (collecting 255) ∧ (collecting 255).ocr.ls.collecting = true ∧
    (collecting 255).ocr.link.latest = some ⟨412, 1, 2, 3⟩ ∧
    (collecting 255).ocr.ls.frame.samples ≠ (collecting 255).ocr.ls.frame.s * (collecting 255).ocr.ls.frame.r :=
  ⟨⟨rfl, 0, rfl, edge_taken (by decide) rfl (by decide)⟩, rfl, rfl, by decide⟩
theorem witness_sample_full : AnglePoint .ls (.toothEdge 0 true) (collecting 256) ∧ (collecting 256).ocr.ls.collecting = true ∧
    (collecting 256).ocr.ls.frame.samples = (collecting 256).ocr.ls.frame.s * (collecting 256).ocr.ls.frame.r :=
  ⟨⟨rfl, 0, rfl, edge_taken (by decide) rfl (by decide)⟩, rfl, by decide⟩

/-- One count before a multiple of D, with the HS engine WAITING or one sample before the end of a full frame of two turns. -/
def sampling (frames : Bool) (n : Nat) : State :=
  let s := shaft (side .tracking 103 500) (side .tracking 5 500)
  { s with ocr := { (collecting 0).ocr with
      hs := if frames then { (collecting n).ocr.ls with frame := { (collecting n).ocr.ls.frame with s := 512 } } else Engine.initial } }

theorem witness_angle_point (frames : Bool) (n : Nat) : AnglePoint .hs (.encoderEdge 0 .a true) (sampling frames n) ∧
    ticksOf (.encoderEdge 0 .a true) = some 0 ∧ ((sampling frames n).ocr.engine .hs).collecting = frames := by
  have turn : max (-2147483648) (min 2147483647 ((103 : Int) + 1)) % ((8 : Nat) : Int) = 0 := by decide
  cases frames <;> exact ⟨⟨rfl, 0, .a, true, rfl, edge_taken ⟨(nofun), (nofun)⟩ rfl (nofun), rfl, turn⟩, rfl, rfl⟩
theorem witness_hs_sample :
    ((after (.encoderEdge 0 .a true) (sampling true 1023)).ocr.hs.frame.samples,
      (after (.encoderEdge 0 .a true) (sampling true 1024)).ocr.hs.last) = (1024, .discarded .encoder) := by decide

/-! StandstillTimerStopsTheSide -/
theorem witness_standstill : (standing.sau.side .hs).standstill = some 205107000 ∧ (standing.sau.side .ls).standstill = none := by decide

/-! ShaftJobCommands -/
theorem witness_enable_shaft : State.reset.pi.p0.role ∈ [Role.turbine, Role.farm] ∧
    Delivers .p0 (.enable .shaft) (Command.enable .shaft).word State.reset ∧ State.reset.jobs.shaft = false ∧
    (State.reset.sau.config.eLines * State.reset.sau.config.mode.counts / State.reset.sau.config.dec) ∈ [128, 256, 512, 1024] :=
  ⟨by decide, delivered _ (by decide), rfl, by decide⟩
theorem witness_disable_shaft : Delivers .p2 (.disable .shaft) (Command.disable .shaft).word turning ∧ turning.pi.p2.role = .farm ∧
    turning.jobs.gear = false ∧ turning.jobs.shaft = true :=
  ⟨delivered _ (by decide), by decide⟩

/-! LinkTakesGoodSetsAndIsLostWithoutThem -/
theorem witness_good_set : goodSet.length = 4 ∧ ∀ w ∈ goodSet, OddParity w := by
  unfold OddParity; decide
theorem witness_bad_set : ¬((sampleWord 1 :: goodSet).length = 4 ∧ ∀ w ∈ sampleWord 1 :: goodSet, OddParity w) := by
  unfold OddParity; decide
theorem witness_link_timer : (linkAt 103200 1 (some 143200) true).ocr.link.timer = some 143200 ∧
    (linkAt 103200 1 (some 143200) true).ocr.link.up = true ∧ (linkAt 103200 1 (some 143200) false).ocr.link.up = false := by decide

/-! GearJobCommands -/
theorem witness_enable_gear : Delivers .p2 (.enable .gear) (Command.enable .gear).word { gearOn with jobs := turning.jobs } ∧
    gearOn.pi.p2.role = .farm ∧ turning.jobs.gear = false ∧ turning.jobs.shaft = true ∧ (∃ d ∈ gearOn.gcm.defs, d.enabled = true) :=
  ⟨delivered _ (by decide), by decide⟩
theorem witness_disable_gear : Delivers .p2 (.disable .gear) (Command.disable .gear).word gearOn ∧ gearOn.jobs.coinc = false ∧
    gearOn.jobs.gear = true := ⟨delivered _ (by decide), by decide⟩

/-! ZeroCrossMeasuresAndLocks, LossTimerUnlocks, StrobesShareOutThePeriod, GridFrameAnswersTheStrobe -/
def gridEdge (reference : Nat) (lock : LockState) (valid : Nat) : State :=
  gridAt 2000000 { Ghm.initial with edgeRef := some reference, lock := lock, valid := valid, loss := some (reference + 2000000) }

theorem witness_gzx_falling : ¬((false : Bool) = true ∧ (gridEdge 0 .locked 2).jobs.grid = true) := by decide
theorem witness_gzx_early : (gridEdge 1800001 .locked 2).jobs.grid = true ∧ (gridEdge 1800001 .locked 2).ghm.edgeRef = some 1800001 ∧
    (gridEdge 1800001 .locked 2).now < 1800001 + 200000 := by decide
theorem witness_gzx_first : (gridAt 0 Ghm.initial).jobs.grid = true ∧ (gridAt 0 Ghm.initial).ghm.edgeRef = none := by decide
theorem witness_gzx_measured : (gridEdge 1800000 .locked 2).ghm.edgeRef = some 1800000 ∧ 1800000 + 200000 ≤ (gridEdge 1800000 .locked 2).now := by
  decide
theorem witness_gzx_locks : lockTable .unlocked (decide (615385 ≤ 615385 ∧ 615385 ≤ 888888)) (min 2 (1 + 1)) = .locked ∧
    lockTable .locked (decide (615385 ≤ 615384 ∧ 615384 ≤ 888888)) 0 = .freqOut ∧
    lockTable .freqOut (decide (615385 ≤ 888888 ∧ 888888 ≤ 888888)) (min 2 (1 + 1)) = .locked := by decide
theorem witness_loss : (gridEdge 1800000 .locked 2).ghm.loss = some 3800000 ∧ (gridEdge 1800000 .locked 2).ghm.lock = .locked ∧
    (gridEdge 1800000 .unlocked 0).ghm.lock = .unlocked := by decide

/-- A cycle whose next strobe is `next`, with position `next − 1` outstanding in a window. -/
def strobing (next : Nat) (due : Option Nat) : State :=
  gridAt 0 { Ghm.initial with
    lock := .locked
    gen := some ⟨800050, 6250, 50, next, due⟩
    outstanding := some (next - 1)
    window := some ⟨1 :: List.replicate 15 0, 0, 0, 0, 0, List.replicate 6 (List.replicate 16 ⟨0, 0⟩)⟩ }

theorem witness_strobe : ∃ x, (strobing 127 (some 793800)).ghm.gen = some x ∧ x.due = some 793800 ∧ ¬x.next + 1 ≤ 127 := ⟨_, rfl, rfl, by decide⟩
theorem witness_strobe_window : (strobing 127 (some 793800)).ghm.outstanding = some 126 ∧ (strobing 127 (some 793800)).ghm.window.isSome = true := by
  decide
theorem witness_strobe_none : ∀ x, (strobing 128 none).ghm.gen = some x → x.due = none := fun _ h => by cases h; rfl
theorem witness_grid_frame :
    (strobing 127 none).jobs.grid = true ∧ (goodSet ++ [sampleWord 4, sampleWord 65535]).length = 6 ∧
      (∀ w ∈ goodSet ++ [sampleWord 4, sampleWord 65535], OddParity w) ∧ (strobing 127 none).ghm.outstanding = some 126 := by
  unfold OddParity; decide
theorem witness_grid_frame_dropped : (gridAt 0 Ghm.initial).jobs.grid = true ∧ (gridAt 0 Ghm.initial).ghm.outstanding = none := by decide
theorem witness_grid_frame_disabled : State.reset.jobs.grid = false := by decide

/-- A LOCKED monitor 800,000 ticks after its reference, every strobe of the cycle answered, with `v` in slot 1 of V1. -/
def windowed (cycles missing count nValid : Nat) (v : Int) : State :=
  gridAt 10000000 { gridConfigured with
    config := { gridConfigured.config with h := 5 :: List.replicate 14 0, limitV := 100 :: List.replicate 14 65535, kg := 1, gridCap := 80 }
    edgeRef := some 9200000
    lock := .locked
    gen := some ⟨800000, 6250, 0, 128, none⟩
    window := some ⟨1 :: 5 :: List.replicate 14 0, 2000000, cycles, 1280, missing,
      (List.replicate 6 (List.replicate 16 ⟨0, 0⟩)).set 0 (⟨0, 0⟩ :: ⟨v, 0⟩ :: List.replicate 14 ⟨0, 0⟩)⟩
    block := ⟨count, nValid, some (1 :: 5 :: List.replicate 14 0), List.replicate 6 (List.replicate 16 0)⟩ }

theorem witness_window (cycles missing count nValid : Nat) (v : Int) :
    let s := windowed cycles missing count nValid v
    s.jobs.grid = true ∧ s.ghm.edgeRef = some 9200000 ∧ 9200000 + 615385 ≤ s.now ∧ s.now ≤ 9200000 + 888888 ∧ s.ghm.lock = .locked ∧
      s.ghm.gen.isSome = true ∧ s.ghm.window.isSome = true := by
  exact ⟨rfl, rfl, (by decide : (9815385 : Nat) ≤ 10000000), (by decide : (10000000 : Nat) ≤ 10088888), rfl, rfl, rfl⟩
theorem witness_window_ends :
    let t := fun c m => (after (.gzxEdge 0 true) (windowed c m 13 7 0)).ghm
    ((t 8 0).window.map (·.cycles), (t 9 32).outcome, (t 9 32).degraded, (t 9 32).pWin, (t 9 33).cause, (t 9 33).block.count) =
      (some 9, .evaluated, true, 800000, .missing, 14) := by decide
theorem witness_block_ends :
    let t := fun m n => after (.gzxEdge 0 true) (windowed 9 m 14 n 655360000)
    ((t 0 6).ghm.blockOutcome, (t 33 7).ghm.blockOutcome, (t 0 7).ghm.blockOutcome) = (.invalid, .invalid, .valid) ∧
      (tget (tget (t 0 7).ghm.chan 0).codes 1, tget (tget (t 0 7).ghm.blockChan 0).aggs 1) = (500, 176) ∧
      ((t 0 7).ghm.exceeding, (tget (t 0 7).lb.slots 3).cap, (t 0 7).cw.elec.map (·.fWin)) = (true, 80, some 800) := by decide +kernel

/-! GridJobCommands -/
theorem witness_enable_grid : Delivers .p1 (.enable .grid) (Command.enable .grid).word { State.reset with ghm := gridConfigured } ∧
    State.reset.pi.p1.role ≠ .observer ∧ State.reset.jobs.grid = false ∧ (∃ h ∈ gridConfigured.config.h, h ≠ 0) :=
  ⟨delivered _ (by decide), by decide⟩
theorem witness_disable_grid : Delivers .p1 (.disable .grid) (Command.disable .grid).word (strobing 1 none) ∧
    (strobing 1 none).jobs.coinc = false ∧ (strobing 1 none).jobs.grid = true ∧ (strobing 1 none).ghm.window.isSome = true :=
  ⟨delivered _ (by decide), by decide⟩
theorem witness_disable_grid_exceeding :
    let s := gridAt 0 { gridConfigured with exceeding := true }
    Delivers .p1 (.disable .grid) (Command.disable .grid).word s ∧ s.ghm.exceeding = true ∧ s.ghm.window = none :=
  ⟨delivered _ (by decide), by decide⟩

/-! CoincidenceCommands -/
def coincOff : State := { coincOn with jobs := { coincOn.jobs with coinc := false } }

theorem witness_enable_coinc : Delivers .p0 (.enable .coinc) (Command.enable .coinc).word coincOff ∧ coincOff.pi.p0.role = .turbine ∧
    coincOff.jobs.coinc = false ∧ coincOff.jobs.gear = true ∧ coincOff.jobs.grid = true ∧ (∃ m ∈ coincOff.cw.config.m, m ≠ 0) :=
  ⟨delivered _ (by decide), by decide⟩
theorem witness_disable_coinc : Delivers .p0 (.disable .coinc) (Command.disable .coinc).word coincOn ∧ coincOn.jobs.coinc = true :=
  ⟨delivered _ (by decide), by decide⟩
theorem witness_clear_coincidence : Delivers .p1 .clearCoincidence Command.clearCoincidence.word coincOn ∧ coincOn.pi.p1.role ≠ .observer ∧
    coincOn.jobs.coinc = true ∧ coincOff.jobs.coinc = false := ⟨delivered _ (by decide), by decide⟩

/-! IcingCommands, RestartRequestTestsTheCausesInOrder -/
theorem witness_enable_icing :
    let s := { icingIn .off with jobs := State.reset.jobs }
    Delivers .p0 (.enable .icing) (Command.enable .icing).word s ∧ s.pi.p0.role = .turbine ∧ s.jobs.icing = false ∧ (∃ n ∈ s.icd.curve, n ≠ 0) :=
  ⟨delivered _ (by decide), by decide⟩
theorem witness_disable_icing : Delivers .p0 (.disable .icing) (Command.disable .icing).word (icingIn .iced) ∧ (icingIn .iced).jobs.icing = true :=
  ⟨delivered _ (by decide), rfl⟩
theorem witness_icing_report (st : IcingState) : Delivers .p0 .icingReport Command.icingReport.word (icingIn st) ∧
    (icingIn st).pi.p0.role = .turbine ∧ (icingIn st).icd.state = st ∧ (icingIn st).lb.slots ≠ [] := by
  cases st <;> exact ⟨delivered _ (by decide), by decide⟩
theorem witness_icing_release (st : IcingState) : Delivers .p2 .icingRelease Command.icingRelease.word (icingIn st) ∧
    (icingIn st).pi.p2.role = .farm ∧ (icingIn st).sau.hs.state = .off ∧ (icingIn st).sau.ls.state = .off := by
  cases st <;> exact ⟨delivered _ (by decide), by decide⟩
theorem witness_icing_release_turning :
    let s := { icingIn .iced with sau := turning.sau }
    Delivers .p2 .icingRelease Command.icingRelease.word s ∧ s.icd.state = .iced ∧ s.sau.hs.state = .tracking :=
  ⟨delivered _ (by decide), by decide⟩
theorem witness_learn : Delivers .p2 .learnBaseline Command.learnBaseline.word learning ∧ learning.icd.config.line = some 2 ∧
    learning.icd.state = .clear ∧ (tget learning.gcm.conds 2).level ≠ .unrated ∧ (tget learning.gcm.conds 2).stale = false :=
  ⟨delivered _ (by decide), by decide⟩
theorem witness_learn_no_line : Delivers .p2 .learnBaseline Command.learnBaseline.word State.reset ∧ State.reset.icd.config.line = none :=
  ⟨delivered _ (by decide), rfl⟩
theorem witness_learn_unrated :
    let s := { learning with gcm := Gcm.initial }
    Delivers .p2 .learnBaseline Command.learnBaseline.word s ∧ (tget s.gcm.conds 2).level = .unrated := ⟨delivered _ (by decide), by decide⟩
theorem witness_restart : Delivers .p0 .restartRequest Command.restartRequest.word (icingIn .thaw) ∧ (icingIn .thaw).pi.p0.role = .turbine ∧
    (icingIn .thaw).icd.state = .thaw ∧ stopping.lb.cap = 0 ∧ stopping.icd.state = .off := ⟨delivered _ (by decide), by decide⟩
theorem witness_restart_line :
    let s := { boardAt80 with lb := { boardAt80.lb with line := true } }
    Delivers .p0 .restartRequest Command.restartRequest.word s ∧ s.icd.state = .off ∧ s.lb.cap ≠ 0 ∧ s.lb.line = true :=
  ⟨delivered _ (by decide), by decide⟩

/-- Item 12 OVERDUE with its restart lock, under a disabled schedule. -/
def locked : State := taskAt 61841000 ⟨.overdue, 61480040, none, none, none, false⟩ 0 false

theorem witness_restart_lock : Delivers .p0 .restartRequest Command.restartRequest.word locked ∧ locked.lb.cap ≠ 0 ∧ locked.lb.line = false ∧
    ∃ x ∈ locked.ms.items, ∃ y, x.part = some y ∧ y.state = .overdue ∧ x.inForce.lock = true :=
  ⟨delivered _ (by decide), by decide, by decide, tget locked.ms.items 12, by decide, _, rfl, by decide⟩
theorem witness_restart_granted : Delivers .p0 .restartRequest Command.restartRequest.word State.reset ∧ State.reset.lb.cap ≠ 0 ∧
    State.reset.lb.line = false ∧ ∀ x ∈ State.reset.ms.items, x.part = none := ⟨delivered _ (by decide), by decide⟩

/-! IcingSecondTicksAndIntervals -/
theorem witness_stale : ∃ x : Icd, x = { Icd.initial with fresh := .fresh, age := 4 } ∧ x.fresh = .fresh ∧ x.age = 4 := ⟨_, rfl, rfl, rfl⟩
theorem witness_thaw :
    let s := { icingIn .thaw with icd := { (icingIn .thaw).icd with thaw := some 1, second := 8 } }
    s.icd.thaw = some 1 ∧ s.icd.state = .thaw ∧ s.icd.second < 9 := by decide
theorem witness_interval :
    let s := { icingIn .clear with icd := { (icingIn .clear).icd with fresh := .fresh, age := 3, second := 9, arrivals := 1 } }
    s.jobs.icing = true ∧ s.icd.second = 9 ∧ s.icd.arrivals ≠ 0 ∧ ¬(s.icd.fresh = .stale ∨ (s.icd.fresh = .fresh ∧ s.icd.age = 4)) := by decide
theorem witness_interval_void :
    let s := { icingIn .suspect with icd := { (icingIn .suspect).icd with second := 9 } }
    s.jobs.icing = true ∧ s.icd.second = 9 ∧ s.icd.arrivals = 0 ∧ s.icd.thaw = none := by decide

/-- One second before the close of an interval whose one arrival has this temperature, humidity and power, at an expected power of 100. -/
def judging (st : IcingState) (temp : Int) (power : Nat) : State :=
  let s := icingIn st
  { s with
    icd := { s.icd with
      suspect := 5, ice := 11, clear := 5, fresh := .fresh, second := 9, arrivals := 1, sumTemp := temp, sumHum := 85, sumWind := 87,
      sumPower := power, lastState := .producing, config := { s.icd.config with line := some 3 } }
    gcm := { Gcm.initial with conds := Gcm.initial.conds.set 3 ⟨.normal, 76800, 0, 0, 0, false, 1⟩ } }

/-- The state, counts and thaw timer after that close. -/
def judged (s : State) : IcingState × Nat × Nat × Nat × Option Nat :=
  let i := (after (.intervalClose .icdLbMs) s).icd
  (i.state, i.suspect, i.ice, i.clear, i.thaw)

theorem witness_judged (st : IcingState) (temp : Int) (power : Nat) : let x := (judging st temp power).icd
    x.second = 9 ∧ x.arrivals ≠ 0 ∧ ¬(x.fresh = .stale ∨ (x.fresh = .fresh ∧ x.age = 4)) ∧ x.state = st ∧ x.thaw = none := by
  refine ⟨rfl, (nofun), ?_, rfl, rfl⟩
  rintro (h | ⟨-, h⟩) <;> cases h
theorem witness_judged_clear :
    [judged (judging .clear 20 100), judged (judging .clear 21 100), judged (judging .off 20 100)] =
      [(.watch, 0, 0, 0, none), (.clear, 5, 11, 5, none), (.off, 5, 11, 5, none)] := by decide
theorem witness_judged_watch :
    [judged (judging .watch 41 85), judged (judging .watch 40 85), judged (judging .watch 40 86)] =
      [(.clear, 0, 0, 0, none), (.suspect, 0, 0, 0, none), (.watch, 0, 11, 5, none)] := by decide
theorem witness_judged_suspect :
    let s := fun base power => { judging .suspect 20 power with icd := { (judging .suspect 20 power).icd with base := base } }
    [judged (s 200 100), judged (s 201 70), judged (s 0 71), judged (s 0 86)] =
      [(.iced, 0, 0, 0, none), (.iced, 0, 0, 0, none), (.suspect, 5, 0, 0, none), (.watch, 0, 0, 0, none)] := by decide
theorem witness_judged_iced :
    [judged (judging .iced 51 100), judged (judging .iced 50 100)] = [(.thaw, 0, 0, 0, some 7200), (.iced, 5, 11, 5, none)] := by decide
theorem witness_judged_thaw :
    let s := fun temp n => { judging .thaw temp 100 with icd := { (judging .thaw temp 100).icd with thaw := some n } }
    [judged (s 20 1), judged (s 21 2), judged (s 21 1)] = [(.iced, 0, 0, 0, none), (.thaw, 5, 11, 5, some 1), (.clear, 0, 0, 0, none)] := by
  decide

/-! AckTimerAndAckCap -/
theorem witness_ack_moves : Delivers .p0 .ackCap Command.ackCap.word stopping ∧ stopping.pi.p0.role = .turbine ∧
    (2 : Word).toNat = stopping.lb.gen ∧ stopping.lb.gen ≠ stopping.lb.aGen := ⟨delivered _ (by decide), by decide⟩
theorem witness_ack_again : Delivers .p0 .ackCap Command.ackCap.word boardAt80 ∧ (41 : Word).toNat = boardAt80.lb.gen ∧
    boardAt80.lb.gen = boardAt80.lb.aGen ∧ boardAt80.lb.cap = boardAt80.lb.aCap ∧ (boardAt80.lb.line && decide (boardAt80.lb.cap = 0)) = boardAt80.lb.line :=
  ⟨delivered _ (by decide), by decide⟩
theorem witness_ack_stale : (1 : Word).toNat ≠ stopping.lb.gen := by decide
theorem witness_ack_timer : stopping.lb.timer = some 1 ∧ stopping.jobs.icing = false ∧ stopping.icd.thaw = none ∧ stopping.jobs.maint = false ∧
    State.reset.lb.timer ≠ some 1 := by decide

/-! SecondTickAdvancesTheCalendar, PpsEdgeLoadsOrDisciplines, ClockSetCommands, CounterRestoreAddsTheBases -/
theorem witness_last_second : (calendarAt 3155759999 0).cc.time ≥ 3155759999 ∧ (calendarAt 3155759999 0).cc.limit = false := by decide

/-- Item 12 as it stands under an enabled schedule of 61,841,000 seconds, with a definition written over it. -/
def redefined (written : ItemDef) (part : Option ItemPart) : State :=
  let s := taskAt 61841000 ⟨.pending, 0, none, none, none, false⟩ 0 true
  { s with ms := { s.ms with items := s.ms.items.set 12 ⟨written, if part = none then ItemDef.initial else task, true, part⟩ } }

/-- What the next second tick makes of item 12: its state and due, its cap in force, and whether slot MAINT is active. -/
def ticked (s : State) : Option (ItemState × Nat) × Nat × Bool :=
  let t := after (.secondTick .icdLbMs) s
  ((partOf t).map (fun y => (y.state, y.due)), (tget t.ms.items 12).inForce.cap, (tget t.lb.slots 1).active)

theorem witness_tick_takes :
    let due : Option ItemPart := some ⟨.due, 61481000, none, none, none, false⟩
    [ticked (redefined { task with cap := 40 } due), ticked (redefined { task with grace := 360001 } due),
      ticked (redefined { task with kind := .damage, firstDue := 9 } due), ticked (redefined { task with present := false } due),
      ticked (redefined { task with firstDue := 61841001 } none)] =
      [(some (.overdue, 61481000), 40, true), (some (.due, 61481000), 50, false), (some (.pending, 9), 50, false), (none, 50, false),
        (some (.pending, 61841001), 50, false)] := by decide
theorem witness_tick_entries :
    let t := after (.secondTick .icdLbMs) (redefined { task with grace := 0 } (some ⟨.pending, 61841000, none, none, none, false⟩))
    t.ej.ring.tail.map (fun e => (e.kind, e.fromState, e.toState)) =
      [(.item, some 1, some 2), (.item, some 2, some 3), (.board, some 100, some 50)] := by decide
theorem witness_tick_ordinary :
    let s := { icingIn .thaw with icd := { (icingIn .thaw).icd with thaw := some 2, second := 8 } }
    let t := after (.secondTick .icdLbMs) s
    (t.icd.thaw, t.icd.second, t.lb.timer, t.icd.state) = (some 1, 9, some 9, .thaw) ∧ s.jobs.maint = false := by decide
theorem witness_tick_one_taker :
    let s := redefined { task with cap := 40 } (some ⟨.overdue, 0, none, none, none, false⟩)
    let t := after (.secondTick .icdLbMs) { s with lb := { s.lb with timer := some 2 } }
    (t.lb.timer, t.ms.posted, t.lb.cap) = (some 1, some 40, 40) ∧ t.lb.cap < s.lb.aCap ∧ s.icd.thaw = none := by decide
theorem witness_pps_ignored :
    let s := { calendarAt 5 0 with now := 20000000, cc := { (calendarAt 5 0).cc with ppsRef := some 1 } }
    ∃ r, s.cc.ppsRef = some r ∧ s.now < r + 20000000 := ⟨1, rfl, by decide⟩
theorem witness_pps_accepted : ¬∃ r, (calendarAt 5 19999999).cc.ppsRef = some r ∧ (calendarAt 5 19999999).now < r + 20000000 := nofun
theorem witness_pps_clauses : State.reset.cc.armed = none ∧ State.reset.cc.isSet = false ∧ (calendarAt 5 19999999).cc.isSet = true ∧
    min 39999999 (calendarAt 5 19999999).cc.phase < 20000000 ∧ 20000000 ≤ min 39999999 (calendarAt 5 20000000).cc.phase := by decide
theorem witness_pps_armed :
    let s := { State.reset with cc := { Cc.initial with armed := some ⟨762609610, 180000000⟩ } }
    s.cc.armed = some ⟨762609610, 180000000⟩ ∧ s.cc.ppsRef = none := ⟨rfl, rfl⟩
theorem witness_clock_arm : Delivers .p2 .clockArm Command.clockArm.word (staged 2024 31) ∧ (staged 2024 31).pi.p2.role = .farm ∧
    (staged 2024 31).cc.armed = none ∧ (31 : Word).toNat ≤ monthLength 2024 3 := ⟨delivered _ (by decide), by decide⟩
theorem witness_clock_refused : (staged 2100 1).cc.armed = none ∧ ¬(staged 2100 1).cc.staging.year.toNat ≤ 2099 := by decide
theorem witness_clock_busy :
    let s := { State.reset with cc := { Cc.initial with armed := some ⟨5, 180000000⟩ } }
    Delivers .p2 .clockArm Command.clockArm.word s ∧ s.cc.armed.isSome = true := ⟨delivered _ (by decide), rfl⟩
theorem witness_restore : Delivers .p2 .counterRestore Command.counterRestore.word State.reset ∧ State.reset.pi.p2.role = .farm ∧
    State.reset.cc.restored = false := ⟨delivered _ (by decide), by decide⟩
theorem witness_restored : Delivers .p2 .counterRestore Command.counterRestore.word locked ∧ locked.cc.restored = true :=
  ⟨delivered _ (by decide), rfl⟩

/-! ItemCommands, MaintJobCommands -/
theorem witness_item_done : Delivers .p2 .itemDone Command.itemDone.word locked ∧ locked.pi.p2.role = .farm ∧
    (tget locked.ms.items 12).part ≠ none ∧ locked.ms.sample.valid (tget locked.ms.items 12).inForce.kind = true ∧
    (tget locked.ms.items 13).part = none := ⟨delivered _ (by decide), by decide⟩
theorem witness_item_unrestored :
    let s := { locked with ms := { locked.ms with sample := ⟨false, 0, false, 0, 0⟩ } }
    Delivers .p2 .itemDone Command.itemDone.word s ∧ s.ms.sample.valid (tget s.ms.items 12).inForce.kind = false :=
  ⟨delivered _ (by decide), by decide⟩

def deferring (seconds : Nat) (st : ItemState) (mark : Bool) (deferArg : Nat) : State :=
  taskAt seconds ⟨st, 61480040, none, some 3, none, mark⟩ deferArg false

theorem witness_defer : let s := deferring 61480300 .due false 62200040
    Delivers .p2 .itemDefer Command.itemDefer.word s ∧ s.ms.sample.value .hours < s.ms.deferArg ∧ s.ms.deferArg ≤ 61480040 + task.maxDefer :=
  ⟨delivered _ (by decide), by decide⟩
theorem witness_defer_limit : let s := deferring 61480300 .due false 62200041
    Delivers .p2 .itemDefer Command.itemDefer.word s ∧ 61480040 + task.maxDefer < s.ms.deferArg := ⟨delivered _ (by decide), by decide⟩
theorem witness_defer_marked : let s := deferring 61480300 .overdue true 62200040
    Delivers .p2 .itemDefer Command.itemDefer.word s ∧ (partOf s).map (·.mark) = some true := ⟨delivered _ (by decide), by decide⟩
theorem witness_defer_pending : let s := deferring 61480300 .pending false 62200040
    Delivers .p2 .itemDefer Command.itemDefer.word s ∧ (partOf s).map (·.state) = some .pending := ⟨delivered _ (by decide), by decide⟩
theorem witness_enable_maint : Delivers .p0 (.enable .maint) (Command.enable .maint).word locked ∧ locked.jobs.maint = false ∧
    (∃ x ∈ locked.ms.items, x.inForce.present = true) := ⟨delivered _ (by decide), by decide⟩
theorem witness_disable_maint :
    let s := taskAt 61841000 ⟨.overdue, 61480040, none, none, none, false⟩ 0 true
    Delivers .p0 (.disable .maint) (Command.disable .maint).word s ∧ s.jobs.maint = true ∧ s.ms.posted ≠ none :=
  ⟨delivered _ (by decide), by decide⟩

/-! ReportingCommands -/
theorem witness_advance : Delivers .p2 .journalAdvance Command.journalAdvance.word (journalOf 5210 5190) := delivered _ (by decide)
theorem witness_mask : Delivers .p0 .attnMask Command.attnMask.word State.reset := delivered _ (by decide)
theorem witness_mask_words : (0x4006 : Word) &&& 0x3FF0 = 0 ∧ (0x4006 : Word).extractLsb 15 14 = 1#2 ∧ (0x8001 : Word).extractLsb 15 14 = 2#2 ∧
    (0xC000 : Word).extractLsb 15 14 = 3#2 ∧ (0x4010 : Word) &&& 0x3FF0 ≠ 0 := by decide

/-- P2 behind the journal, SLIP set under PROTECTIVE alone, the cap below A_cap at an unacknowledged generation. -/
def attending (mask : BitVec 4) : State :=
  let s := (journalOf 5210 5190).raise .slip
  { s with
    lb := stopping.lb
    rep := s.rep.set .p2 { s.rep.p2 with mask := mask } }

theorem witness_causes : (attending 0).causes .p2 = 0x5 ∧ ((attending 0).raise .hardStop).causes .p2 = 0x7 ∧
    (attending 0xA).attentionLine .p2 = false ∧ (attending 0x4).attentionLine .p2 = true ∧
    wordAt (image 15 2 (attending 0x4)) 5 = 0x8504 := by decide
theorem witness_port_ready (p : PortId) : PortReady p State.reset := by cases p <;> exact ⟨rfl, rfl⟩

/-! TransactionOpens, TransactionDataWords, PublishCompletes -/
theorem witness_not_ready : ¬PortReady .p1 writing := fun h => absurd h.1 (by decide)
theorem witness_headers : (inHeader [5]).pi.p0.phase = .header ∧ (inHeader [5]).pi.p0.words.length < 2 ∧ (inHeader [0, 0]).pi.p0.words = [0, 0] := by
  decide

def waiting (a : WaitAnswer) (n : Nat) : State :=
  State.reset.setPort .p0 { State.reset.pi.p0 with
    phase := .wait, header := some ⟨false, false, some .confined, 9, 0, 0, false⟩, answer := some a, filler := n }

theorem witness_filler : (waiting .held 33).pi.p0.phase = .wait ∧ (waiting .held 33).pi.p0.answer = some .held ∧
    34 ≤ (waiting .held 33).pi.p0.filler + 1 ∧ (waiting .held 32).pi.p0.filler + 1 < 34 ∧ 2 ≤ (waiting .prompt 1).pi.p0.filler + 1 := by decide

def reading (outOfRange : Bool) (snapshot : List Word) : State :=
  State.reset.setPort .p0 { State.reset.pi.p0 with
    phase := .data, header := some ⟨false, false, some .confined, 9, 0, 0, outOfRange⟩, snapshot := snapshot }

theorem witness_reading (b : Bool) (ws : List Word) : (reading b ws).pi.p0.phase = .data ∧
    (reading b ws).pi.p0.header = some ⟨false, false, some .confined, 9, 0, 0, b⟩ ∧ (reading b ws).pi.p0.snapshot = ws := ⟨rfl, rfl, rfl⟩
theorem witness_writing : writing.pi.p1.phase = .data ∧ writing.pi.p1.header = some ⟨true, false, some .confined, 5, 0, 0, false⟩ ∧
    writing.pi.p1.role ∈ writers 5 := by decide
theorem witness_writing_refused :
    let s := State.reset.setPort .p1 { writing.pi.p1 with header := some ⟨true, false, some .confined, 9, 0, 0, false⟩ }
    s.pi.p1.role ∉ writers 9 ∧ s.pi.p1.denied = false := by decide
/-- P0 in DATA of a transaction with this header, the sweep at a position. -/
def opened (h : Header) (record offset : Nat) (firstPass : Bool) : State :=
  State.reset.setPort .p0 { State.reset.pi.p0 with
    phase := .data, header := some h, record := record, offset := offset, firstPass := firstPass, headCursor := 1 }

theorem witness_opened (h : Header) (record offset : Nat) (firstPass : Bool) :
    (opened h record offset firstPass).pi.p0.phase = .data ∧ (opened h record offset firstPass).pi.p0.header = some h ∧
      (opened h record offset firstPass).pi.p0.snapshot = [] := ⟨rfl, rfl, rfl⟩
theorem witness_sweeps :
    let t := fun sweep r o first =>
      let x := (after (.readDataWord 0 .p0) (opened ⟨false, false, some sweep, 12, 0, 1, false⟩ r o first)).pi.p0
      (x.record, x.offset, x.firstPass)
    [t .confined 0 5 true, t .running 0 5 true, t .running 1 53 false, t .confinedThenRunning 0 0 true, t .confinedThenRunning 0 5 true] =
      [(0, 0, true), (1, 0, false), (0, 0, false), (1, 0, false), (0, 0, true)] := by decide
theorem witness_control_reads :
    let word := fun r o => (after (.readDataWord 0 .p0) (opened ⟨false, true, some .confined, 0, r, o, false⟩ r o true)).pi.p0.dataOut
    (word 0 0, word 0 7, word 1 3) = (0x0740, 256, 0) := by decide
theorem witness_journal_reads :
    let snap := fun r => (after (.readDataWord 0 .p0) (opened ⟨false, false, some .confined, 14, r, 0, false⟩ r 0 true)).pi.p0.snapshot
    snap 0 = journalWords (tget State.reset.ej.ring 0) ∧
      snap 1 = journalWords ⟨2, 0, false, .sauHs, none, .none, none, none, 0⟩ := by decide
theorem witness_write_out_of_range :
    everyCopy .accessDenied (after (.writeDataWord 0 .p0 ⟨1, true, true⟩) (opened ⟨true, false, some .confined, 5, 9, 0, true⟩ 9 0 true)) = true := by
  decide
theorem witness_buffered_row :
    let i := Instr.gridConfigurationWrite 0 .p1 ((List.range 52).map (bufferedWord writing.pi.p1.buffer 0))
    (∃ k, wholeWriteOf i = some k ∧ k.group = 5 ∧ k.record = 0 ∧
      k.words = (List.range (recordLength k.group k.record)).map (bufferedWord writing.pi.p1.buffer k.record)) ∧
    (after (.recordWrite 0 .p1) writing).ghm = (after i (writing.portClosed .p1)).ghm := ⟨⟨_, rfl, rfl, rfl, by decide⟩, by decide⟩

/-- FARM in DATA of a RECORD write with every word of one record in its buffer. -/
def closingWrite (g r : Nat) (ws : List Word) : State :=
  State.reset.setPort .p2 { State.reset.pi.p2 with
    phase := .data, header := some ⟨true, false, some .confined, g, r, 0, false⟩
    buffer := ws.zipIdx.map (fun w => ⟨r, w.2, ⟨w.1, true, true⟩⟩) }

theorem witness_closing (g r : Nat) (ws : List Word) : Closing .p2 g r ws (closingWrite g r ws) := ⟨rfl, ⟨_, rfl, rfl, rfl, rfl⟩, rfl⟩
theorem witness_closing_lengths : State.reset.icd.curve.length = 32 ∧ State.reset.cc.config.weights.length = 16 ∧
    State.reset.cc.baseBins.length = 16 ∧ recordLength 3 24 = 8 ∧ recordLength 9 1 = 32 ∧ recordLength 10 0 = 1 ∧ recordLength 11 0 = 18 ∧
    recordLength 12 0 = 6 ∧ recordLength 12 1 = 54 ∧ recordLength 13 32 = 4 := by decide
theorem witness_correlator_write :
    (after (.recordWrite 0 .p2) (closingWrite 3 24 [0, 9, 20000, 10000, 1, 2, 2000, 7])).ocr.config = ⟨1, 8, 10000, 10000, 1, 2, 1023⟩ := by
  decide
theorem witness_ack_time_write : (after (.recordWrite 0 .p2) (closingWrite 10 0 [121])).lb.tAck = 120 := by decide
theorem witness_defer_write : (after (.recordWrite 0 .p2) (closingWrite 13 32 [1, 0, 0, 2])).ms.deferArg = 281474976710658 := by decide
theorem witness_staging_write : (after (.recordWrite 0 .p2) (closingWrite 12 0 [2024, 2, 30, 0, 0, 0])).cc.staging.day = 30 := by decide

theorem witness_publish_later :
    let s := { State.reset with pub := ⟨[⟨10, 0, []⟩, ⟨7, 1, []⟩, ⟨10, 2, [(0, [5])]⟩, ⟨10, 3, [(0, [6])]⟩], 4⟩ }
    visible 10 0 (after (.publishComplete 0 10) s) = [5] ∧
      visible 10 1 (after (.publishComplete 0 10) s) = image 10 1 s := by decide
theorem witness_publish : ∃ f : Flight, f.group = 10 ∧ ([⟨7, 1, []⟩] ++ f :: [⟨10, 2, []⟩] : List Flight) = [⟨7, 1, []⟩, ⟨10, 0, []⟩, ⟨10, 2, []⟩] :=
  ⟨⟨10, 0, []⟩, rfl, rfl⟩
theorem witness_no_publish : ∀ f ∈ State.reset.pub.flights, f.group ≠ 10 := nofun

/-! ControlWordsAreChecked, RefusedCommandChangesNothing, JobCommandsAreChecked -/
theorem witness_command_word : (commanding none).pi.p1.phase = .data ∧ (commanding none).pi.p1.command = none ∧
    ∃ h, (commanding none).pi.p1.header = some h ∧ h.write = true ∧ h.control = true := ⟨rfl, rfl, _, rfl, rfl, rfl⟩
theorem witness_unknown : commandOfWord 0x4000 = .unknown ∧ PortTakes .p1 0x4000 0x4000 (commanding (some 0x4000)) :=
  ⟨by decide, rfl, .inr ⟨rfl, rfl, _, rfl, rfl, rfl⟩⟩
theorem witness_no_job : (7 : Byte).toNat ∉ [1, 2, 3, 4, 5, 6] ∧ (0 : Byte).toNat ∉ [1, 2, 3, 4, 5, 6] ∧ PortTakes .p1 0x0107 0x0107 State.reset :=
  ⟨by decide, by decide, rfl, .inl ⟨rfl, rfl, rfl⟩⟩
theorem witness_not_permitted : controlOf (.ackCap 0 .p2 1) = some ⟨0, .p2, .ackCap, 1⟩ ∧ Delivers .p2 .ackCap Command.ackCap.word State.reset ∧
    State.reset.pi.p2.role ∉ givers .ackCap := ⟨rfl, delivered _ (by decide), by decide⟩
theorem witness_delivered_in_data : Delivers .p1 .journalAdvance 0x3005 (commanding (some 0x3005)) :=
  ⟨⟨rfl, .inr ⟨rfl, rfl, _, rfl, rfl, rfl⟩⟩, by decide⟩
theorem witness_job_refused : Delivers .p0 (.enable .gear) (Command.enable .gear).word State.reset ∧ State.reset.pi.p0.role ∈ givers (.enable .gear) ∧
    State.reset.jobs.gear = false ∧ State.reset.jobs.shaft = false := ⟨delivered _ (by decide), by decide⟩
theorem witness_job_conditions :
    (∀ d ∈ State.reset.gcm.defs, d.enabled = false) ∧ (∀ h ∈ State.reset.ghm.config.h, h = 0) ∧ (∀ m ∈ State.reset.cw.config.m, m = 0) ∧
      (∀ n ∈ State.reset.icd.curve, n = 0) ∧ (∀ x ∈ State.reset.ms.items, x.inForce.present = false) := by decide

/-! Writes -/
theorem witness_write_denied : wholeWriteOf (.gridConfigurationWrite 0 .p0 (whole [5])) = some ⟨0, .p0, 5, 0, whole [5]⟩ ∧
    State.reset.pi.p0.role ∉ writers 5 := by decide
theorem witness_write_masked : wholeWriteOf (.gridConfigurationWrite 0 .p1 [⟨5, false, false⟩]) = some ⟨0, .p1, 5, 0, [⟨5, false, false⟩]⟩ ∧
    State.reset.pi.p1.role ∈ writers 5 := by decide
theorem witness_writers : State.reset.pi.p0.role = .turbine ∧ State.reset.pi.p1.role = .converter ∧ State.reset.pi.p2.role = .farm := by decide
theorem witness_arrival_stale : ∃ s : State, s.icd.fresh = .stale ∧ s.pi.p0.role = .turbine ∧ PortReady .p0 s :=
  ⟨{ State.reset with icd := { Icd.initial with fresh := .stale } }, rfl, rfl, rfl, rfl⟩
theorem witness_line_in_alert : (tget gearOn.gcm.conds 3).level = .alert ∧ (tget gearOn.gcm.defs 3).alertCap ≠ 61 ∧ 3 < gearOn.gcm.defs.length ∧
    4 + 3 < gearOn.lb.slots.length ∧ PortReady .p2 gearOn := ⟨by decide, by decide, by decide, by decide, rfl, rfl⟩
theorem witness_shaft_write : turning.jobs.shaft = true ∧ State.reset.jobs.shaft = false ∧ PortReady .p0 turning := ⟨rfl, rfl, rfl, rfl⟩
theorem witness_config_posted :
    (gridAt 0 { Ghm.initial with exceeding := true }).ghm.exceeding = true ∧ State.reset.ghm.config.h.length = 15 ∧
      State.reset.ghm.config.limitV.length = 15 ∧ State.reset.ghm.config.limitI.length = 15 ∧ coincOn.cw.liveLines ≠ [] ∧
      State.reset.cw.config.m.length = 8 ∧ State.reset.cw.config.slot.length = 8 ∧ State.reset.cw.config.floor.length = 8 ∧
      (icingIn .suspect).icd.state = .suspect ∧ 3 < State.reset.lb.slots.length := by decide
theorem witness_item_write : (31 : Nat) < 32 ∧ ([1, 17, 2] ++ List.replicate 45 (0 : Word)).length = 48 := by decide
theorem witness_held : (after (.portReset 0 .p1) State.reset).pi.p1.held = true := by decide

/-! The invariants: states in the middle of a run that meet them -/
theorem witness_board : BoardOk boardAt80 := by
  refine ⟨by decide, by decide, by decide, by decide, by decide, by decide, by decide, (nofun), ?_, by decide, (nofun)⟩
  intro i hi
  cases hi
  refine ⟨by decide, by decide, by decide, ?_⟩
  intro j hj ha
  have : j = 0 ∨ j = 1 ∨ j = 2 := by omega
  rcases this with rfl | rfl | rfl <;> exact absurd ha (by decide)
theorem witness_board_changes :
    let cs : List SlotChange := [⟨9, .post 60 .alert⟩, ⟨3, .withdraw⟩]
    (cs.map (·.slot)).Nodup ∧ (∀ c ∈ cs, c.slot < 28) ∧ (boardChange cs boardAt80).lb.cap = 60 := by decide
theorem witness_generation_skips :
    (boardChange [⟨9, .post 60 .alert⟩] { boardAt80 with lb := { boardAt80.lb with gen := 65535, aGen := 0 } }).lb.gen = 1 := by decide
theorem witness_stop : StopSafe { stopping with lb := { stopping.lb with line := true } } ∧
    ({ stopping with lb := { stopping.lb with line := true } } : State).lb.line = true := ⟨fun _ => .inl rfl, rfl⟩
theorem witness_gear_frames : FramesOk gearOn := by
  refine ⟨rfl, rfl, rfl, rfl, ?_⟩
  intro sd
  cases sd <;> exact ⟨fun _ => rfl, (nofun), .nil⟩
theorem witness_gear_slots : GearSlotsOk gearOn ∧ (tget gearOn.gcm.conds 3).level = .alert := by
  refine ⟨⟨by decide, by decide, by decide, ?_⟩, by decide⟩
  intro n hn
  rcases Nat.lt_or_ge n 4 with h | h
  · have : n = 0 ∨ n = 1 ∨ n = 2 ∨ n = 3 := by omega
    rcases this with rfl | rfl | rfl | rfl
    · exact (by decide : (tget gearOn.lb.slots 4).active = false)
    · exact (by decide : (tget gearOn.lb.slots 5).active = false)
    · exact (by decide : (tget gearOn.lb.slots 6).active = false)
    · exact ⟨by decide, by decide, by decide⟩
  · have hl : ∀ m : Nat, 4 ≤ m → m < 24 → (tget gearOn.gcm.conds m).level = .unrated ∧ (tget gearOn.lb.slots (4 + m)).active = false := by
      decide
    obtain ⟨h1, h2⟩ := hl n h hn
    rw [h1]; exact h2
theorem witness_icing_slot : IcingSlotOk (icingIn .iced) := ⟨by decide, by decide, by decide, by decide⟩
theorem witness_other_slots : OtherSlotsOk coincOn :=
  ⟨by decide, by decide, (by decide : (tget coincOn.lb.slots 1).active = false), fun _ => ⟨by decide, by decide, by decide⟩, (nofun),
    (nofun), (nofun), fun _ => by decide⟩
theorem witness_journal : JournalOk (State.reset.journal { source := .cc, kind := .clock }) := by
  refine ⟨by decide, by decide, by decide, by decide, ?_⟩
  intro p; cases p <;> decide
theorem witness_watch : WatchOk coincOn := by
  refine ⟨?_, ?_, ?_, ?_, ?_, ?_, ?_, ?_, ?_, ?_, ?_⟩ <;> decide
/-- Line 3 with floor 4 and entry 0 watching m = 1 on slot 1, nothing live or latched. -/
def watching (coinc : Bool) : State :=
  { coincOn with
    jobs := { coincOn.jobs with coinc := coinc }
    gcm := { gearOn.gcm with defs := Gcm.initial.defs.set 3 { line3 with floor := 4 } }
    lb := Lb.initial
    cw := { Cw.initial with
      config := { Cw.initial.config with m := 11 :: List.replicate 7 0, slot := 1 :: List.replicate 7 0, floor := List.replicate 8 9, coincCap := 50 }
      elec := some ⟨1, 1 :: 5 :: List.replicate 14 0, List.replicate 3 (0 :: 9 :: List.replicate 14 0), 800⟩ } }

theorem witness_watch_listed : let ls : List ListedLine := [⟨3, 352, some (4, false)⟩, ⟨7, 16, none⟩]
    (watching true).cw.mech.length = 24 ∧ (∀ l ∈ ls, l.line < 24) ∧ ls.Pairwise (fun a b => a.line < b.line) := by decide
theorem witness_watch_evaluates :
    let t := fun on => coincTakeFrame .hs 24000 [⟨3, 352, some (4, false)⟩] (watching on)
    ((t true).cw.firstPair, (t true).cw.liveLines, (tget (t true).lb.slots 2).cap, (t true).rep.p1.latch) =
        (some ⟨3, 0, 8800, 8800⟩, [3], 50, true) ∧
      ((t false).cw.liveLines, (t false).cw.count, ((tget (t false).cw.mech 3).map (·.fm))) = ([], 0, some 8800) := by decide
theorem witness_watch_block :
    let t := coincTakeBlock [1, 5] (watching true)
    (t.cw.elec.map (·.slots), t.cw.cause, t.cw.count) = (some [1, 5], .grid, 1) := by decide
theorem witness_ordered : OrderedOk gearOn := by refine ⟨?_, ?_, ?_, ?_, ?_⟩ <;> decide
theorem witness_counters : CountersOk (staged 2024 1) := by refine ⟨?_, ?_, ?_, ?_, ?_⟩ <;> decide
theorem witness_flag : ((State.reset.raise .slip).rep.get .p1).hasFlag .slip = true ∧ ¬ClearsFlags .strobe .p1 State.reset := by
  refine ⟨by decide, ?_⟩
  rintro (⟨_, h⟩ | ⟨_, _, _, h⟩ | ⟨_, _, h⟩ | ⟨_, _, h, _⟩) <;> cases h
theorem witness_roles : RolesOk (after (.partReset .turbine .turbine .farm) State.reset) := by
  refine ⟨?_, ?_⟩
  · intro p; cases p <;> decide
  · intro p q; cases p <;> cases q <;> decide
theorem witness_sweep : SweepOk writing := by
  intro p h hh ho _
  cases p
  · cases hh
  · cases hh; exact ⟨by decide, by decide, by decide, by decide, by decide, fun _ => by decide, (nofun)⟩
  · cases hh
theorem witness_schedule : ScheduleOk (taskAt 61300000 ⟨.pending, 63000000, none, none, none, false⟩ 0 true) := by
  intro _ x hx y hy hp hv
  have h : ∀ x ∈ (taskAt 61300000 ⟨.pending, 63000000, none, none, none, false⟩ 0 true).ms.items,
      x.part = none ∨ (x.part = some ⟨.pending, 63000000, none, none, none, false⟩ ∧ x.inForce.kind = .hours) := by decide
  rcases h x hx with h | ⟨h, hk⟩
  · rw [h] at hy; cases hy
  · rw [h] at hy; cases hy; rw [hk]; decide

/-- PendingItemsAreNotYetDue: a pull-forward signal of line 3 on item 12 at 61,300,000 seconds. -/
def pulled (st : ItemState) (due leadAlert : Nat) (level : Level) : Option (ItemState × Nat × Option Nat) × Nat :=
  let d : ItemDef := { task with leadAlert := leadAlert }
  let r := (Item.mk d d false (some ⟨st, due, none, none, none, false⟩)).pull ⟨false, 0, true, 61300000, 0⟩ 12 ⟨12, 3, level⟩
  (r.1.part.map (fun y => (y.state, y.due, y.pulledBy)), r.2.length)

theorem witness_pulls :
    [pulled .pending 63000000 1080000 .alert, pulled .pending 62380000 1080000 .alert, pulled .pending 63000000 0 .alert,
      pulled .deferred 63000000 0 .alert, pulled .deferred 63000000 0 .danger, pulled .due 63000000 0 .danger] =
      [(some (.pending, 62380000, some 3), 1), (some (.pending, 62380000, none), 0), (some (.due, 61300000, some 3), 2),
        (some (.deferred, 63000000, none), 0), (some (.overdue, 63000000, some 3), 2), (some (.due, 63000000, none), 0)] := by decide

end Sys2Proof.Tests
end

/-! PROOFS. What a command may touch, and the answer of every row of the table (EveryCommandAnswersANextState). -/

namespace Sys2Proof.Machine

/-! ### Frames, component by component -/

/-- `OnlyTouches` read component by component, so that for a list written out `simp` decides which components are asked for. -/
theorem onlyTouches_iff (cs : List Component) (s t : State) :
    OnlyTouches cs s t ↔
      (.now ∉ cs → t.now = s.now) ∧ (.jobs ∉ cs → t.jobs = s.jobs) ∧ (.sau ∉ cs → t.sau = s.sau) ∧
      (.ocr ∉ cs → t.ocr = s.ocr) ∧ (.gcm ∉ cs → t.gcm = s.gcm) ∧ (.ghm ∉ cs → t.ghm = s.ghm) ∧
      (.cw ∉ cs → t.cw = s.cw) ∧ (.icd ∉ cs → t.icd = s.icd) ∧ (.lb ∉ cs → t.lb = s.lb) ∧
      (.cc ∉ cs → t.cc = s.cc) ∧ (.ms ∉ cs → t.ms = s.ms) ∧ (.ej ∉ cs → t.ej = s.ej) ∧
      (.rep ∉ cs → t.rep = s.rep) ∧ (.pi ∉ cs → t.pi = s.pi) ∧ (.pub ∉ cs → t.pub = s.pub) ∧
      (.pending ∉ cs → t.pending = s.pending) := by
  constructor
  · intro h
    exact ⟨h .now, h .jobs, h .sau, h .ocr, h .gcm, h .ghm, h .cw, h .icd, h .lb, h .cc, h .ms, h .ej, h .rep, h .pi,
      h .pub, h .pending⟩
  · rintro ⟨hnow, hjobs, hsau, hocr, hgcm, hghm, hcw, hicd, hlb, hcc, hms, hej, hrep, hpi, hpub, hpending⟩ c hc
    cases c with
    | now => exact hnow hc
    | jobs => exact hjobs hc
    | sau => exact hsau hc
    | ocr => exact hocr hc
    | gcm => exact hgcm hc
    | ghm => exact hghm hc
    | cw => exact hcw hc
    | icd => exact hicd hc
    | lb => exact hlb hc
    | cc => exact hcc hc
    | ms => exact hms hc
    | ej => exact hej hc
    | rep => exact hrep hc
    | pi => exact hpi hc
    | pub => exact hpub hc
    | pending => exact hpending hc

/-! ### The queue and the clock -/

/-- An operation leaves the queue and the clock as they are. -/
def KeepsTime (s t : State) : Prop := t.now = s.now ∧ t.pending = s.pending

theorem onEdge_keepsTime (l : SauLine) (level : Bool) (s : State) {f : State → State} (h : ∀ s, KeepsTime s (f s)) :
    KeepsTime s (onEdge l level f s) := by
  unfold onEdge; dsimp only; split
  · exact h _
  · exact ⟨rfl, rfl⟩

theorem takeControl_keepsTime (p : PortId) (canonical : Word) (ok : Word → Bool) (arg : Word) (s : State)
    {body : State → Reply} (h : KeepsTime s (body s).state) : KeepsTime s (takeControl p canonical ok arg body s) := by
  unfold takeControl; split
  · exact ⟨rfl, rfl⟩
  · simpa [KeepsTime] using h

/-- The answer of the block that owns a command of port `p` with argument word `arg` (R193). -/
def ownerAnswer (p : PortId) (arg : Word) : Command → State → Reply
  | .enable .shaft => enableShaft
  | .enable .gear => enableGear
  | .enable .grid => enableGrid
  | .enable .coinc => enableCoinc
  | .enable .icing => enableIcing
  | .enable .maint => enableMaint
  | .disable .shaft => disableShaft
  | .disable .gear => disableGear
  | .disable .grid => disableGrid
  | .disable .coinc => disableCoinc
  | .disable .icing => disableIcing
  | .disable .maint => disableMaint
  | .clearCoincidence => clearCoincidence
  | .icingReport => icingReport
  | .icingRelease => icingRelease
  | .learnBaseline => learnBaseline
  | .restartRequest => restartRequest
  | .ackCap => ackCap arg.toNat
  | .clockArm => clockArm arg.toNat
  | .counterRestore => counterRestore arg.toNat
  | .itemDone => itemDone arg.toNat
  | .itemDefer => itemDefer arg.toNat
  | .journalAdvance => journalAdvance p arg.toNat
  | .attnMask => attnMask p arg

theorem ownerAnswer_keepsTime (p : PortId) (arg : Word) (c : Command) (s : State) :
    KeepsTime s (ownerAnswer p arg c s).state := by
  unfold KeepsTime
  cases c with
  | enable j => cases j <;> simp [ownerAnswer]
  | disable j => cases j <;> simp [ownerAnswer]
  | _ => simp [ownerAnswer]

/-- A row of the table that gives a command hands it to the block that owns it (R193). -/
theorem exec_control {i : Instr} {k : ControlWord} (h : controlOf i = some k) (s : State) :
    exec i s = .next (giveCommand k.command k.port k.arg (ownerAnswer k.port k.arg k.command) (s.advance k.dt)) := by
  cases i <;> simp only [controlOf, Option.some.injEq, reduceCtorEq] at h <;> subst h <;> rfl

theorem giveCommand_keepsTime (p : PortId) (arg : Word) (c : Command) (s : State) :
    KeepsTime s (giveCommand c p arg (ownerAnswer p arg c) s) := by
  refine takeControl_keepsTime _ _ _ _ _ ?_
  unfold permitted; split
  · exact ownerAnswer_keepsTime p arg c s
  · exact ⟨rfl, rfl⟩

/-! ### EveryCommandAnswersANextState -/

theorem ticksOf_control {i : Instr} {k : ControlWord} (h : controlOf i = some k) : ticksOf i = some k.dt := by
  cases i <;> simp only [controlOf, Option.some.injEq, reduceCtorEq] at h <;> subst h <;> rfl

/-- What a next state owes to the clock and the queue: an arrival moves the clock by its ticks, an expiry never back, and a part reset to 0. -/
def AnswersNext (c : Instr) (s : State) : Prop :=
  ∃ t, exec c s = .next t ∧ t.pending = s.pending ∧ (∀ dt, ticksOf c = some dt → t.now = s.now + dt) ∧
    (ticksOf c = none → (∃ a b d, c = .partReset a b d ∧ t.now = 0) ∨ s.now ≤ t.now)

/-- An arrival that brings `dt` ticks and then leaves queue and clock alone. -/
theorem answersNext_arrival {c : Instr} {dt : Nat} {s t : State} (hd : ticksOf c = some dt) (he : exec c s = .next t)
    (h : KeepsTime (s.advance dt) t) : AnswersNext c s := by
  refine ⟨t, he, h.2, fun dt' hd' => ?_, fun hn => ?_⟩
  · obtain rfl : dt = dt' := Option.some.inj (hd.symm.trans hd')
    exact h.1
  · exact absurd (hd.symm.trans hn) (nofun)

/-- An expiry that lets `d` ticks pass, 0 where nothing expires, and then leaves queue and clock alone. -/
theorem answersNext_expiry {c : Instr} (d : Nat) {s t : State} (hd : ticksOf c = none) (he : exec c s = .next t)
    (h : KeepsTime (s.advance d) t) : AnswersNext c s := by
  refine ⟨t, he, h.2, fun dt hd' => absurd (hd.symm.trans hd') (nofun), fun _ => .inr ?_⟩
  rw [h.1, State.advance_now]
  exact Nat.le_add_right _ _

theorem advance_zero (s : State) : KeepsTime (s.advance 0) s := ⟨rfl, rfl⟩

theorem phaseTick_keepsTime (order : TickOrder) (s : State) :
    KeepsTime (s.advance (second - s.cc.phase)) (phaseTick order s) := by
  simp [KeepsTime, phaseTick]

/-- A row that is a whole second tick when `b` holds, and nothing otherwise (log entry 5). -/
theorem answersNext_tickIf {c : Instr} {order : TickOrder} {s : State} (b : Prop) [Decidable b] (hd : ticksOf c = none)
    (he : exec c s = .next (if b then phaseTick order s else s)) : AnswersNext c s := by
  split at he
  · exact answersNext_expiry _ hd he (phaseTick_keepsTime order s)
  · exact answersNext_expiry 0 hd he (advance_zero s)

theorem answersNext (c : Instr) (s : State) : AnswersNext c s := by
  cases hc : controlOf c with
  | some k => exact answersNext_arrival (ticksOf_control hc) (exec_control hc s) (giveCommand_keepsTime _ _ _ _)
  | none =>
    cases c with
    | encoderEdge dt line level =>
      exact answersNext_arrival rfl rfl (onEdge_keepsTime _ _ _ (fun _ => by simp [KeepsTime]))
    | indexEdge dt level => exact answersNext_arrival rfl rfl (onEdge_keepsTime _ _ _ (fun _ => by simp [KeepsTime]))
    | toothEdge dt level => exact answersNext_arrival rfl rfl (onEdge_keepsTime _ _ _ (fun _ => by simp [KeepsTime]))
    | lsIndexEdge dt level => exact answersNext_arrival rfl rfl (onEdge_keepsTime _ _ _ (fun _ => by simp [KeepsTime]))
    | standstillTimerExpiry sd =>
      cases h : (s.sau.side sd).standstill with
      | none => exact answersNext_expiry 0 rfl (by simp only [exec, execStandstillTimerExpiry, h]) (advance_zero s)
      | some d =>
        exact answersNext_expiry (d - s.now) (t := standstillExpire sd (s.advanceTo d)) rfl
          (by simp only [exec, execStandstillTimerExpiry, h]) (by simp [KeepsTime, State.advanceTo])
    | linkTimerExpiry =>
      cases h : s.ocr.link.timer with
      | none => exact answersNext_expiry 0 rfl (by simp only [exec, execLinkTimerExpiry, h]) (advance_zero s)
      | some d =>
        exact answersNext_expiry (d - s.now) (t := linkExpire (s.advanceTo d)) rfl
          (by simp only [exec, execLinkTimerExpiry, h]) (by simp [KeepsTime, State.advanceTo])
    | lossTimerExpiry =>
      cases h : s.ghm.loss with
      | none => exact answersNext_expiry 0 rfl (by simp only [exec, execLossTimerExpiry, h]) (advance_zero s)
      | some d =>
        exact answersNext_expiry (d - s.now) (t := lossExpire (s.advanceTo d)) rfl
          (by simp only [exec, execLossTimerExpiry, h]) (by simp [KeepsTime, State.advanceTo])
    | strobe =>
      cases h : s.ghm.gen with
      | none => exact answersNext_expiry 0 rfl (by simp only [exec, execStrobe, h]) (advance_zero s)
      | some x =>
        cases h' : x.due with
        | none => exact answersNext_expiry 0 rfl (by simp only [exec, execStrobe, h, h']) (advance_zero s)
        | some d =>
          exact answersNext_expiry (d - s.now)
            (t := (s.advanceTo d).setGhm ((s.advanceTo d).ghm.strobe (s.advanceTo d).now x)) rfl
            (by simp only [exec, execStrobe, h, h']) ⟨rfl, rfl⟩
    | clockSetDeadline =>
      cases h : s.cc.armed with
      | none => exact answersNext_expiry 0 rfl (by simp only [exec, execClockSetDeadline, h]) (advance_zero s)
      | some a =>
        exact answersNext_expiry (a.deadline - s.now) (t := abandonClock (s.advanceTo a.deadline)) rfl
          (by simp only [exec, execClockSetDeadline, h]) (by simp [KeepsTime, State.advanceTo])
    | sampleSet | publishComplete | transactionStart | transactionHeader | headerWord | fillerWord | readDataWord
    | writeDataWord | recordWrite | commandWord | operatingArrival | statusWrite | shaftConfigurationWrite
    | gridConfigurationWrite | watchConfigurationWrite | icingConfigurationWrite | portReset =>
      exact answersNext_arrival rfl rfl (by simp [KeepsTime])
    | gzxEdge dt rising => exact answersNext_arrival rfl rfl (by split <;> simp [KeepsTime])
    | gridFrame dt words => exact answersNext_arrival rfl rfl (by split <;> simp [KeepsTime])
    | ppsEdge dt rising order =>
      exact answersNext_arrival rfl rfl (by
        split
        · split <;> simp [KeepsTime]
        · simp [KeepsTime])
    | secondTick order => exact answersNext_expiry _ rfl rfl (phaseTick_keepsTime order s)
    | ackTimerExpiry order => exact answersNext_tickIf (order := order) (s.lb.timer = some 1) rfl rfl
    | thawTimerExpiry order => exact answersNext_tickIf (order := order) (s.icd.thaw = some 1) rfl rfl
    | operatingRecordStale order =>
      exact answersNext_tickIf (order := order) (s.icd.fresh = .fresh ∧ s.icd.age = 4) rfl rfl
    | intervalClose order => exact answersNext_tickIf (order := order) (s.jobs.icing ∧ s.icd.second = 9) rfl rfl
    | lineDefinitionWrite dt p n ws => exact answersNext_arrival rfl rfl (by split <;> simp [KeepsTime])
    | itemDefinitionWrite dt p n ws => exact answersNext_arrival rfl rfl (by split <;> simp [KeepsTime])
    | unknownCommand dt p command arg =>
      refine answersNext_arrival rfl rfl ?_
      unfold takeUnknown; split
      · exact takeControl_keepsTime _ _ _ _ _ ⟨rfl, rfl⟩
      · exact ⟨rfl, rfl⟩
    | invalidJobCode dt p enable job arg =>
      refine answersNext_arrival rfl rfl ?_
      unfold takeNoJob; split
      · exact takeControl_keepsTime _ _ _ _ _ ⟨rfl, rfl⟩
      · exact ⟨rfl, rfl⟩
    | portResetRelease dt p => exact answersNext_arrival rfl rfl ⟨rfl, rfl⟩
    | partReset a b d => exact ⟨_, rfl, rfl, (nofun), fun _ => .inl ⟨a, b, d, rfl, rfl⟩⟩
    | _ => exact absurd hc (nofun)

/-- Settles O2, row by row: each hands a state that is `dt` ticks older, or as much as its deadline asks, to an operation that keeps queue and
clock. -/
theorem everyCommandAnswersANextState : Obligations.EveryCommandAnswersANextState := by
  unfold Obligations.EveryCommandAnswersANextState
  refine ⟨fun c s => ?_, fun s h => ?_, fun s h => ?_⟩
  · obtain ⟨t, he, hq, harr, hexp⟩ := answersNext c s
    refine ⟨t, he, hq, ?_⟩
    cases hd : ticksOf c with
    | some dt => exact harr dt hd
    | none => exact hexp hd
  · simp only [exec, execLinkTimerExpiry, h]
  · simp only [exec, execLossTimerExpiry, h]

end Sys2Proof.Machine

/-! PROOFS. The edges of the shaft lines: what is dropped, held off or repeated, what is taken, and the indexes that close no period
(DroppedOrRepeatedEdgeGivesNothing, IndexWithoutAPeriod). -/

namespace Sys2Proof.Machine

/-! ### Edges that are not taken (R3) -/

theorem deaf_iff (l : SauLine) (s : State) : (s.sau.side l.side).deaf = true ↔ Deaf l s := by
  simp [ShaftSide.deaf, Deaf]

theorem heldOff_iff (l : SauLine) (s : State) : (s.sau.line l).heldOff s.sau.active.holdOff s.now = true ↔ HeldOff l s := by
  unfold EdgeLine.heldOff HeldOff
  cases (s.sau.line l).last <;> simp

theorem onEdge_deaf {l : SauLine} {s : State} (level : Bool) (f : State → State) (h : Deaf l s) :
    onEdge l level f s = s.setSau (s.sau.setLine l { s.sau.line l with present := level }) := by
  have hd := (deaf_iff l s).2 h
  simp [onEdge, edgeChanges, edgeAccepted, Sau.takeEdge, hd]

theorem onEdge_heldOff {l : SauLine} {s : State} (level : Bool) (f : State → State) (h : ¬Deaf l s) (hh : HeldOff l s) :
    onEdge l level f s =
      s.setSau ((s.sau.setLine l { s.sau.line l with present := level }).setSide l.side
        { s.sau.side l.side with dropped := satAdd 65535 (s.sau.side l.side).dropped 1 }) := by
  have hd := mt (deaf_iff l s).1 h
  have hh := (heldOff_iff l s).2 hh
  simp [onEdge, edgeChanges, edgeAccepted, Sau.takeEdge, hd, hh]

/-- An accepted edge that repeats the held level of its line only gives it a time. -/
theorem onEdge_repeated {l : SauLine} {level : Bool} {s : State} (f : State → State) (h : ¬Deaf l s) (hh : ¬HeldOff l s)
    (hr : (s.sau.line l).held = level) : onEdge l level f s = s.setSau (s.seen l level) := by
  have hd := mt (deaf_iff l s).1 h
  have hh := mt (heldOff_iff l s).1 hh
  simp [onEdge, edgeChanges, edgeAccepted, Sau.takeEdge, State.seen, hd, hh, hr]

/-- What follows an edge of a line that is taken (R4, R6, R11, R12). -/
def edgeMeaning : SauLine → Bool → State → State
  | .a => decodeEdge .a
  | .b => decodeEdge .b
  | .z => takeIndex
  | .t => takeTooth
  | .lsz => takeLsIndex

theorem exec_edgeOf (l : SauLine) (dt : Nat) (level : Bool) (s : State) :
    exec (edgeOf l dt level) s = .next (onEdge l level (edgeMeaning l level) (s.advance dt)) := by
  cases l <;> rfl

/-- Settles O3 by the lemma of `onEdge` for each way an edge gives nothing. -/
theorem droppedOrRepeatedEdgeGivesNothing : Obligations.DroppedOrRepeatedEdgeGivesNothing := by
  unfold Obligations.DroppedOrRepeatedEdgeGivesNothing
  intro l dt level s u
  rw [exec_edgeOf]
  refine ⟨fun h => ?_, fun h hh => ?_, fun h hh hr => ?_⟩
  · rw [onEdge_deaf _ _ h]
  · rw [onEdge_heldOff _ _ h hh]; rfl
  · rw [onEdge_repeated _ h hh hr]

/-! ### Edges that are taken -/

/-- An edge that is taken is handed on with its line's level and time stored. -/
theorem exec_edge_taken {l : SauLine} {dt : Nat} {level : Bool} {s : State} (h : EdgeTaken l level (s.advance dt)) :
    exec (edgeOf l dt level) s =
      .next (edgeMeaning l level ((s.advance dt).setSau ((s.advance dt).seen l level))) := by
  rw [exec_edgeOf, onEdge_taken h]

/-- Storing a level moves nothing of the SAU but its line. -/
@[simp] theorem State.seen_frame (s : State) (l : SauLine) (level : Bool) :
    (s.seen l level).config = s.sau.config ∧ (s.seen l level).active = s.sau.active ∧ (s.seen l level).reverse = s.sau.reverse ∧
      (s.seen l level).hs = s.sau.hs ∧ (s.seen l level).ls = s.sau.ls ∧ (s.seen l level).ratio = s.sau.ratio ∧
      (s.seen l level).armed = s.sau.armed ∧ (s.seen l level).testedR = s.sau.testedR ∧
      (s.seen l level).mismatch = s.sau.mismatch ∧ (s.seen l level).lastAngle = s.sau.lastAngle := by
  cases l <;> simp [State.seen, Sau.setLine]

@[simp] theorem State.seen_side (s : State) (l : SauLine) (level : Bool) (sd : Side) :
    (s.seen l level).side sd = s.sau.side sd := by
  cases sd <;> simp [Sau.side]

/-! ### Indexes that close no period (R6, R7, R12) -/

/-- The held levels of A and B stand in the configured quadrant (R6). -/
def InQuadrant (s : State) : Prop := s.sau.la.held = s.sau.active.quadA ∧ s.sau.lb.held = s.sau.active.quadB

theorem takeIndex_unqualified {level : Bool} {s : State} (h : ¬(level = true ∧ InQuadrant s)) : takeIndex level s = s :=
  if_neg h

theorem takeIndex_reverse {s : State} (h : InQuadrant s) (hr : s.sau.reverse = true) : takeIndex true s = reverseIndex s :=
  (if_pos ⟨rfl, h⟩).trans (if_pos hr)

theorem takeIndex_forward {s : State} (h : InQuadrant s) (hr : s.sau.reverse = false) :
    takeIndex true s = forwardIndex .hs s :=
  (if_pos ⟨rfl, h⟩).trans (if_neg (by simp [hr]))

theorem takeLsIndex_ignored {level : Bool} {s : State} (h : level = false ∨ s.sau.reverse = true) :
    takeLsIndex level s = s :=
  if_neg (by rcases h with rfl | hr <;> simp [*])

theorem takeLsIndex_forward {s : State} (hr : s.sau.reverse = false) : takeLsIndex true s = forwardIndex .ls s :=
  if_pos (by simp [hr])

/-- The command of a forward index hands it to the side (R6, R12). -/
theorem exec_forwardIndex {sd : Side} {dt : Nat} {s : State} (h : ForwardIndex sd (s.advance dt)) :
    exec (edgeOf (indexLine sd) dt true) s =
      .next (forwardIndex sd ((s.advance dt).setSau ((s.advance dt).seen (indexLine sd) true))) := by
  obtain ⟨htaken, hrev, hquad⟩ := h
  rw [exec_edge_taken htaken]
  cases sd with
  | hs => exact congrArg _ (takeIndex_forward (hquad rfl) hrev)
  | ls => exact congrArg _ (takeLsIndex_forward hrev)

/-- The slip check of the model is that of the statements. -/
theorem isSlip_iff (sd : Side) (s : State) :
    IsSlip sd s ↔ (s.sau.side sd).referenced = true ∧ (s.sau.side sd).position ≠ (fullTurn s.sau.active sd : Int) := by
  cases sd <;> rfl

/-- The side as step 2 of R6 leaves it at an index that is no SLIP: the run of slips ended, the position reloaded. -/
def ShaftSide.reloaded (x : ShaftSide) : ShaftSide :=
  { x with consecutive := if x.referenced then 0 else x.consecutive, position := 0, referenced := true }

/-- A forward index that is no SLIP reloads the position and closes a period or starts timing (R6). -/
theorem forwardIndex_noSlip {sd : Side} {s : State} (h : ¬IsSlip sd s) :
    forwardIndex sd s =
      if (s.sau.side sd).timed then closePeriod sd (s.sau.side sd).reloaded s
      else s.setSide sd ((s.sau.side sd).reloaded.restart.rearm (standstillDeadline s)) := by
  have hy : (if (s.sau.side sd).referenced then { s.sau.side sd with consecutive := 0 } else s.sau.side sd).reload =
      (s.sau.side sd).reloaded := by
    unfold ShaftSide.reloaded ShaftSide.reload
    split <;> simp_all
  unfold forwardIndex
  dsimp only
  rw [if_neg (mt (isSlip_iff sd s).2 h), hy]

/-- What step 4 of R6 does to a side. -/
theorem ShaftSide.rearm_eq (deadline : Nat) (x : ShaftSide) :
    x.rearm deadline = { x with standstill := if x.state = .tracking then some deadline else x.standstill } := by
  unfold ShaftSide.rearm; split <;> rfl

theorem standstillDeadline_seen (s : State) (l : SauLine) (level : Bool) :
    standstillDeadline (s.setSau (s.seen l level)) = s.now + s.sau.active.tStand * 40000000 := by
  simp [standstillDeadline]

/-- Whether an index is a SLIP does not depend on the level just stored. -/
theorem isSlip_seen (sd : Side) (s : State) (l : SauLine) (level : Bool) :
    IsSlip sd (s.setSau (s.seen l level)) ↔ IsSlip sd s := by
  simp [isSlip_iff]

/-- Settles O5, case by case of the tests of R6, R7 and R12. -/
theorem indexWithoutAPeriod : Obligations.IndexWithoutAPeriod := by
  unfold Obligations.IndexWithoutAPeriod
  intro dt level s u quadrant
  refine ⟨fun ht hq => ?_, fun ht hq hr => ?_, fun ht hq => ?_, fun sd => ?_⟩
  · exact (exec_edge_taken (l := .z) ht).trans (congrArg _ (takeIndex_unqualified hq))
  · exact (exec_edge_taken (l := .z) ht).trans (congrArg _ (takeIndex_reverse hq hr))
  · exact (exec_edge_taken (l := .lsz) ht).trans (congrArg _ (takeLsIndex_ignored hq))
  · intro x hf hs ht
    rw [exec_forwardIndex hf, forwardIndex_noSlip (mt (isSlip_seen _ _ _ _).1 hs), standstillDeadline_seen]
    simp only [State.setSau_sau, State.seen_side]
    rw [if_neg (Bool.eq_false_iff.1 ht), ShaftSide.rearm_eq]
    rfl

end Sys2Proof.Machine

/-! PROOFS. The frame engines at angle points and at a change of direction, and the counts and teeth that bring them (ToothCounts,
EncoderEdgeCounts, ToothGivesTheFrameASample). -/

namespace Sys2Proof.Machine

/-! ### The two sides -/

@[simp] theorem Ocr.engine_setEngine_other (x : Ocr) (sd : Side) (e : Engine) :
    (x.setEngine sd e).engine (otherSide sd) = x.engine (otherSide sd) := by
  cases sd <;> rfl

@[simp] theorem Sau.side_setSide_other (x : Sau) (sd : Side) (y : ShaftSide) :
    (x.setSide sd y).side (otherSide sd) = x.side (otherSide sd) := by
  cases sd <;> rfl

/-- The link is no part of an engine. -/
@[simp] theorem Ocr.engine_link (x : Ocr) (l : Link) (sd : Side) : ({ x with link := l } : Ocr).engine sd = x.engine sd := by
  cases sd <;> rfl

/-! ### A frame that ends (R28, R31) -/

/-- A discarded frame leaves its engine WAITING with its cause, the next sequence and the frame's reuse count. -/
@[simp] theorem Engine.discard_leaves (cause : DiscardCause) (f : Frame) (e : Engine) :
    (e.discard cause f).collecting = false ∧ (e.discard cause f).last = .discarded cause ∧
      (e.discard cause f).seq = (e.seq + 1) % 65536 ∧ (e.discard cause f).lastReuse = f.reuse := by
  unfold Engine.discard; dsimp only; split <;> simp [Engine.wait]

/-- To end a COLLECTING frame changes of the correlator its engine alone. -/
theorem discardFrame_ocr (sd : Side) (cause : DiscardCause) (s : State) :
    (discardFrame sd cause s).ocr =
      if (s.ocr.engine sd).collecting then
        s.ocr.setEngine sd ((s.ocr.engine sd).discard cause (s.ocr.engine sd).frame)
      else s.ocr := by
  unfold discardFrame discardAs; split <;> simp

@[simp] theorem discardFrame_keeps (sd : Side) (cause : DiscardCause) (s : State) :
    (discardFrame sd cause s).ocr.link = s.ocr.link ∧ (discardFrame sd cause s).ocr.results = s.ocr.results ∧
      (discardFrame sd cause s).ocr.engine (otherSide sd) = s.ocr.engine (otherSide sd) := by
  rw [discardFrame_ocr]; split <;> simp

@[simp] theorem discardFrame_waits (sd : Side) (cause : DiscardCause) (s : State) :
    ((discardFrame sd cause s).ocr.engine sd).collecting = false := by
  rw [discardFrame_ocr]; split <;> simp_all

/-- A source's frame is over: its engine is WAITING, and a frame that was COLLECTING ended with this cause. -/
def FrameOver (cause : DiscardCause) (a b : Engine) : Prop :=
  b.collecting = false ∧ (a.collecting = true → b.last = .discarded cause ∧ b.seq = (a.seq + 1) % 65536)

theorem discardFrame_over (sd : Side) (cause : DiscardCause) (s : State) :
    FrameOver cause (s.ocr.engine sd) ((discardFrame sd cause s).ocr.engine sd) := by
  refine ⟨discardFrame_waits sd cause s, fun h => ?_⟩
  rw [discardFrame_ocr, if_pos h]
  simp

/-- A change of direction ends the frames of both sources and leaves link and line results (R28). -/
theorem directionToFrames_over (s : State) (sd : Side) :
    FrameOver .reverse (s.ocr.engine sd) ((directionToFrames s).ocr.engine sd) := by
  unfold directionToFrames
  cases sd with
  | hs =>
    have hkept := (discardFrame_keeps .ls .reverse (discardFrame .hs .reverse s)).2.2
    simp only [otherSide] at hkept
    rw [hkept]
    exact discardFrame_over .hs .reverse s
  | ls =>
    have hkept := (discardFrame_keeps .hs .reverse s).2.2
    simp only [otherSide] at hkept
    rw [← hkept]
    exact discardFrame_over .ls .reverse _

@[simp] theorem directionToFrames_keeps (s : State) :
    (directionToFrames s).ocr.link = s.ocr.link ∧ (directionToFrames s).ocr.results = s.ocr.results := by
  simp [directionToFrames]

/-! ### Angle points (R5, R11, R22, R23) -/

@[simp] theorem anglePoint_sau (sd : Side) (index : Nat) (s : State) :
    (anglePoint sd index s).sau = { s.sau with lastAngle := some (sd, index) } := by
  simp [anglePoint]

theorem angleToFrames_waiting {sd : Side} {s : State} (h : (s.ocr.engine sd).collecting = false) :
    angleToFrames sd s = s.setOcr { s.ocr with link := s.ocr.link.clearNew sd } := by
  simp [angleToFrames, Engine.current, h]

theorem angleToFrames_full {sd : Side} {s : State} (h : (s.ocr.engine sd).collecting = true)
    (hf : (s.ocr.engine sd).frame.samples = (s.ocr.engine sd).frame.length) :
    angleToFrames sd s = discardFrame sd .encoder (s.setOcr { s.ocr with link := s.ocr.link.clearNew sd }) := by
  simp [angleToFrames, Engine.current, h, hf]

theorem angleToFrames_room {sd : Side} {s : State} (h : (s.ocr.engine sd).collecting = true)
    (hf : (s.ocr.engine sd).frame.samples ≠ (s.ocr.engine sd).frame.length) :
    angleToFrames sd s =
      setFrame sd ((s.ocr.engine sd).frame.take (s.ocr.link.latest.getD ⟨0, 0, 0, 0⟩) (s.ocr.link.isNew sd))
        (s.setOcr { s.ocr with link := s.ocr.link.clearNew sd }) := by
  simp [angleToFrames, Engine.current, h, hf]

/-- An angle point clears NEW of its source whatever the engine does with it (R22). -/
@[simp] theorem angleToFrames_link (sd : Side) (s : State) :
    (angleToFrames sd s).ocr.link = s.ocr.link.clearNew sd := by
  cases h : (s.ocr.engine sd).collecting with
  | false => simp [angleToFrames_waiting h]
  | true =>
    by_cases hf : (s.ocr.engine sd).frame.samples = (s.ocr.engine sd).frame.length
    · simp [angleToFrames_full h hf]
    · simp [angleToFrames_room h hf, setFrame]

@[simp] theorem anglePoint_link (sd : Side) (index : Nat) (s : State) :
    (anglePoint sd index s).ocr.link = s.ocr.link.clearNew sd := by
  simp [anglePoint]

/-- To a WAITING engine an angle point does nothing but clear NEW. -/
theorem anglePoint_waiting {sd : Side} {s : State} (index : Nat) (h : (s.ocr.engine sd).collecting = false) :
    anglePoint sd index s =
      (s.setSau { s.sau with lastAngle := some (sd, index) }).setOcr { s.ocr with link := s.ocr.link.clearNew sd } := by
  unfold anglePoint
  rw [angleToFrames_waiting (by simpa using h)]
  rfl

/-! ### Teeth (R11) -/

theorem takeTooth_ignored {level : Bool} {s : State} (h : level = false ∨ s.sau.reverse = true) : takeTooth level s = s :=
  if_neg (by rcases h with rfl | hr <;> simp [*])

theorem takeTooth_forward {s : State} (hr : s.sau.reverse = false) :
    takeTooth true s =
      anglePoint .ls (s.sau.ls.position % 128).toNat
        (s.setSide .ls { s.sau.ls with position := min 65535 (s.sau.ls.position + 1) }) :=
  if_pos (by simp [hr])

/-- Settles O9: a tooth is the LS angle point of its index and a saturating count. -/
theorem toothCounts : Obligations.ToothCounts := by
  unfold Obligations.ToothCounts
  intro dt level s u ht
  have hexec := exec_edge_taken (l := .t) ht
  refine ⟨fun h => hexec.trans (congrArg _ (takeTooth_ignored h)), fun hl hr => ?_⟩
  subst hl
  refine ⟨_, hexec.trans (congrArg _ (takeTooth_forward hr)), ?_, ?_⟩
  · simp [onlyTouches_iff, u]
  · rw [anglePoint_sau]; rfl

/-! ### Counts (R4, R5) -/

/-- The table of R4 is whether the edge counts in its mode, and in which direction. -/
theorem countTable_eq (line : EncoderLine) (level other : Bool) (m : DecodeMode) :
    countTable line level other m =
      if edgeCounts m line level then (if edgeForward line level other then 1 else -1) else 0 := by
  cases line <;> cases level <;> cases other <;> cases m <;> rfl

/-- An edge that changed its line does what its count in the table of R4 says. -/
theorem decodeEdge_eq (line : EncoderLine) (level : Bool) (s : State) :
    decodeEdge line level s =
      let n := countTable line level (otherHeld s.sau line) s.sau.active.mode
      if n = 0 then s else countEdge (n = 1) s := by
  unfold decodeEdge
  rw [countTable_eq]
  cases edgeCounts s.sau.active.mode line level <;> cases edgeForward line level (otherHeld s.sau line) <;> rfl

theorem setDirection_same {rev : Bool} {s : State} (h : s.sau.reverse = rev) : setDirection rev s = s := if_pos h

theorem setDirection_clears {s : State} (h : s.sau.reverse = true) :
    setDirection false s = directionToFrames (s.setSau { s.sau with reverse := false }) := by
  simp [setDirection, h]

theorem setDirection_sets {s : State} (h : s.sau.reverse = false) :
    setDirection true s = directionToFrames (s.setSau
      { s.sau with
        hs := { s.sau.hs with timed := false }
        ls := { s.sau.ls with timed := false, referenced := false }
        reverse := true
        armed := false
        ratio := 0 }) := by
  simp [setDirection, h, Sau.disarm]

/-- A forward count leaves REVERSE clear, whatever it was. -/
theorem setDirection_false_sau (s : State) : (setDirection false s).sau = { s.sau with reverse := false } := by
  cases h : s.sau.reverse with
  | false => rw [setDirection_same h, ← h]
  | true => rw [setDirection_clears h]; simp

theorem setDirection_link (rev : Bool) (s : State) : (setDirection rev s).ocr.link = s.ocr.link := by
  unfold setDirection; split <;> simp

/-- A change of REVERSE ends the frames of both sources. -/
theorem setDirection_over {rev : Bool} {s : State} (h : s.sau.reverse ≠ rev) (sd : Side) :
    FrameOver .reverse (s.ocr.engine sd) ((setDirection rev s).ocr.engine sd) ∧
      (setDirection rev s).ocr.results = s.ocr.results := by
  unfold setDirection
  rw [if_neg h]
  exact ⟨directionToFrames_over _ sd, by simp⟩

/-- The state after a count, before its direction and its angle point: the position moved. -/
def State.counted (s : State) (up : Bool) : State :=
  s.setSide .hs { s.sau.hs with position := movePosition s.sau.hs.position up }

/-- A forward count that meets no multiple of D changes position and direction alone. -/
theorem countEdge_forward_off {s : State} (h : movePosition s.sau.hs.position true % (s.sau.active.dec : Int) ≠ 0) :
    countEdge true s = setDirection false (s.counted true) := by
  simp [countEdge, State.counted, h]

/-- A forward count at a multiple of D also issues the angle point of its index. -/
theorem countEdge_forward_on {s : State} (h : movePosition s.sau.hs.position true % (s.sau.active.dec : Int) = 0) :
    countEdge true s =
      anglePoint .hs (angleIndex s.sau.active (movePosition s.sau.hs.position true)) (setDirection false (s.counted true)) := by
  simp [countEdge, State.counted, h]

theorem countEdge_backward (s : State) : countEdge false s = setDirection true (s.counted false) := by
  simp [countEdge, State.counted]

/-- A change of REVERSE by a count ends the frames of both sources; the angle point of the count finds them WAITING (R28). -/
theorem countEdge_over {up : Bool} {s : State} (h : s.sau.reverse = up) (sd : Side) :
    FrameOver .reverse (s.ocr.engine sd) ((countEdge up s).ocr.engine sd) ∧
      (countEdge up s).ocr.results = s.ocr.results := by
  have hover := fun sd => setDirection_over (rev := !up) (s := s.counted up) (by simp [State.counted, State.setSide, h]) sd
  cases up with
  | false => rw [countEdge_backward]; exact hover sd
  | true =>
    by_cases hd : movePosition s.sau.hs.position true % (s.sau.active.dec : Int) = 0
    · rw [countEdge_forward_on hd, anglePoint_waiting (s := setDirection false (s.counted true)) _ (hover .hs).1.1]
      simp only [State.setOcr_ocr, Ocr.engine_link]
      exact hover sd
    · rw [countEdge_forward_off hd]; exact hover sd

/-- What a forward count leaves of the SAU and the link (R4, R5, R22). -/
theorem countEdge_forward (s : State) :
    let pos := movePosition s.sau.hs.position true
    let on := pos % (s.sau.active.dec : Int) = 0
    (countEdge true s).sau = { s.sau with
      hs := { s.sau.hs with position := pos }
      reverse := false
      lastAngle := if on then some (.hs, angleIndex s.sau.active pos) else s.sau.lastAngle } ∧
    (countEdge true s).ocr.link = { s.ocr.link with newHs := if on then false else s.ocr.link.newHs } := by
  dsimp only
  by_cases hd : movePosition s.sau.hs.position true % (s.sau.active.dec : Int) = 0
  · rw [countEdge_forward_on hd, anglePoint_sau, anglePoint_link, setDirection_false_sau, setDirection_link]
    simp [hd, State.counted, State.setSide, Sau.setSide, Link.clearNew]
  · rw [countEdge_forward_off hd, setDirection_false_sau, setDirection_link]
    simp [hd, State.counted, State.setSide, Sau.setSide]

/-- A backward count with REVERSE already set moves the position alone. -/
theorem countEdge_backward_on {s : State} (h : s.sau.reverse = true) : countEdge false s = s.counted false := by
  rw [countEdge_backward]
  exact setDirection_same h

/-- What a backward count that sets REVERSE leaves of the SAU (R4, R12, R13). -/
theorem countEdge_backward_sau {s : State} (h : s.sau.reverse = false) :
    (countEdge false s).sau = { s.sau with
      hs := { s.sau.hs with position := movePosition s.sau.hs.position false, timed := false }
      ls := { s.sau.ls with timed := false, referenced := false }
      reverse := true
      armed := false
      ratio := 0 } := by
  rw [countEdge_backward, setDirection_sets (s := s.counted false) h]
  simp [State.counted, State.setSide, Sau.setSide]

theorem countEdge_backward_link (s : State) : (countEdge false s).ocr.link = s.ocr.link := by
  rw [countEdge_backward, setDirection_link]
  rfl

/-- A count leaves REVERSE clear exactly when it is forward (R4). -/
theorem countEdge_reverse (up : Bool) (s : State) : (countEdge up s).sau.reverse = !up := by
  cases up with
  | true => rw [(countEdge_forward s).1]; rfl
  | false =>
    cases h : s.sau.reverse with
    | false => rw [countEdge_backward_sau h]; rfl
    | true => rw [countEdge_backward_on h]; exact h

/-- Settles O4: the table of R4 says which count an edge is; a forward one is `countEdge_forward`, a backward one a move and a direction, and a
change of direction is `countEdge_over`. -/
theorem encoderEdgeCounts : Obligations.EncoderEdgeCounts := by
  unfold Obligations.EncoderEdgeCounts
  intro dt line level s u l other n x pos ht
  have hexec : exec (.encoderEdge dt line level) s = .next (decodeEdge line level (u.setSau x)) := by
    cases line <;> exact exec_edge_taken ht
  have hn : countTable line level (otherHeld (u.setSau x).sau line) (u.setSau x).sau.active.mode = n := by
    cases line <;> rfl
  have hdec : decodeEdge line level (u.setSau x) = if n = 0 then u.setSau x else countEdge (n = 1) (u.setSau x) := by
    rw [decodeEdge_eq, hn]
  have hforward : n = 1 → decodeEdge line level (u.setSau x) = countEdge true (u.setSau x) := fun h => by
    simp [hdec, h]
  have hbackward : n = -1 → decodeEdge line level (u.setSau x) = countEdge false (u.setSau x) := fun h => by
    simp [hdec, h]
  have hrev : u.sau.reverse = (u.setSau x).sau.reverse := by simp [x]
  refine ⟨_, hexec, by simp [onlyTouches_iff], fun h => ?_, fun h => ?_, fun h hr => ?_, fun h hr => ?_, fun h => ?_, fun h => ?_,
    fun h => ?_⟩
  · rw [hdec, if_pos h]
  · have hpos : movePosition x.hs.position true = pos := by simp only [pos, h]; rfl
    rw [hforward h, (countEdge_forward _).1, ← hpos]
    rfl
  · have hpos : movePosition x.hs.position false = pos := by simp only [pos, h]; rfl
    rw [hbackward h, countEdge_backward_on hr, ← hpos]
    rfl
  · have hpos : movePosition x.hs.position false = pos := by simp only [pos, h]; rfl
    rw [hbackward h, countEdge_backward_sau hr, ← hpos]
    rfl
  · have hpos : movePosition x.hs.position true = pos := by simp only [pos, h]; rfl
    rw [hforward h, (countEdge_forward _).2, ← hpos]
    rfl
  · rw [hbackward h, countEdge_backward_link]
    rfl
  · have hover : ∀ sd, FrameOver .reverse (u.ocr.engine sd) ((decodeEdge line level (u.setSau x)).ocr.engine sd) ∧
        (decodeEdge line level (u.setSau x)).ocr.results = u.ocr.results := by
      intro sd
      by_cases h0 : n = 0
      · rw [hdec, if_pos h0] at h
        exact absurd hrev.symm h
      · rw [hdec, if_neg h0] at h ⊢
        rw [countEdge_reverse, hrev] at h
        exact countEdge_over (by simpa [eq_comm] using h) sd
    obtain ⟨⟨hhs, hhs'⟩, hres⟩ := hover .hs
    obtain ⟨⟨hls, hls'⟩, -⟩ := hover .ls
    exact ⟨hhs, hls, hres, hhs', hls'⟩

/-! ### The sample of an angle point (R22, R23, R32, R34) -/

/-- An A or B edge that is taken is decoded with its line's level stored (R4). -/
theorem exec_encoderEdge_taken {line : EncoderLine} {dt : Nat} {level : Bool} {s : State}
    (h : EdgeTaken (encoderSauLine line) level (s.advance dt)) :
    exec (.encoderEdge dt line level) s =
      .next (decodeEdge line level ((s.advance dt).setSau ((s.advance dt).seen (encoderSauLine line) level))) := by
  cases line <;> exact exec_edge_taken h

/-- A forward count to a multiple of D, with REVERSE clear before it, is the angle point of its index (R5). -/
theorem decodeEdge_anglePoint {line : EncoderLine} {level : Bool} {s : State} (hrev : s.sau.reverse = false)
    (hn : countTable line level (otherHeld s.sau line) s.sau.active.mode = 1)
    (hpos : movePosition s.sau.hs.position true % (s.sau.active.dec : Int) = 0) :
    ∃ index y, decodeEdge line level s = anglePoint .hs index (s.setSau y) := by
  refine ⟨angleIndex s.sau.active (movePosition s.sau.hs.position true), (s.counted true).sau, ?_⟩
  rw [decodeEdge_eq, hn]
  refine (countEdge_forward_on hpos).trans ?_
  rw [setDirection_same (s := s.counted true) hrev]
  rfl

/-- A command that is an angle point of a side, with REVERSE clear before and after it, hands exactly that angle point on (R5, R11). -/
theorem exec_anglePoint {sd : Side} {dt : Nat} {i : Instr} {s : State} (hd : ticksOf i = some dt)
    (h : AnglePoint sd i (s.advance dt)) :
    ∃ index y, exec i s = .next (anglePoint sd index ((s.advance dt).setSau y)) := by
  obtain ⟨hrev, hpoint⟩ := h
  cases sd with
  | hs =>
    obtain ⟨dt', line, level, rfl, ht, hn, hpos⟩ := hpoint
    obtain rfl : dt' = dt := Option.some.inj hd
    have ht : EdgeTaken (encoderSauLine line) level (s.advance dt') := by cases line <;> exact ht
    obtain ⟨index, y, he⟩ := decodeEdge_anglePoint (line := line) (level := level)
      (s := (s.advance dt').setSau ((s.advance dt').seen (encoderSauLine line) level)) (by cases line <;> exact hrev)
      (by cases line <;> exact hn) (by cases line <;> exact hpos)
    exact ⟨index, y, (exec_encoderEdge_taken ht).trans (congrArg _ he)⟩
  | ls =>
    obtain ⟨dt', rfl, ht⟩ := hpoint
    obtain rfl : dt' = dt := Option.some.inj hd
    exact ⟨_, _, (exec_edge_taken (l := .t) ht).trans (congrArg _ (takeTooth_forward hrev))⟩

/-- An angle point that a COLLECTING frame with room takes touches the engine's frame and NEW alone (R22, R23). -/
theorem anglePoint_room {sd : Side} {s : State} (index : Nat) (h : (s.ocr.engine sd).collecting = true)
    (hf : (s.ocr.engine sd).frame.samples ≠ (s.ocr.engine sd).frame.length) :
    anglePoint sd index s =
      (s.setSau { s.sau with lastAngle := some (sd, index) }).setOcr
        (({ s.ocr with link := s.ocr.link.clearNew sd } : Ocr).setEngine sd { s.ocr.engine sd with
          frame := (s.ocr.engine sd).frame.take (s.ocr.link.latest.getD ⟨0, 0, 0, 0⟩) (s.ocr.link.isNew sd) }) := by
  unfold anglePoint
  rw [angleToFrames_room (by simpa using h) (by simpa using hf)]
  cases sd <;> rfl

/-- A sample taken from the latest set, with the words of R34 for the sums and of R32 for the phases. -/
theorem Frame.take_eq (f : Frame) (x : SampleSet) (new : Bool) :
    f.take x new = { f with
      samples := f.samples + 1
      reuse := if new then f.reuse else f.reuse + 1
      lines := f.lines.map (fun l =>
        if l.evaluable then
          { l with
            i := l.i + x.channel l.channel * cosTable (l.phase / 256)
            q := l.q + x.channel l.channel * cosTable ((l.phase / 256 + 192) % 256)
            phase := (l.phase + l.kq * 4096 / f.s) % 65536 }
        else l) } := rfl

/-- An angle point ends a full frame ENCODER (R22). -/
theorem anglePoint_full {sd : Side} {s : State} (index : Nat) (h : (s.ocr.engine sd).collecting = true)
    (hf : (s.ocr.engine sd).frame.samples = (s.ocr.engine sd).frame.length) :
    (anglePoint sd index s).ocr =
      ({ s.ocr with link := s.ocr.link.clearNew sd } : Ocr).setEngine sd
        ((s.ocr.engine sd).discard .encoder (s.ocr.engine sd).frame) := by
  unfold anglePoint
  rw [angleToFrames_full (by simpa using h) (by simpa using hf), discardFrame_ocr]
  simp [h]

/-- Settles O13: an angle point meets a WAITING engine, a COLLECTING frame with room, or a full one. -/
theorem toothGivesTheFrameASample : Obligations.ToothGivesTheFrameASample := by
  unfold Obligations.ToothGivesTheFrameASample
  intro sd dt i s u e f new link hd hp
  obtain ⟨index, y, hexec⟩ := exec_anglePoint hd hp
  have hlink : u.ocr.link.clearNew sd = link := by cases sd <;> rfl
  have hnew : u.ocr.link.isNew sd = new := by cases sd <;> rfl
  refine ⟨fun hw => ?_, fun x hc hx hroom => ?_, fun hc hfull => ?_⟩
  · refine ⟨_, hexec.trans (congrArg _ (anglePoint_waiting (s := u.setSau y) index hw)), by simp [onlyTouches_iff], ?_⟩
    rw [← hlink]
    rfl
  · refine ⟨_, hexec.trans (congrArg _ (anglePoint_room (s := u.setSau y) index hc hroom)), by simp [onlyTouches_iff], ?_⟩
    simp only [State.setOcr_ocr, State.setSau_ocr, hlink, hnew, hx, Option.getD_some, Frame.take_eq]
    rfl
  · have hocr := anglePoint_full (s := u.setSau y) index hc hfull
    refine ⟨_, hexec, by simp only [onlyTouches_iff]; simp [u], ?_⟩
    simp only [State.setSau_ocr, hlink] at hocr
    rw [hocr]
    simp [e, f]

end Sys2Proof.Machine

/-! PROOFS. What an event appends to the journal, said once for each shared operation. -/

namespace Sys2Proof.Machine

/-! ### Entries of one event (R172) -/

/-- From `s` to `t` exactly these entries are appended, in this order, and the calendar that stamps them stands. -/
def Logs (bs : List EntryBody) (s t : State) : Prop :=
  t.cc.time = s.cc.time ∧ t.cc.isSet = s.cc.isSet ∧ t.ej = (s.journalAll bs).ej

@[simp] theorem State.journalAll_cons (s : State) (b : EntryBody) (bs : List EntryBody) :
    s.journalAll (b :: bs) = (s.journal b).journalAll bs := rfl

theorem State.journalAll_append (s : State) (bs cs : List EntryBody) :
    s.journalAll (bs ++ cs) = (s.journalAll bs).journalAll cs := List.foldl_append

/-- What an entry makes of the journal depends on the journal and the calendar alone. -/
theorem State.journal_ej_congr {s t : State} (b : EntryBody) (he : s.ej = t.ej) (ht : s.cc.time = t.cc.time)
    (hu : s.cc.isSet = t.cc.isSet) : (s.journal b).ej = (t.journal b).ej := by
  simp only [State.journal_ej, State.entryOf, he, ht, hu]

theorem State.journalAll_ej_congr {s t : State} (bs : List EntryBody) (he : s.ej = t.ej) (ht : s.cc.time = t.cc.time)
    (hu : s.cc.isSet = t.cc.isSet) : (s.journalAll bs).ej = (t.journalAll bs).ej := by
  induction bs generalizing s t with
  | nil => exact he
  | cons b bs ih => exact ih (State.journal_ej_congr b he ht hu) (by simpa using ht) (by simpa using hu)

theorem logs_nil {s t : State} (he : t.ej = s.ej) (hc : t.cc = s.cc) : Logs [] s t := ⟨by rw [hc], by rw [hc], he⟩

theorem logs_journalAll (bs : List EntryBody) (s : State) : Logs bs s (s.journalAll bs) := ⟨by simp, by simp, rfl⟩

theorem logs_raise (f : Flag) (s : State) : Logs [] s (s.raise f) := logs_nil rfl rfl

theorem logs_journal (b : EntryBody) (s : State) : Logs [b] s (s.journal b) := logs_journalAll [b] s

theorem Logs.trans {bs cs : List EntryBody} {s t u : State} (h : Logs bs s t) (h' : Logs cs t u) : Logs (bs ++ cs) s u := by
  obtain ⟨ht, hu, he⟩ := h
  obtain ⟨ht', hu', he'⟩ := h'
  refine ⟨ht'.trans ht, hu'.trans hu, ?_⟩
  rw [he', State.journalAll_append]
  exact State.journalAll_ej_congr cs he (by simpa using ht) (by simpa using hu)

/-- A change of the state that journal and calendar do not see. -/
theorem Logs.congr {bs : List EntryBody} {s t t' : State} (h : Logs bs s t) (he : t'.ej = t.ej) (hc : t'.cc = t.cc) :
    Logs bs s t' := by
  simpa using h.trans (logs_nil he hc)

/-- A change of the start that journal and calendar do not see. -/
theorem Logs.congr_left {bs : List EntryBody} {s s' t : State} (h : Logs bs s t) (he : s.ej = s'.ej) (hc : s.cc = s'.cc) :
    Logs bs s' t :=
  (logs_nil he hc).trans h

theorem Logs.journalsFirst {bs rest : List EntryBody} {s t : State} (h : Logs (bs ++ rest) s t) : JournalsFirst bs s t := by
  obtain ⟨ht, hu, he⟩ := h
  exact ⟨rest, he.trans (State.journalAll_ej_congr _ rfl ht.symm hu.symm)⟩

theorem Logs.journals {first rest : List EntryBody} {b : EntryBody} {s t : State} (h : Logs (first ++ b :: rest) s t) :
    Journals b s t := by
  obtain ⟨ht, hu, he⟩ := h
  exact ⟨first, rest, he.trans (State.journalAll_ej_congr _ rfl ht.symm hu.symm)⟩

/-! ### An entry outlives the rest of its event (R170, R172) -/

/-- The entry of the ring that has `k` newer ones. -/
def NthNewest (k : Nat) (e : Entry) (s : State) : Prop :=
  s.ej.ring[s.ej.ring.length - 1 - k]? = some e ∧ k < s.ej.ring.length

theorem nthNewest_journal (s : State) (b : EntryBody) : NthNewest 0 (s.entryOf b) (s.journal b) := by
  simp [NthNewest, State.journal_ej]

theorem NthNewest.journalAll {k : Nat} {e : Entry} {s : State} {bs : List EntryBody} (h : NthNewest k e s)
    (hk : k + bs.length < 256) : NthNewest (k + bs.length) e (s.journalAll bs) := by
  induction bs generalizing k s with
  | nil => exact h
  | cons b bs ih =>
    rw [List.length_cons] at hk ⊢
    rw [show k + (bs.length + 1) = k + 1 + bs.length by omega]
    exact ih (s.journal_last b e k (by omega) h.1 h.2) (by omega)

/-- An entry followed by fewer than 256 others is in the ring that its event leaves. -/
theorem Logs.mem {first rest : List EntryBody} {b : EntryBody} {s t : State} (h : Logs (first ++ b :: rest) s t)
    (hr : rest.length < 256) : (s.journalAll first).entryOf b ∈ t.ej.ring := by
  rw [h.2.2, State.journalAll_append, State.journalAll_cons]
  exact List.mem_of_getElem? ((nthNewest_journal _ b).journalAll (by omega)).1

/-! ### The shared operations

Each keeps what was logged before it, and adds its own entries: `Logged s` is closed under them. -/

/-- From `s` to `t` some entries are appended, and the calendar that stamps them stands. -/
def Logged (s t : State) : Prop := ∃ bs, Logs bs s t

theorem logged_of_eq {s t : State} (he : t.ej = s.ej) (hc : t.cc = s.cc) : Logged s t := ⟨[], logs_nil he hc⟩

theorem logged_refl (s : State) : Logged s s := logged_of_eq rfl rfl

theorem Logged.congr {s t t' : State} (he : t'.ej = t.ej) (hc : t'.cc = t.cc) : Logged s t → Logged s t' :=
  fun ⟨bs, h⟩ => ⟨bs, h.congr he hc⟩

theorem Logged.setSau {s t : State} (x : Sau) : Logged s t → Logged s (t.setSau x) := Logged.congr rfl rfl
theorem Logged.setLb {s t : State} (x : Lb) : Logged s t → Logged s (t.setLb x) := Logged.congr rfl rfl
theorem Logged.setMs {s t : State} (x : Ms) : Logged s t → Logged s (t.setMs x) := Logged.congr rfl rfl
theorem Logged.setCw {s t : State} (x : Cw) : Logged s t → Logged s (t.setCw x) := Logged.congr rfl rfl

theorem Logged.journalAll {s t : State} (bs : List EntryBody) : Logged s t → Logged s (t.journalAll bs) :=
  fun ⟨_, h⟩ => ⟨_, h.trans (logs_journalAll bs t)⟩

theorem Logged.startPublish {s t : State} (g : Nat) (recs : List Nat) (before : State) :
    Logged s t → Logged s (startPublish g recs before t) := Logged.congr rfl rfl

theorem Logged.boardChange {s t : State} (cs : List SlotChange) (h : Logged s t) : Logged s (boardChange cs t) := by
  unfold Machine.boardChange; dsimp only; split
  · exact h
  · exact ((h.setLb _).journalAll _).startPublish _ _ _

theorem Logged.recomputeMaint {s t : State} (h : Logged s t) : Logged s (recomputeMaint t) := by
  have hposted : ∀ cs p, Logged s (Machine.boardChange cs (t.setMs { t.ms with posted := p })) := fun cs p =>
    (h.setMs _).boardChange cs
  unfold Machine.recomputeMaint; split
  · split
    · split
      · exact h
      · exact hposted _ _
    · exact hposted _ _
    · exact h
  · exact h

theorem Logged.pulls {s t : State} (gs : List Pull) (h : Logged s t) : Logged s (gs.foldl pullOne t) := by
  induction gs generalizing t with
  | nil => exact h
  | cons g gs ih => exact ih ((h.setMs _).journalAll _)

theorem Logged.takePulls {s t : State} (gs : List Pull) (h : Logged s t) : Logged s (takePulls gs t) := by
  have hslot := (h.pulls gs).recomputeMaint
  unfold Machine.takePulls; split
  · unfold scheduleEvent; dsimp only; split
    · exact hslot
    · exact hslot.startPublish _ _ _
  · exact h

theorem Logged.latchReport {s t : State} (before : Cw) (h : Logged s t) : Logged s (latchReport before t) := by
  unfold Machine.latchReport; split
  · exact (h.journalAll [_]).congr rfl rfl
  · exact h

theorem Logged.coincEvent {s t : State} (cause : EvalCause) (f : Cw → Cw) (h : Logged s t) :
    Logged s (coincEvent cause f t) := by
  refine (Logged.boardChange _ ?_).startPublish _ _ _
  split
  · exact (h.setCw _).latchReport _
  · exact h.setCw _

/-- A discarded completion appends at most its STALE entry (R54). -/
theorem logs_gcmDiscarded (sd : Side) (s : State) : ∃ bs, bs.length ≤ 1 ∧ Logs bs s (gcmDiscarded sd s) := by
  unfold gcmDiscarded; dsimp only; split
  · split
    · exact ⟨[], by simp, logs_nil rfl rfl⟩
    · exact ⟨[_], by simp, (logs_journal _ (State.raise (s.setGcm _) _)).congr_left rfl rfl⟩
  · exact ⟨[], by simp, logs_nil rfl rfl⟩

theorem logs_discardAs (sd : Side) (cause : DiscardCause) (f : Frame) (s : State) :
    ∃ bs, bs.length ≤ 1 ∧ Logs bs s (discardAs sd cause f s) := by
  obtain ⟨bs, hl, h⟩ := logs_gcmDiscarded sd (s.setOcr (s.ocr.setEngine sd ((s.ocr.engine sd).discard cause f)))
  exact ⟨bs, hl, (Logs.congr_left (s' := s) h rfl rfl).congr rfl rfl⟩

theorem logs_discardFrame (sd : Side) (cause : DiscardCause) (s : State) :
    ∃ bs, bs.length ≤ 1 ∧ Logs bs s (discardFrame sd cause s) := by
  unfold discardFrame; split
  · exact logs_discardAs _ _ _ _
  · exact ⟨[], by simp, logs_nil rfl rfl⟩

theorem Logged.discardAs {s t : State} (sd : Side) (cause : DiscardCause) (f : Frame) :
    Logged s t → Logged s (discardAs sd cause f t) := by
  rintro ⟨bs, h⟩
  obtain ⟨cs, -, h'⟩ := logs_discardAs sd cause f t
  exact ⟨_, h.trans h'⟩

theorem Logged.evaluateFrame {s t : State} (sd : Side) (f : Frame) (h : Logged s t) : Logged s (evaluateFrame sd f t) := by
  refine Logged.startPublish _ _ _ (Logged.coincEvent _ _ (Logged.takePulls _ (Logged.boardChange _ (Logged.journalAll _ ?_))))
  exact h.congr (by simp) (by simp)

theorem Logged.tryStart {s t : State} (sd : Side) (v : Nat) (h : Logged s t) : Logged s (tryStart sd v t) :=
  h.congr (by simp) (by simp)

theorem logged_revolutionToFrames (sd : Side) (p v : Nat) (s : State) : Logged s (revolutionToFrames sd p v s) := by
  have h := logged_refl s
  unfold revolutionToFrames; dsimp only; split
  · exact h.tryStart _ _
  · split
    · exact (h.discardAs _ _ _).tryStart _ _
    · split
      · split
        · exact (h.discardAs _ _ _).tryStart _ _
        · exact (h.evaluateFrame _ _).tryStart _ _
      · exact h.congr rfl rfl

/-! ### Flags (R175) -/

theorem gcmDiscarded_keepsFlag (sd : Side) (s : State) (p : PortId) (f : Flag) (h : (s.rep.get p).hasFlag f = true) :
    ((gcmDiscarded sd s).rep.get p).hasFlag f = true := by
  unfold gcmDiscarded; dsimp only; split
  · split
    · exact h
    · exact (State.journal_hasFlag _ _ _ _).trans (State.raise_keeps (s.setGcm _) _ _ _ h)
  · exact h

/-- The end of a frame clears no flag. -/
theorem discardFrame_keepsFlag (sd : Side) (cause : DiscardCause) (s : State) (p : PortId) (f : Flag)
    (h : (s.rep.get p).hasFlag f = true) : ((discardFrame sd cause s).rep.get p).hasFlag f = true := by
  unfold discardFrame; split
  · exact gcmDiscarded_keepsFlag sd _ p f h
  · exact h

end Sys2Proof.Machine

/-! PROOFS. What stops a side or ends its run of periods: the standstill timer and the SLIP (StandstillTimerStopsTheSide,
SlipCountsAndTheThirdFaults). -/

namespace Sys2Proof.Machine

/-! ### The ratio check disarmed with a new side (R13) -/

/-- A side replaced and the ratio check disarmed, as STANDSTILL and a SLIP leave the SAU (R9, R10, R13). -/
def Sau.disarmedWith (x : Sau) (sd : Side) (y : ShaftSide) : Sau := { x.setSide sd y with armed := false, ratio := 0 }

@[simp] theorem disarmRatio_setSide_sau (sd : Side) (y : ShaftSide) (s : State) :
    (disarmRatio (s.setSide sd y)).sau = s.sau.disarmedWith sd y := rfl

@[simp] theorem Sau.disarmedWith_frame (x : Sau) (sd : Side) (y : ShaftSide) :
    (x.disarmedWith sd y).armed = false ∧ (x.disarmedWith sd y).ratio = 0 ∧ (x.disarmedWith sd y).reverse = x.reverse ∧
      (x.disarmedWith sd y).side sd = y ∧ (x.disarmedWith sd y).side (otherSide sd) = x.side (otherSide sd) := by
  cases sd <;> exact ⟨rfl, rfl, rfl, rfl, rfl⟩

theorem Sau.side_disarmedWith (x : Sau) (sd : Side) (y : ShaftSide) : (x.disarmedWith sd y).side sd = y := by simp

theorem logs_disarmRatio_setSide (sd : Side) (y : ShaftSide) (s : State) : Logs [] s (disarmRatio (s.setSide sd y)) :=
  logs_nil rfl rfl

/-! ### Standstill (R9) -/

theorem standstillExpire_sau (sd : Side) (s : State) :
    (standstillExpire sd s).sau = s.sau.disarmedWith sd (s.sau.side sd).stand := by
  simp [standstillExpire]

theorem logs_standstillExpire (sd : Side) (s : State) :
    ∃ rest, rest.length ≤ 1 ∧ Logs (stateEntry sd (s.sau.side sd).state .standstill 0 :: rest) s (standstillExpire sd s) := by
  obtain ⟨rest, hl, h⟩ := logs_discardFrame sd .speedBand
    ((disarmRatio (s.setSide sd (s.sau.side sd).stand)).journal (stateEntry sd (s.sau.side sd).state .standstill 0))
  exact ⟨rest, hl, (logs_disarmRatio_setSide _ _ s).trans ((logs_journal _ _).trans h)⟩

/-- Settles O10: at the deadline of a running timer the side stands, and the STATE entry is the first of the event. -/
theorem standstillTimerStopsTheSide : Obligations.StandstillTimerStopsTheSide := by
  unfold Obligations.StandstillTimerStopsTheSide
  intro sd s
  refine ⟨fun h => by simp only [exec, execStandstillTimerExpiry, h], fun d h => ?_⟩
  intro u x
  obtain ⟨rest, hl, hlogs⟩ := logs_standstillExpire sd u
  refine ⟨standstillExpire sd u, by simp only [exec, execStandstillTimerExpiry, h, u], by simp [onlyTouches_iff],
    standstillExpire_sau sd u, discardFrame_waits _ _ _, _, Logs.mem (first := []) hlogs (by omega), rfl, rfl, ?_, rfl, rfl, rfl⟩
  cases sd <;> rfl

/-! ### A SLIP (R10) -/

/-- What every SLIP leaves: the side `y`, the ratio check disarmed, the SLIP entry and then `bs`, the flag, and the source's frame ended. -/
def SlipReported (sd : Side) (y : ShaftSide) (bs : List EntryBody) (s t : State) : Prop :=
  t.sau = s.sau.disarmedWith sd y ∧
    (∃ rest, rest.length ≤ 1 ∧ Logs (slipEntry sd (s.sau.side sd).position :: (bs ++ rest)) s t) ∧
    FlagInEveryCopy .slip t ∧ (t.ocr.engine sd).collecting = false

theorem forwardIndex_slip {sd : Side} {s : State} (h : IsSlip sd s) : forwardIndex sd s = slipIndex sd s :=
  if_pos ((isSlip_iff sd s).1 h)

theorem slipAlone_reports (sd : Side) (s : State) :
    SlipReported sd ((s.sau.side sd).slip.reload.restart.rearm (standstillDeadline s)) [] s (slipAlone sd s) := by
  refine ⟨by simp [slipAlone], ?_, fun p => ?_, discardFrame_waits _ _ _⟩
  · obtain ⟨rest, hl, h⟩ := logs_discardFrame sd .encoder
      (State.journal (State.raise (disarmRatio (s.setSide sd
        ((s.sau.side sd).slip.reload.restart.rearm (standstillDeadline s)))) .slip) (slipEntry sd (s.sau.side sd).position))
    exact ⟨rest, hl, (logs_disarmRatio_setSide _ _ s).trans ((logs_raise _ _).trans ((logs_journal _ _).trans h))⟩
  · exact discardFrame_keepsFlag _ _ _ _ _ (by simp)

/-- The report of a third SLIP, before its frame ends: SLIP entry, fault flag and STATE entry in this order (R10). -/
def faultReport (sd : Side) (s : State) : State :=
  let x := s.sau.side sd
  let t := (disarmRatio (s.setSide sd x.slip.reload.enterFault)).raise .slip
  ((t.journal (slipEntry sd x.position)).raise (faultFlag sd)).journal (stateEntry sd x.state .fault 0)

@[simp] theorem faultReport_sau (sd : Side) (s : State) :
    (faultReport sd s).sau = s.sau.disarmedWith sd (s.sau.side sd).slip.reload.enterFault := by
  simp [faultReport]

/-- REVERSE is clear at a forward index, so a third SLIP changes no direction. -/
theorem slipToFault_eq {sd : Side} {s : State} (hrev : s.sau.reverse = false) :
    slipToFault sd s = discardFrame sd .encoder (faultReport sd s) := by
  cases sd with
  | hs => exact congrArg (discardFrame .hs .encoder) (setDirection_same (s := faultReport .hs s) (by simpa using hrev))
  | ls => rfl

theorem slipToFault_reports {sd : Side} {s : State} (hrev : s.sau.reverse = false) :
    SlipReported sd (s.sau.side sd).slip.reload.enterFault [stateEntry sd (s.sau.side sd).state .fault 0] s (slipToFault sd s) ∧
      FlagInEveryCopy (faultFlag sd) (slipToFault sd s) := by
  rw [slipToFault_eq hrev]
  refine ⟨⟨by simp, ?_, fun p => ?_, discardFrame_waits _ _ _⟩, fun p => ?_⟩
  · obtain ⟨rest, hl, h⟩ := logs_discardFrame sd .encoder (faultReport sd s)
    exact ⟨rest, hl, (logs_disarmRatio_setSide _ _ s).trans ((logs_raise _ _).trans ((logs_journal _ _).trans
      ((logs_raise _ _).trans ((logs_journal _ _).trans h))))⟩
  · exact discardFrame_keepsFlag _ _ _ _ _ (by simp [faultReport, State.raise_hasFlag])
  · exact discardFrame_keepsFlag _ _ _ _ _ (by simp [faultReport])

/-- What every SLIP says of the ratio check, the other side, the flag, the journal and the frame. -/
theorem SlipReported.common {sd : Side} {y : ShaftSide} {bs : List EntryBody} {s t : State} (h : SlipReported sd y bs s t)
    (hb : bs.length ≤ 1) :
    t.sau.armed = false ∧ t.sau.ratio = 0 ∧ t.sau.reverse = s.sau.reverse ∧
      t.sau.side (otherSide sd) = s.sau.side (otherSide sd) ∧ FlagInEveryCopy .slip t ∧
      (t.ocr.engine sd).collecting = false ∧ s.entryOf (slipEntry sd (s.sau.side sd).position) ∈ t.ej.ring := by
  obtain ⟨hsau, ⟨rest, hl, hlogs⟩, hflag, hwaits⟩ := h
  have hlen : (bs ++ rest).length < 256 := by rw [List.length_append]; omega
  rw [hsau]
  simp only [Sau.disarmedWith_frame, true_and]
  exact ⟨hflag, hwaits, Logs.mem (first := []) hlogs hlen⟩

/-- Settles O8: below the third SLIP it is `slipAlone`, and the third is `slipToFault`. -/
theorem slipCountsAndTheThirdFaults : Obligations.SlipCountsAndTheThirdFaults := by
  unfold Obligations.SlipCountsAndTheThirdFaults
  intro sd dt s u x source hf hs
  have ⟨_, hrev, _⟩ := hf
  have hexec := exec_forwardIndex hf
  rw [forwardIndex_slip ((isSlip_seen _ _ _ _).2 hs)] at hexec
  have htouch : OnlyTouches [.sau, .ocr, .gcm, .ej, .rep, .pub] u (slipIndex sd (u.setSau (u.seen (indexLine sd) true))) := by
    simp [onlyTouches_iff]
  obtain ⟨v, hv⟩ : ∃ v, u.setSau (u.seen (indexLine sd) true) = v := ⟨_, rfl⟩
  have hdeadline : standstillDeadline v = u.now + u.sau.active.tStand * 40000000 := by
    rw [← hv, standstillDeadline_seen]
  have hside : ∀ sd, v.sau.side sd = u.sau.side sd := fun sd => by rw [← hv, State.setSau_sau, State.seen_side]
  have hvrev : v.sau.reverse = false := by rw [← hv]; simpa using hrev
  have hentry : ∀ b, v.entryOf b = u.entryOf b := fun b => by rw [← hv]; rfl
  have hcommon : ∀ {y bs t}, SlipReported sd y bs v t → bs.length ≤ 1 →
      t.sau.armed = false ∧ t.sau.ratio = 0 ∧ t.sau.reverse = false ∧
      t.sau.side (otherSide sd) = u.sau.side (otherSide sd) ∧ FlagInEveryCopy .slip t ∧ (t.ocr.engine sd).collecting = false ∧
      (∃ e ∈ t.ej.ring, e.seq = u.ej.next ∧ e.source = source ∧ e.kind = .slip ∧ e.inst = none ∧
        e.value = max (-2147483648) (min 2147483647 x.position)) := by
    intro y bs t h hb
    obtain ⟨harmed, hratio, hr, hother, hflag, hwaits, hmem⟩ := h.common hb
    rw [hentry, hside] at hmem
    exact ⟨harmed, hratio, hr.trans hvrev, hother.trans (hside _), hflag, hwaits, _, hmem, rfl, by cases sd <;> rfl, rfl, rfl, rfl⟩
  rw [hv] at hexec htouch
  refine ⟨_, hexec, htouch, ?_⟩
  by_cases hc : x.consecutive + 1 < 3
  · have hslip : slipIndex sd v = slipAlone sd v := if_pos (by rw [hside]; exact hc)
    have hreport := slipAlone_reports sd v
    rw [hslip]
    obtain ⟨harmed, hratio, hr, hother, hflag, hwaits, hmem⟩ := hcommon hreport (by simp)
    refine ⟨harmed, hratio, hr, hother, hflag, hwaits, hmem, fun _ => ?_, fun h => absurd hc (by omega)⟩
    rw [hreport.1, Sau.side_disarmedWith, ShaftSide.rearm_eq, hside, hdeadline]
    rfl
  · have hslip : slipIndex sd v = slipToFault sd v := if_neg (by rw [hside]; exact hc)
    obtain ⟨hreport, hfault⟩ := slipToFault_reports (sd := sd) hvrev
    rw [hslip]
    obtain ⟨harmed, hratio, hr, hother, hflag, hwaits, hmem⟩ := hcommon hreport (by simp)
    refine ⟨harmed, hratio, hr, hother, hflag, hwaits, hmem, fun h => absurd h hc, fun _ => ?_⟩
    obtain ⟨hsau, ⟨rest, hl, hlogs⟩, -⟩ := hreport
    rw [hsau, Sau.side_disarmedWith, hside]
    have hstate := Logs.mem (first := [_]) hlogs (by simp; omega)
    have hseq : (v.journal (slipEntry sd (v.sau.side sd).position)).ej.next = (u.ej.next + 1) % 4294967296 := by
      rw [State.journal_ej, ← hv]; rfl
    refine ⟨rfl, rfl, rfl, rfl, rfl, rfl, rfl, rfl, by cases sd <;> exact hfault, _, hstate, hseq, by cases sd <;> rfl, rfl, ?_,
      rfl, rfl⟩
    rw [hside]
    rfl

end Sys2Proof.Machine

/-! PROOFS. The index that closes a period: speed, state, ratio check and counters (ForwardIndexClosesThePeriod). -/

namespace Sys2Proof.Machine

/-! ### The ratio check (R13) -/

/-- The ratio check tests r: it is armed and G is not 0. -/
def RatioTested (x : Sau) : Prop := x.armed = true ∧ x.active.gearRatio ≠ 0

/-- r starts again, and the check is armed while both sides are TRACKING. -/
def Sau.startRatio (x : Sau) : Sau := { x with ratio := 0, armed := x.bothTracking }

/-- The SAU after a test of r. -/
def Sau.testRatio (x : Sau) : Sau :=
  { x.startRatio with testedR := x.ratio, mismatch := ratioMismatch x.ratio x.active.gearRatio }

theorem ratioTest_untested {s : State} (h : ¬RatioTested s.sau) : ratioTest s = s.setSau s.sau.startRatio := if_neg h

theorem ratioTest_tested {s : State} (h : RatioTested s.sau) :
    ratioTest s =
      if ratioMismatch s.sau.ratio s.sau.active.gearRatio then
        ((s.setSau s.sau.testRatio).raise .ratioMismatch).journal
          { source := .sauLs, kind := .ratioMismatch, value := s.sau.ratio }
      else s.setSau s.sau.testRatio :=
  if_pos h

theorem ratioTest_sau_untested {s : State} (h : ¬RatioTested s.sau) : (ratioTest s).sau = s.sau.startRatio := by
  rw [ratioTest_untested h, State.setSau_sau]

theorem ratioTest_sau_tested {s : State} (h : RatioTested s.sau) : (ratioTest s).sau = s.sau.testRatio := by
  rw [ratioTest_tested h]; split <;> simp

theorem ratioTest_sau (s : State) :
    (ratioTest s).sau.ratio = 0 ∧ (ratioTest s).sau.armed = s.sau.bothTracking ∧
      (ratioTest s).sau.reverse = s.sau.reverse ∧ ∀ sd, (ratioTest s).sau.side sd = s.sau.side sd := by
  by_cases h : RatioTested s.sau
  · rw [ratioTest_sau_tested h]
    exact ⟨rfl, rfl, rfl, fun sd => by cases sd <;> rfl⟩
  · rw [ratioTest_sau_untested h]
    exact ⟨rfl, rfl, rfl, fun sd => by cases sd <;> rfl⟩

/-- The mismatch of R13 as the statements write it. -/
theorem ratioMismatch_iff (r g : Nat) :
    ratioMismatch r g = true ↔ g < (256 * (r : Int) - (g : Int)).natAbs * 64 := by
  simp [ratioMismatch]

theorem logged_ratioTest (s : State) : Logged s (ratioTest s) := by
  by_cases h : RatioTested s.sau
  · rw [ratioTest_tested h]; split
    · exact ((logged_refl s).congr (t' := (s.setSau s.sau.testRatio).raise .ratioMismatch) rfl rfl).journalAll [_]
    · exact logged_of_eq rfl rfl
  · exact ratioTest_untested h ▸ logged_of_eq rfl rfl

/-! ### Revolution events (R14) -/

theorem revolutionEvent_hs (p v : Nat) (s : State) :
    (revolutionEvent .hs p v s).sau = { s.sau with ratio := satAdd 65535 s.sau.ratio 1 } ∧
      (revolutionEvent .hs p v s).cc = s.cc.countRevolution (torqueBin s.icd.op.torque) := by
  simp [revolutionEvent, revolutionToRatio, countRevolution]

theorem revolutionEvent_ls (p v : Nat) (s : State) :
    revolutionEvent .ls p v s = ratioTest (revolutionToFrames .ls p v s) := rfl

/-- What every LS revolution event leaves of the ratio check and the counters. -/
theorem revolutionEvent_ls_frame (p v : Nat) (s : State) :
    (revolutionEvent .ls p v s).sau.ratio = 0 ∧ (revolutionEvent .ls p v s).sau.armed = s.sau.bothTracking ∧
      (revolutionEvent .ls p v s).cc = s.cc := by
  rw [revolutionEvent_ls]
  obtain ⟨hratio, harmed, -⟩ := ratioTest_sau (revolutionToFrames .ls p v s)
  exact ⟨hratio, by simpa using harmed, by simp⟩

theorem revolutionEvent_ls_untested {p v : Nat} {s : State} (h : ¬RatioTested s.sau) :
    (revolutionEvent .ls p v s).sau = s.sau.startRatio := by
  have hsau : (revolutionToFrames .ls p v s).sau = s.sau := by simp
  rw [revolutionEvent_ls, ratioTest_sau_untested (hsau ▸ h), hsau]

/-- A revolution event moves no side and no direction. -/
theorem revolutionEvent_sides (sd : Side) (p v : Nat) (s : State) :
    (revolutionEvent sd p v s).sau.reverse = s.sau.reverse ∧
      ∀ sd', (revolutionEvent sd p v s).sau.side sd' = s.sau.side sd' := by
  cases sd with
  | hs =>
    rw [(revolutionEvent_hs p v s).1]
    exact ⟨rfl, fun sd' => by cases sd' <;> rfl⟩
  | ls =>
    rw [revolutionEvent_ls]
    obtain ⟨-, -, hreverse, hside⟩ := ratioTest_sau (revolutionToFrames .ls p v s)
    exact ⟨by simpa using hreverse, fun sd' => by simpa using hside sd'⟩

theorem logged_revolutionEvent (sd : Side) (p v : Nat) (s : State) : Logged s (revolutionEvent sd p v s) := by
  obtain ⟨bs, h⟩ := logged_revolutionToFrames sd p v s
  cases sd with
  | hs => exact ⟨bs, h⟩
  | ls =>
    obtain ⟨cs, h'⟩ := logged_ratioTest (revolutionToFrames .ls p v s)
    exact ⟨_, h.trans h'⟩

/-- What an LS revolution event that tests r shows; a mismatch is flagged and is its last entry. -/
theorem revolutionEvent_ls_tested {p v : Nat} {s t : State} (h : RatioTested s.sau) (ht : revolutionEvent .ls p v s = t) :
    t.sau.testedR = s.sau.ratio ∧ t.sau.mismatch = ratioMismatch s.sau.ratio s.sau.active.gearRatio ∧
      (t.sau.mismatch = true → FlagInEveryCopy .ratioMismatch t ∧
        ∃ first, Logs (first ++ [{ source := .sauLs, kind := .ratioMismatch, value := s.sau.ratio }]) s t) := by
  have hsau : (revolutionToFrames .ls p v s).sau = s.sau := by simp
  obtain ⟨bs, hbs⟩ := logged_revolutionToFrames .ls p v s
  rw [revolutionEvent_ls] at ht
  have htsau : t.sau = s.sau.testRatio := by rw [← ht, ratioTest_sau_tested (hsau ▸ h), hsau]
  rw [htsau]
  refine ⟨rfl, rfl, fun hm : ratioMismatch s.sau.ratio s.sau.active.gearRatio = true => ?_⟩
  rw [← ht, ratioTest_tested (hsau ▸ h), hsau, if_pos hm]
  exact ⟨fun port => by simp, bs,
    hbs.trans (Logs.congr_left (logs_journal _ (State.raise (State.setSau _ s.sau.testRatio) .ratioMismatch)) rfl rfl)⟩

/-! ### A period closed (R8, R9) -/

/-- The numerator of the speed of a side (R8, R12). -/
def speedNumerator : Side → Nat
  | .hs => 38400000000
  | .ls => 614400000000

/-- The quotient, where the field holds it. -/
theorem sideSpeed_fits {sd : Side} {p : Nat} (hp : p ≠ 0) (h : speedNumerator sd / p ≤ 4294967295) :
    sideSpeed sd p = speedNumerator sd / p := by
  cases sd <;> exact if_pos ⟨hp, h⟩

/-- The STATE entry of a closed period, of a side that was not TRACKING. -/
def trackingEntry (sd : Side) (x : ShaftSide) : List EntryBody :=
  if x.state = .tracking then [] else [stateEntry sd x.state .tracking (min x.counter 2147483647 : Nat)]

/-- The state whose revolution event a closed period hands on. -/
def periodClosed (sd : Side) (x : ShaftSide) (s : State) : State :=
  (s.setSide sd (x.close sd (standstillDeadline s))).journalAll (trackingEntry sd x)

theorem closePeriod_eq (sd : Side) (x : ShaftSide) (s : State) :
    closePeriod sd x s = revolutionEvent sd x.counter (sideSpeed sd x.counter) (periodClosed sd x s) := by
  unfold closePeriod periodClosed trackingEntry
  split <;> rfl

@[simp] theorem periodClosed_keeps (sd : Side) (x : ShaftSide) (s : State) :
    (periodClosed sd x s).sau = s.sau.setSide sd (x.close sd (standstillDeadline s)) ∧ (periodClosed sd x s).icd = s.icd ∧
      (periodClosed sd x s).cc = s.cc := by
  simp [periodClosed, State.setSide]

theorem logs_periodClosed (sd : Side) (x : ShaftSide) (s : State) : Logs (trackingEntry sd x) s (periodClosed sd x s) :=
  (logs_journalAll _ (s.setSide sd _)).congr_left rfl rfl

/-- Settles O6: `closePeriod` closes the side and hands on a revolution event, which of HS counts and of LS takes the ratio test. -/
theorem forwardIndexClosesThePeriod : Obligations.ForwardIndexClosesThePeriod := by
  unfold Obligations.ForwardIndexClosesThePeriod
  intro sd dt s u x k b hf hs htimed
  have ⟨_, hrev, _⟩ := hf
  have hexec := exec_forwardIndex hf
  have htouch : OnlyTouches [.sau, .ocr, .gcm, .cw, .lb, .cc, .ms, .ej, .rep, .pub] u
      (closePeriod sd x.reloaded (u.setSau (u.seen (indexLine sd) true))) := by
    simp [onlyTouches_iff]
  have hdeadline : standstillDeadline (u.setSau (u.seen (indexLine sd) true)) = u.now + u.sau.active.tStand * 40000000 :=
    standstillDeadline_seen _ _ _
  rw [forwardIndex_noSlip (mt (isSlip_seen _ _ _ _).1 hs), State.setSau_sau, State.seen_side, if_pos htimed] at hexec
  obtain ⟨v, hv⟩ : ∃ v, u.setSau (u.seen (indexLine sd) true) = v := ⟨_, rfl⟩
  rw [hv] at hexec htouch hdeadline
  obtain ⟨w, hw⟩ : ∃ w, periodClosed sd x.reloaded v = w := ⟨_, rfl⟩
  rw [closePeriod_eq, hw] at hexec htouch
  have hlogs : Logs (trackingEntry sd x.reloaded) u w := hw ▸ (logs_periodClosed _ _ v).congr_left (hv ▸ rfl) (hv ▸ rfl)
  have hwsau : w.sau = (u.seen (indexLine sd) true).setSide sd (x.reloaded.close sd (standstillDeadline v)) := by
    rw [← hw, (periodClosed_keeps _ _ _).1, ← hv, State.setSau_sau]
  have hwcc : w.cc = u.cc := by rw [← hw, ← hv]; simp
  have hwicd : w.icd = u.icd := by rw [← hw, ← hv]; simp
  have hwrest : w.sau.reverse = false ∧ w.sau.ratio = u.sau.ratio ∧ w.sau.armed = u.sau.armed ∧
      w.sau.testedR = u.sau.testedR ∧ w.sau.mismatch = u.sau.mismatch ∧ w.sau.active = u.sau.active := by
    rw [hwsau]; simp [hrev]
  obtain ⟨hwrev, hwratio, hwarmed, hwtested, hwmismatch, hwactive⟩ := hwrest
  obtain ⟨hreverse, hside⟩ := revolutionEvent_sides sd x.reloaded.counter (sideSpeed sd x.reloaded.counter) w
  refine ⟨_, sideSpeed sd x.counter, hexec, htouch, ?_, fun h0 hk => ?_, ?_, hreverse.trans hwrev, fun hstate => ?_, ?_, ?_⟩
  · rw [hside, hwsau, hdeadline, Sau.side_setSide_self]; rfl
  · cases sd <;> exact sideSpeed_fits h0 hk
  · rw [hside, hwsau, Sau.side_setSide_other, State.seen_side]
  · obtain ⟨bs, hbs⟩ := logged_revolutionEvent sd x.reloaded.counter (sideSpeed sd x.reloaded.counter) w
    have hentry : trackingEntry sd x.reloaded = [stateEntry sd x.state .tracking (min x.counter 2147483647 : Nat)] :=
      if_neg hstate
    rw [hentry] at hlogs
    cases sd <;> exact (hlogs.trans hbs).journalsFirst
  · rintro rfl
    obtain ⟨hsau, hcc⟩ := revolutionEvent_hs x.reloaded.counter (sideSpeed .hs x.reloaded.counter) w
    rw [hsau, hcc, hwcc, hwicd]
    exact ⟨by rw [hwratio]; rfl, hwarmed, hwtested, hwmismatch, rfl⟩
  · rintro rfl
    obtain ⟨hratio, harmed, hcc⟩ := revolutionEvent_ls_frame x.reloaded.counter (sideSpeed .ls x.reloaded.counter) w
    have hboth : w.sau.bothTracking = true ↔ u.sau.hs.state = .tracking := by
      rw [hwsau]; simp [Sau.bothTracking, Sau.setSide, ShaftSide.close]
    have htested : RatioTested w.sau ↔ u.sau.armed = true ∧ u.sau.active.gearRatio ≠ 0 := by
      rw [RatioTested, hwarmed, hwactive]
    refine ⟨hratio, by rw [harmed]; exact hboth, hcc.trans hwcc, fun hno => ?_, fun htests => ?_⟩
    · rw [revolutionEvent_ls_untested (mt htested.1 hno)]
      exact ⟨hwtested, hwmismatch⟩
    · obtain ⟨hr, hm, hreport⟩ := revolutionEvent_ls_tested (htested.2 htests) rfl
      rw [hwratio, hwactive] at hm
      refine ⟨hr.trans hwratio, by rw [hm, ratioMismatch_iff], fun hmismatch => ?_⟩
      obtain ⟨hflag, first, hjournal⟩ := hreport hmismatch
      have hall := hlogs.trans hjournal
      rw [hwratio, ← List.append_assoc] at hall
      exact ⟨hflag, hall.journals⟩

end Sys2Proof.Machine

/-! PROOFS. What the owner of a command answers: the job commands and their checks (JobCommandsAreChecked, ShaftJobCommands). -/

namespace Sys2Proof.Machine

/-! ### A command that is delivered (R193, R194) -/

/-- The roles of the statements are the roles of the model. -/
theorem allows_of_mem_givers {c : Command} {r : Role} (h : r ∈ givers c) : c.allows r = true := by
  cases c with
  | enable j => cases j <;> revert r <;> simp [givers, Command.allows]
  | disable j => cases j <;> revert r <;> simp [givers, Command.allows]
  | journalAdvance | attnMask => rfl
  | _ => revert r; simp [givers, Command.allows]

/-- A delivered command of a permitted role gets the answer of its owner. -/
theorem exec_delivered {i : Instr} {k : ControlWord} {raw : Word} {s : State} (hk : controlOf i = some k)
    (hd : Delivers k.port k.command raw s) (hr : (s.pi.get k.port).role ∈ givers k.command) :
    exec i s = .next (writeResult k.port raw k.arg (ownerAnswer k.port k.arg k.command (s.advance k.dt))) := by
  have hd' : Delivers k.port k.command raw (s.advance k.dt) := hd
  rw [exec_control hk, giveCommand_delivers _ _ hd', State.advance_pi, if_pos (allows_of_mem_givers hr)]

/-! ### The checks of the job commands, in their order -/

theorem ShaftConfig.samplesOk_iff (c : ShaftConfig) :
    c.samplesOk = true ↔ c.eLines * c.mode.counts / c.dec ∈ [128, 256, 512, 1024] := by
  change c.samplesOk = true ↔ c.samples ∈ [128, 256, 512, 1024]
  simp [ShaftConfig.samplesOk, or_assoc]

theorem enableShaft_checks (s : State) :
    (s.jobs.shaft = true → enableShaft s = refuse .wrongState s) ∧
      (s.jobs.shaft = false → s.sau.config.eLines * s.sau.config.mode.counts / s.sau.config.dec ∉ [128, 256, 512, 1024] →
        enableShaft s = refuse .badConfig s) := by
  unfold enableShaft
  refine ⟨fun h => if_pos h, fun h hc => ?_⟩
  rw [if_neg (by simp [h]), if_neg (mt (ShaftConfig.samplesOk_iff _).1 hc)]

theorem enableGear_checks (s : State) :
    (s.jobs.gear = true → enableGear s = refuse .wrongState s) ∧
      (s.jobs.gear = false → s.jobs.shaft = false → enableGear s = refuse .dependency s) ∧
      (s.jobs.gear = false → s.jobs.shaft = true → (∀ d ∈ s.gcm.defs, d.enabled = false) →
        enableGear s = refuse .badConfig s) := by
  unfold enableGear
  refine ⟨fun h => if_pos h, fun h hs => ?_, fun h hs hd => ?_⟩
  · rw [if_neg (by simp [h]), if_pos (by simp [hs])]
  · rw [if_neg (by simp [h]), if_neg (by simp [hs]), if_neg (by simpa using hd)]

theorem enableGrid_checks (s : State) :
    (s.jobs.grid = true → enableGrid s = refuse .wrongState s) ∧
      (s.jobs.grid = false → (∀ h ∈ s.ghm.config.h, h = 0) → enableGrid s = refuse .badConfig s) := by
  unfold enableGrid
  refine ⟨fun h => if_pos h, fun h hc => ?_⟩
  rw [if_neg (by simp [h]), if_pos (by simpa using hc)]

theorem enableCoinc_checks (s : State) :
    (s.jobs.coinc = true → enableCoinc s = refuse .wrongState s) ∧
      (s.jobs.coinc = false → (s.jobs.gear = false ∨ s.jobs.grid = false) → enableCoinc s = refuse .dependency s) ∧
      (s.jobs.coinc = false → s.jobs.gear = true → s.jobs.grid = true → (∀ m ∈ s.cw.config.m, m = 0) →
        enableCoinc s = refuse .badConfig s) := by
  unfold enableCoinc
  refine ⟨fun h => if_pos h, fun h hj => ?_, fun h hg hj hm => ?_⟩
  · rw [if_neg (by simp [h]), if_pos (by rcases hj with hj | hj <;> simp [hj])]
  · rw [if_neg (by simp [h]), if_neg (by simp [hg, hj]), if_pos (by simpa using hm)]

theorem enableIcing_checks (s : State) :
    (s.jobs.icing = true → enableIcing s = refuse .wrongState s) ∧
      (s.jobs.icing = false → (∀ n ∈ s.icd.curve, n = 0) → enableIcing s = refuse .badConfig s) := by
  unfold enableIcing
  refine ⟨fun h => if_pos h, fun h hc => ?_⟩
  rw [if_neg (by simp [h]), if_pos (by simpa using hc)]

theorem enableMaint_checks (s : State) :
    (s.jobs.maint = true → enableMaint s = refuse .wrongState s) ∧
      (s.jobs.maint = false → (∀ x ∈ s.ms.items, x.inForce.present = false) → enableMaint s = refuse .badConfig s) := by
  unfold enableMaint
  refine ⟨fun h => if_pos h, fun h hi => ?_⟩
  rw [if_neg (by simp [h]), if_neg (by simpa using hi)]

theorem disableShaft_checks (s : State) :
    (s.jobs.gear = true → disableShaft s = refuse .dependency s) ∧
      (s.jobs.gear = false → s.jobs.shaft = false → disableShaft s = accept s) := by
  unfold disableShaft
  exact ⟨fun h => if_pos h, fun h hj => by rw [if_neg (by simp [h]), if_neg (by simp [hj])]⟩

theorem disableGear_checks (s : State) :
    (s.jobs.coinc = true → disableGear s = refuse .dependency s) ∧
      (s.jobs.coinc = false → s.jobs.gear = false → disableGear s = accept s) := by
  unfold disableGear
  exact ⟨fun h => if_pos h, fun h hj => by rw [if_neg (by simp [h]), if_neg (by simp [hj])]⟩

theorem disableGrid_checks (s : State) :
    (s.jobs.coinc = true → disableGrid s = refuse .dependency s) ∧
      (s.jobs.coinc = false → s.jobs.grid = false → disableGrid s = accept s) := by
  unfold disableGrid
  exact ⟨fun h => if_pos h, fun h hj => by rw [if_neg (by simp [h]), if_neg (by simp [hj])]⟩

theorem disableCoinc_idle {s : State} (h : s.jobs.coinc = false) : disableCoinc s = accept s := if_neg (by simp [h])

theorem disableIcing_idle {s : State} (h : s.jobs.icing = false) : disableIcing s = accept s := if_neg (by simp [h])

theorem disableMaint_idle {s : State} (h : s.jobs.maint = false) : disableMaint s = accept s := if_neg (by simp [h])

/-- Settles O38 by the checks of each command's owner. -/
theorem jobCommandsAreChecked : Obligations.JobCommandsAreChecked := by
  unfold Obligations.JobCommandsAreChecked
  rintro i ⟨dt, p, c, arg⟩ raw s u refused idle samples hk hd hr
  have hexec := exec_delivered hk hd hr
  have hrefused : ∀ {r}, ownerAnswer p arg c u = refuse r u → refused r := fun h => hexec.trans (by dsimp only; rw [h]; rfl)
  have hidle : ownerAnswer p arg c u = accept u → idle := fun h => hexec.trans (by dsimp only; rw [h]; rfl)
  clear hexec hk hd hr
  refine ⟨?_, ?_, ?_, ?_, ?_, ?_, ?_, ?_, ?_, ?_, ?_, ?_⟩ <;> rintro rfl
  · obtain ⟨on, config⟩ := enableShaft_checks u
    exact ⟨fun h => hrefused (on h), fun h h' => hrefused (config h h')⟩
  · obtain ⟨on, dependency, config⟩ := enableGear_checks u
    exact ⟨fun h => hrefused (on h), fun h h' => hrefused (dependency h h'), fun h h' h'' => hrefused (config h h' h'')⟩
  · obtain ⟨on, config⟩ := enableGrid_checks u
    exact ⟨fun h => hrefused (on h), fun h h' => hrefused (config h h')⟩
  · obtain ⟨on, dependency, config⟩ := enableCoinc_checks u
    exact ⟨fun h => hrefused (on h), fun h h' => hrefused (dependency h h'),
      fun h hg hj hm => hrefused (config h hg hj hm)⟩
  · obtain ⟨on, config⟩ := enableIcing_checks u
    exact ⟨fun h => hrefused (on h), fun h h' => hrefused (config h h')⟩
  · obtain ⟨on, config⟩ := enableMaint_checks u
    exact ⟨fun h => hrefused (on h), fun h h' => hrefused (config h h')⟩
  · obtain ⟨dependency, off⟩ := disableShaft_checks u
    exact ⟨fun h => hrefused (dependency h), fun h h' => hidle (off h h')⟩
  · obtain ⟨dependency, off⟩ := disableGear_checks u
    exact ⟨fun h => hrefused (dependency h), fun h h' => hidle (off h h')⟩
  · obtain ⟨dependency, off⟩ := disableGrid_checks u
    exact ⟨fun h => hrefused (dependency h), fun h h' => hidle (off h h')⟩
  · exact fun h => hidle (disableCoinc_idle h)
  · exact fun h => hidle (disableIcing_idle h)
  · exact fun h => hidle (disableMaint_idle h)

/-! ### SHAFT (R16, R17) -/

theorem enableShaft_starts {s : State} (h : s.jobs.shaft = false)
    (hc : s.sau.config.eLines * s.sau.config.mode.counts / s.sau.config.dec ∈ [128, 256, 512, 1024]) :
    enableShaft s = accept (((s.setSau s.sau.enable).setJobs { s.jobs with shaft := true }).journalAll
      [stateEntry .hs s.sau.hs.state .seeking 0, stateEntry .ls s.sau.ls.state .seeking 0]) :=
  (if_neg (by simp [h])).trans (if_pos ((ShaftConfig.samplesOk_iff _).2 hc))

theorem disableShaft_stops {s : State} (hg : s.jobs.gear = false) (h : s.jobs.shaft = true) :
    disableShaft s = accept (((s.setSau s.sau.disable).setJobs { s.jobs with shaft := false }).journalAll
      (offEntry .hs s.sau.hs ++ offEntry .ls s.sau.ls)) :=
  (if_neg (by simp [hg])).trans (if_pos h)

/-- Settles O11: the two commands reach their owner, which accepts them. -/
theorem shaftJobCommands : Obligations.ShaftJobCommands := by
  unfold Obligations.ShaftJobCommands
  intro dt p arg raw s u x arm seek stop entry
  refine ⟨fun hr hd h hc => ?_, fun hr hd hg h => ?_⟩
  · refine (exec_delivered (k := ⟨dt, p, .enable .shaft, arg⟩) rfl hd hr).trans ?_
    dsimp only [ownerAnswer]
    rw [enableShaft_starts h hc]
    rfl
  · refine (exec_delivered (k := ⟨dt, p, .disable .shaft, arg⟩) rfl hd hr).trans ?_
    dsimp only [ownerAnswer]
    rw [disableShaft_stops hg h]
    rfl

end Sys2Proof.Machine

/-! PROOFS. Whole writes, and the shaft configuration (ShaftConfigurationWrite). -/

namespace Sys2Proof.Machine

/-! ### Words written whole (R189) -/

@[simp] theorem MaskedWord.over_whole (w old : Word) : (⟨w, true, true⟩ : MaskedWord).over old = w := by
  have hmask : (⟨w, true, true⟩ : MaskedWord).mask = BitVec.allOnes 16 := by
    simp [MaskedWord.mask, BitVec.allOnes]
  unfold MaskedWord.over
  rw [hmask, BitVec.and_allOnes, BitVec.not_allOnes, BitVec.and_zero, BitVec.zero_or]

theorem MaskedWord.merge_whole (m : MaskedWord) (w : Word) : m.merge ⟨w, true, true⟩ = ⟨w, true, true⟩ := by
  simp [MaskedWord.merge]

@[simp] theorem whole_length (ws : List Word) : (whole ws).length = ws.length := List.length_map _

theorem maskedAt_whole {ws : List Word} {n : Nat} (h : n < ws.length) : maskedAt (whole ws) n = ⟨wordAt ws n, true, true⟩ := by
  simp [maskedAt, whole, wordAt, h]

theorem maskedAt_whole_past {ws : List Word} {n : Nat} (h : ws.length ≤ n) : maskedAt (whole ws) n = .blank := by
  simp [maskedAt, h]

/-- One word more in the buffer of a whole write. -/
theorem bufferAt_wholeBuffer_snoc (r len o : Nat) (ws : List MaskedWord) (w : MaskedWord) :
    bufferAt (wholeBuffer r len (ws ++ [w])) r o =
      if ws.length % len = o then (bufferAt (wholeBuffer r len ws) r o).merge w else bufferAt (wholeBuffer r len ws) r o := by
  simp [bufferAt, wholeBuffer, List.zipIdx_append]

/-- Each position of the buffer of a whole write holds its own word. -/
theorem bufferAt_whole (r len o : Nat) (ws : List Word) (h : ws.length ≤ len) :
    bufferAt (wholeBuffer r len (whole ws)) r o = maskedAt (whole ws) o := by
  induction ws using List.reverseRecOn with
  | nil => rfl
  | append_singleton ws w ih =>
    rw [List.length_append, List.length_singleton] at h
    have hsnoc : whole (ws ++ [w]) = whole ws ++ [⟨w, true, true⟩] := List.map_append
    rw [hsnoc, bufferAt_wholeBuffer_snoc, ih (by omega), whole_length, Nat.mod_eq_of_lt (by omega)]
    split
    next ho => subst ho; simp [MaskedWord.merge_whole, maskedAt]
    next ho =>
      rcases Nat.lt_or_gt_of_ne ho with hlt | hgt
      · rw [maskedAt_whole_past (by omega), ← hsnoc, maskedAt_whole_past (by simp; omega)]
      · simp [maskedAt, List.getElem?_append, hgt]

/-- A whole write of a record hands its words on. -/
theorem bufferRecord_whole (r : Nat) (ws : List Word) :
    bufferRecord (wholeBuffer r ws.length (whole ws)) r ws.length = whole ws := by
  refine List.ext_getElem (by simp [bufferRecord]) fun n h _ => ?_
  have hn : n < ws.length := by simpa [bufferRecord] using h
  simp only [bufferRecord, List.getElem_map, List.getElem_range, bufferAt_whole _ _ _ _ (Nat.le_refl _)]
  simp [maskedAt, hn]

theorem anyWritten_whole {ws : List Word} (h : ws ≠ []) : anyWritten (whole ws) = true := by
  simpa [anyWritten, whole, MaskedWord.written] using List.exists_mem_of_ne_nil ws h

theorem wrote_whole {ws : List Word} {n : Nat} (h : n < ws.length) : wrote (whole ws) n 1 = true := by
  simp [wrote, maskedAt_whole h, MaskedWord.written]

theorem field_whole {α : Type} {ws : List Word} {n : Nat} (h : n < ws.length) (old new : α) :
    field (whole ws) n 1 old new = new :=
  if_pos (wrote_whole h)

/-- A word written whole replaces the image's. -/
theorem wordAt_overlay_whole {old ws : List Word} {n : Nat} (h : n < old.length) (hw : n < ws.length) :
    wordAt (overlay old (whole ws)) n = wordAt ws n := by
  have hm := maskedAt_whole hw
  unfold maskedAt at hm
  unfold overlay
  rw [wordAt, List.getD_eq_getElem _ _ (by simpa using h), List.getElem_map, List.getElem_range, hm, MaskedWord.over_whole]

/-! ### The completion of a write (R189) -/

@[simp] theorem boardChange_nil (s : State) : boardChange [] s = s := rfl

/-- A write that leaves every cap hands the board nothing. -/
theorem writePostings_same {s t : State} (hgcm : t.gcm = s.gcm) (hghm : t.ghm = s.ghm) (hcw : t.cw = s.cw)
    (hicd : t.icd = s.icd) : writePostings s t = [] := by
  have hlines : linePostings s t = [] := by
    rw [linePostings, hgcm, List.flatMap_eq_nil_iff]
    intro n _
    dsimp only
    split
    · exact if_pos rfl
    · exact if_pos rfl
    · rfl
  simp [writePostings, hlines, hghm, hcw, hicd]

theorem writeShaft_keeps (ms : List MaskedWord) (s : State) :
    (writeShaft ms s).gcm = s.gcm ∧ (writeShaft ms s).ghm = s.ghm ∧ (writeShaft ms s).cw = s.cw ∧
      (writeShaft ms s).icd = s.icd := by
  unfold writeShaft; split <;> simp

/-- A whole write of the shaft configuration on a port that is ready. -/
theorem exec_shaftConfigurationWrite {dt : Nat} {p : PortId} {ws : List Word} {s : State} (hl : ws.length = 8)
    (hrole : (s.pi.get p).role ∈ [Role.turbine, Role.farm]) (hready : PortReady p s) :
    exec (.shaftConfigurationWrite dt p (whole ws)) s = .next (writeShaft (whole ws) (s.advance dt)) := by
  have hmay : mayWrite ((s.advance dt).pi.get p).role p 2 0 = true := by
    rw [State.advance_pi]
    rcases List.mem_pair.1 hrole with h | h <;> rw [h] <;> rfl
  have hne : ws ≠ [] := by rintro rfl; exact absurd hl (by decide)
  have hready' : PortReady p (s.advance dt) := hready
  have hrecord : ((List.range (recordCount 2)).filter
      (fun r => (wholeBuffer 0 (recordLength 2 0) (whole ws)).any (·.record = r))) = [0] := by
    obtain ⟨w, ws', rfl⟩ := List.exists_cons_of_ne_nil hne
    rfl
  have hbuffer : bufferRecord (wholeBuffer 0 (recordLength 2 0) (whole ws)) 0 (recordLength 2 0) = whole ws := by
    have := bufferRecord_whole 0 ws
    rwa [hl] at this
  obtain ⟨hgcm, hghm, hcw, hicd⟩ := writeShaft_keeps (whole ws) (s.advance dt)
  refine congrArg _ ((writeWhole_ready hready' (by simpa [whole] using hne) (by decide) hmay).trans ?_)
  unfold completeWrite
  rw [hrecord]
  simp only [List.foldl_cons, List.foldl_nil, applyRecord, hbuffer, anyWritten_whole hne, if_true]
  exact (congrArg (boardChange · _) (writePostings_same hgcm hghm hcw hicd)).trans (boardChange_nil _)

/-! ### The shaft configuration (R1, R2) -/

theorem eLinesOf_getD (n old : Nat) : (eLinesOf n).getD old = if n ∈ [256, 512, 1024, 2048] then n else old := by
  simp only [eLinesOf, List.mem_cons, List.not_mem_nil, or_false]
  split <;> rfl

theorem decOf_getD (n old : Nat) : (decOf n).getD old = if n ∈ [1, 2, 4, 8, 16, 32, 64] then n else old := by
  simp only [decOf, List.mem_cons, List.not_mem_nil, or_false]
  split <;> rfl

theorem eLinesOf_isNone (n : Nat) : (eLinesOf n).isNone = true ↔ n ∉ [256, 512, 1024, 2048] := by
  simp [eLinesOf]

theorem decOf_isNone (n : Nat) : (decOf n).isNone = true ↔ n ∉ [1, 2, 4, 8, 16, 32, 64] := by
  simp [decOf]

theorem decodeMode_isNone (n : Nat) : (DecodeMode.ofCode n).isNone = true ↔ ¬n < 3 := by
  match n with
  | 0 | 1 | 2 => simp [DecodeMode.ofCode]
  | n + 3 => simp [DecodeMode.ofCode]

theorem wordAt_shaftImage_whole {ws : List Word} (hl : ws.length = 8) (c : ShaftConfig) :
    ∀ n < 7, wordAt (overlay (shaftConfigImage c) (whole ws)) n = wordAt ws n := fun _ hn =>
  wordAt_overlay_whole hn (by omega)

/-- The configuration a write of eight whole words leaves. -/
theorem ShaftConfig.write_whole (e m d h q t g x : Word) (c : ShaftConfig) :
    c.write (whole [e, m, d, h, q, t, g, x]) =
      ⟨if e.toNat ∈ [256, 512, 1024, 2048] then e.toNat else c.eLines, (DecodeMode.ofCode m.toNat).getD c.mode,
        if d.toNat ∈ [1, 2, 4, 8, 16, 32, 64] then d.toNat else c.dec, min 100 h.toNat, q.getLsbD 1, q.getLsbD 0,
        max 1 (min 60 t.toNat), g.toNat⟩ := by
  have hword := wordAt_shaftImage_whole (ws := [e, m, d, h, q, t, g, x]) rfl c
  simp only [ShaftConfig.write, field_whole, numAt, hword, Nat.reduceLT, List.length_cons, List.length_nil, Nat.reduceAdd,
    eLinesOf_getD, decOf_getD]
  rfl

/-- Such a write is bad exactly when one of the three enumerations is. -/
theorem ShaftConfig.bad_whole (e m d h q t g x : Word) (c : ShaftConfig) :
    c.bad (whole [e, m, d, h, q, t, g, x]) = true ↔
      ¬(e.toNat ∈ [256, 512, 1024, 2048] ∧ m.toNat < 3 ∧ d.toNat ∈ [1, 2, 4, 8, 16, 32, 64]) := by
  have hword := wordAt_shaftImage_whole (ws := [e, m, d, h, q, t, g, x]) rfl c
  simp only [ShaftConfig.bad, badEnum, numAt, hword, wrote_whole, Nat.reduceLT, List.length_cons, List.length_nil, Nat.reduceAdd,
    Bool.true_and, Bool.or_eq_true, eLinesOf_isNone, decodeMode_isNone, decOf_isNone]
  change (e.toNat ∉ _ ∨ ¬m.toNat < 3) ∨ d.toNat ∉ _ ↔ _
  tauto

/-- Settles O42: the write reaches `writeShaft`, which discards it or stores what `ShaftConfig.write` leaves. -/
theorem shaftConfigurationWrite : Obligations.ShaftConfigurationWrite := by
  unfold Obligations.ShaftConfigurationWrite
  intro dt p eLines mode dec holdOff quadrant tStand gearRatio spare s u c okE okM okD new t i hrole hready
  have hexec : exec i s = .next (writeShaft (whole [eLines, mode, dec, holdOff, quadrant, tStand, gearRatio, spare]) u) :=
    exec_shaftConfigurationWrite rfl hrole hready
  have hbad := ShaftConfig.bad_whole eLines mode dec holdOff quadrant tStand gearRatio spare c
  have hstored : u.jobs.shaft = false →
      exec i s = .next (t.raiseIf (c.bad (whole [eLines, mode, dec, holdOff, quadrant, tStand, gearRatio, spare])) .badValue) := by
    intro hoff
    rw [hexec, writeShaft, if_neg (by simp [hoff]), ShaftConfig.write_whole]
  refine ⟨fun hon => ?_, fun hoff he hm hd => ?_, fun hoff hinvalid => ?_⟩
  · rw [hexec, writeShaft, if_pos hon]
  · rw [hstored hoff, State.raiseIf, if_neg (by rw [hbad]; exact not_not.2 ⟨he, hm, hd⟩)]
  · rw [hstored hoff, State.raiseIf, if_pos (hbad.2 hinvalid)]

end Sys2Proof.Machine

/-! PROOFS. Port reset and part reset (ResetsOfAPortAndOfThePart). -/

namespace Sys2Proof.Machine

/-! ### Port reset (R183, R196) -/

theorem resetPort_onlyTouches (p : PortId) (s : State) : OnlyTouches [.pi, .rep] s (resetPort p s) := by
  simp [onlyTouches_iff, resetPort]

/-- With the mask at 0 no summary bit reaches the attention line (R180). -/
theorem resetPort_attentionLine (p : PortId) (s : State) : (resetPort p s).attentionLine p = false := by
  have hmask : ((resetPort p s).rep.get p).mask = 0 := by simp [resetPort, RepPort.portReset]
  rw [State.attentionLine, hmask]
  simp

/-- A port held in reset begins no transaction (R196). -/
theorem startTransaction_held {p : PortId} {s : State} (h : (s.pi.get p).held = true) : startTransaction p s = s :=
  if_neg (by simp [h])

/-! ### Part reset (R182, R184) -/

/-- A port that the role check makes OBSERVER, as the statements count it. -/
theorem isDemoted_iff (own x y : Role) : isDemoted own x y = true ↔ own ≠ .observer ∧ (own = x ∨ own = y) := by
  simp [isDemoted]

theorem demotedCount_eq (a b c : Role) :
    demotedCount a b c = (if a ≠ .observer ∧ (a = b ∨ a = c) then 1 else 0) +
      (if b ≠ .observer ∧ (b = a ∨ b = c) then 1 else 0) + (if c ≠ .observer ∧ (c = a ∨ c = b) then 1 else 0) := by
  simp only [demotedCount, isDemoted_iff]

/-- Right after part reset the only flag is that of a role conflict (R182). -/
theorem hasFlag_initial (conflict : Bool) (f : Flag) :
    (RepPort.initial conflict).hasFlag f = true ↔ f = .roleConflict ∧ conflict = true := by
  cases conflict <;> cases f <;> decide

/-- Settles O45: the port reset by the lemmas above, the part reset item by item of `partReset`. -/
theorem resetsOfAPortAndOfThePart : Obligations.ResetsOfAPortAndOfThePart := by
  unfold Obligations.ResetsOfAPortAndOfThePart
  refine ⟨fun dt p s => ?_, fun a b c s => ?_⟩
  · intro u x r
    exact ⟨⟨resetPort p u, rfl, resetPort_onlyTouches p u, rfl, rfl, resetPort_attentionLine p u⟩, rfl,
      fun h => congrArg _ (startTransaction_held h)⟩
  · intro role n shaft off engine line grid ghm watch icing board calendar item
    have hn : (demotedCount a b c : Int) = n := by rw [demotedCount_eq]; push_cast; rfl
    refine ⟨partReset a b c s, rfl, rfl, rfl, rfl, rfl, rfl, rfl, fun p => ?_, fun p f => ?_, fun p => ?_, ?_, rfl, rfl, rfl, rfl,
      rfl, rfl, rfl, rfl, rfl, rfl, rfl, rfl, rfl, rfl, rfl, rfl, rfl, rfl, fun l => ?_, rfl, rfl, rfl, rfl⟩
    · cases p <;> exact ⟨rfl, rfl, rfl, rfl, rfl⟩
    · have hrep : (partReset a b c s).rep.get p = .initial (decide (0 < demotedCount a b c)) := by cases p <;> rfl
      rw [hrep, hasFlag_initial, decide_eq_true_iff, ← hn, Int.natCast_pos]
    · cases p <;> exact ⟨rfl, rfl, rfl, rfl, rfl, rfl, rfl⟩
    · rw [← hn]; rfl
    · cases l <;> rfl

end Sys2Proof.Machine

/-! PROOFS. The state right after reset meets every invariant (ResetMeetsEveryInvariant). -/

namespace Sys2Proof.Machine

theorem tget_replicate {α : Type} [Inhabited α] {n k : Nat} (h : n < k) (x : α) : tget (List.replicate k x) n = x := by
  simp [tget, h]

/-- After reset every slot of the board is the same inactive one (R136). -/
theorem reset_slot {n : Nat} (h : n < 28) : tget State.reset.lb.slots n = ⟨false, 100, .none, 0, true⟩ := tget_replicate h _

theorem reset_mem_slots {x : Slot} (h : x ∈ State.reset.lb.slots) : x = ⟨false, 100, .none, 0, true⟩ :=
  List.eq_of_mem_replicate h

/-- After reset every line definition is R42's. -/
theorem reset_mem_defs {d : LineDef} (h : d ∈ State.reset.gcm.defs) : d = .initial := List.eq_of_mem_replicate h

theorem reset_cond {n : Nat} (h : n < 24) : tget State.reset.gcm.conds n = .initial := tget_replicate h _

theorem reset_boardOk : BoardOk State.reset := by
  refine ⟨rfl, fun x hx => ?_, fun d hd => ?_, by decide, by decide, by decide, fun x hx hactive => ?_, fun _ => ⟨rfl, fun x hx => ?_⟩,
    nofun, by decide, nofun⟩
  · rw [reset_mem_slots hx]
  · rw [reset_mem_defs hd]; decide
  · rw [reset_mem_slots hx] at hactive; cases hactive
  · rw [reset_mem_slots hx]

theorem reset_stopSafe : StopSafe State.reset := nofun

theorem reset_gearSlotsOk : GearSlotsOk State.reset := by
  refine ⟨rfl, rfl, rfl, fun n hn => ?_⟩
  rw [reset_cond hn]
  exact congrArg Slot.active (reset_slot (by omega))

theorem reset_icingSlotOk : IcingSlotOk State.reset := ⟨rfl, rfl⟩

theorem reset_otherSlotsOk : OtherSlotsOk State.reset :=
  ⟨rfl, rfl, rfl, fun h => absurd rfl h, fun _ => rfl, fun _ => ⟨rfl, rfl⟩, nofun, fun _ => rfl⟩

/-- The journal holds the PART_RESET entry alone, and every cursor stands on it (R182). -/
theorem reset_journalOk : JournalOk State.reset := by
  refine ⟨nofun, by decide, by decide, fun i hi => ?_, fun p => ?_⟩
  · obtain rfl : i = 0 := Nat.lt_one_iff.1 hi
    rfl
  · cases p <;> decide

theorem reset_watchOk : WatchOk State.reset :=
  ⟨nofun, nofun, nofun, nofun, .nil, .nil, .nil, .nil, .rfl, .rfl, ⟨fun _ => rfl, fun _ => rfl⟩⟩

theorem reset_orderedOk : OrderedOk State.reset := by
  refine ⟨fun d hd => ?_, by decide, by decide, by decide, by decide⟩
  rw [reset_mem_defs hd]
  decide

theorem reset_countersOk : CountersOk State.reset := by
  refine ⟨by decide, rfl, rfl, fun b hb => ?_, by decide⟩
  rw [show b = 0 from List.eq_of_mem_replicate hb]
  decide

/-- The straps of the reset state are three different roles (R184). -/
theorem reset_rolesOk : RolesOk State.reset := by
  refine ⟨fun p => ?_, fun p q hne heq => ?_⟩
  · cases p <;> exact .inl rfl
  · cases p <;> cases q <;> simp at hne <;> cases heq

/-- No port is in a transaction. -/
theorem reset_sweepOk : SweepOk State.reset := by
  intro p h hh
  cases p <;> cases hh

theorem reset_scheduleOk : ScheduleOk State.reset := nofun

/-- Both engines wait with idle in-frame items (R41). -/
theorem reset_engine (sd : Side) : State.reset.ocr.engine sd = .initial := by cases sd <;> rfl

theorem reset_framesOk : FramesOk State.reset := by
  refine ⟨rfl, rfl, rfl, rfl, fun sd => ?_⟩
  rw [reset_engine]
  exact ⟨fun _ => rfl, nofun, .nil⟩

/-- Settles O46, invariant by invariant. -/
theorem resetMeetsEveryInvariant : Obligations.ResetMeetsEveryInvariant :=
  ⟨reset_boardOk, reset_stopSafe, reset_gearSlotsOk, reset_icingSlotOk, reset_otherSlotsOk, reset_journalOk, reset_watchOk,
    reset_orderedOk, reset_countersOk, reset_rolesOk, reset_sweepOk, reset_scheduleOk, reset_framesOk⟩

end Sys2Proof.Machine

/-! PROOFS. One slot of the board after a change, and the operations that leave gear lines, frames and configurations as they stand. -/

namespace Sys2Proof.Machine

/-! ### One slot of the board after the changes of one event (R121) -/

theorem tget_tmod {α : Type} [Inhabited α] (xs : List α) (n k : Nat) (f : α → α) (h : k < xs.length) :
    tget (tmod xs n f) k = if n = k then f (tget xs k) else tget xs k := by
  split
  next hn => subst hn; exact tget_tmod_self xs n f h
  next hn => exact tget_tmod_other xs f (Ne.symm hn)

/-- The changes that name a slot act on it one after the other. -/
theorem applyChanges_slot (t : Nat) (u : Bool) (xs : List Slot) (cs : List SlotChange) (k : Nat) (h : k < xs.length) :
    tget (applyChanges t u xs cs) k =
      (cs.filter (fun c => c.slot = k)).foldl (fun x c => x.apply t u c.act) (tget xs k) := by
  unfold applyChanges
  induction cs generalizing xs with
  | nil => rfl
  | cons c cs ih =>
    rw [List.foldl_cons, ih _ (by simpa using h), tget_tmod _ _ _ _ h, List.filter_cons]
    by_cases hc : c.slot = k <;> simp [hc]

/-- A change without effect is a withdrawal that changes nothing. -/
theorem Slot.apply_of_not_effective {slots : List Slot} {c : SlotChange} (t : Nat) (u : Bool)
    (h : c.effective slots = false) : (tget slots c.slot).apply t u c.act = tget slots c.slot := by
  unfold SlotChange.effective at h
  unfold Slot.apply
  cases hact : c.act with
  | post cap code => simp [hact] at h
  | withdraw => rw [hact] at h; simp [h]

/-- A slot that one change of the event names takes that change. -/
theorem boardChange_slot {cs : List SlotChange} {c : SlotChange} (s : State) (h : c.slot < s.lb.slots.length)
    (hc : cs.filter (fun x => x.slot = c.slot) = [c]) :
    tget (boardChange cs s).lb.slots c.slot = (tget s.lb.slots c.slot).apply s.cc.time (!s.cc.isSet) c.act := by
  have hes : (cs.filter (SlotChange.effective s.lb.slots)).filter (fun x => x.slot = c.slot) =
      [c].filter (SlotChange.effective s.lb.slots) := by
    rw [← hc]; simp only [List.filter_filter, Bool.and_comm]
  rw [boardChange_lb]
  cases he : c.effective s.lb.slots with
  | true =>
    have hmem : c ∈ cs.filter (SlotChange.effective s.lb.slots) := by
      have : c ∈ cs.filter (fun x => x.slot = c.slot) := by rw [hc]; exact List.mem_singleton_self c
      exact List.mem_filter.2 ⟨List.mem_of_mem_filter this, he⟩
    rw [if_neg (by simpa using List.ne_nil_of_mem hmem)]
    exact (applyChanges_slot _ _ _ _ _ h).trans (by simp [hes, he])
  | false =>
    rw [Slot.apply_of_not_effective _ _ he]
    split
    · rfl
    · exact (applyChanges_slot _ _ _ _ _ h).trans (by simp [hes, he])

theorem boardChange_posts {cs : List SlotChange} {s : State} {k cap : Nat} {code : SlotCode} (h : k < s.lb.slots.length)
    (hc : cs.filter (fun x => x.slot = k) = [⟨k, .post cap code⟩]) :
    Posted (tget (boardChange cs s).lb.slots k) cap code := by
  rw [boardChange_slot (c := ⟨k, .post cap code⟩) s h hc]
  exact ⟨rfl, rfl, rfl⟩

theorem boardChange_withdraws {cs : List SlotChange} {s : State} {k : Nat} (h : k < s.lb.slots.length)
    (hc : cs.filter (fun x => x.slot = k) = [⟨k, .withdraw⟩]) :
    (tget (boardChange cs s).lb.slots k).active = false := by
  rw [boardChange_slot (c := ⟨k, .withdraw⟩) s h hc]
  unfold Slot.apply
  by_cases ha : (tget s.lb.slots k).active = true <;> simp [ha]

/-- In a list gathered from numbered sources, what bears one number is what its source gave. -/
theorem filter_flatMap_numbered {α β : Type} (key : β → Nat) (num : α → Nat) (f : α → List β) {xs : List α} {a : α}
    (hf : ∀ x ∈ xs, ∀ b ∈ f x, key b = num x) (hn : xs.Pairwise (fun x y => num x ≠ num y)) (ha : a ∈ xs) :
    (xs.flatMap f).filter (fun b => key b = num a) = f a := by
  have hnone : ∀ ys : List α, (∀ y ∈ ys, num y ≠ num a) → (∀ y ∈ ys, ∀ b ∈ f y, key b = num y) →
      (ys.flatMap f).filter (fun b => key b = num a) = [] := by
    intro ys hne hkey
    rw [List.filter_eq_nil_iff]
    intro b hb
    obtain ⟨y, hy, hby⟩ := List.mem_flatMap.1 hb
    simpa [hkey y hy b hby] using hne y hy
  induction xs with
  | nil => cases ha
  | cons x xs ih =>
    obtain ⟨hx, hxs⟩ := List.pairwise_cons.1 hn
    have hfx : ∀ b ∈ f x, key b = num x := hf x List.mem_cons_self
    have hfxs : ∀ y ∈ xs, ∀ b ∈ f y, key b = num y := fun y hy => hf y (List.mem_cons_of_mem _ hy)
    rw [List.flatMap_cons, List.filter_append]
    rcases List.mem_cons.1 ha with rfl | hmem
    · rw [hnone xs (fun y hy => (hx y hy).symm) hfxs, List.append_nil, List.filter_eq_self]
      simpa using hfx
    · rw [ih hfxs hxs hmem, List.filter_eq_nil_iff.2, List.nil_append]
      intro b hb
      simpa [hfx b hb] using hx a hmem

/-! ### What stands while no gear line, no frame and no configuration changes -/

/-- Lines, engines and line results, the configuration of the Icing Detector, the length of the mechanical table, and the slots of the gear lines
stand. -/
structure GearStands (s t : State) : Prop where
  gcm : t.gcm = s.gcm
  ocr : t.ocr = { s.ocr with link := t.ocr.link }
  icd : t.icd.config = s.icd.config
  mech : t.cw.mech.length = s.cw.mech.length
  slots : t.lb.slots.length = s.lb.slots.length
  gear : ∀ k, 4 ≤ k → tget t.lb.slots k = tget s.lb.slots k

theorem GearStands.refl (s : State) : GearStands s s := ⟨rfl, rfl, rfl, rfl, rfl, fun _ _ => rfl⟩

theorem GearStands.trans {s t u : State} (h : GearStands s t) (h' : GearStands t u) : GearStands s u where
  gcm := h'.gcm.trans h.gcm
  ocr := by rw [h'.ocr, h.ocr]
  icd := h'.icd.trans h.icd
  mech := h'.mech.trans h.mech
  slots := h'.slots.trans h.slots
  gear k hk := (h'.gear k hk).trans (h.gear k hk)

/-- A change of the state elsewhere. -/
theorem GearStands.congr {s t t' : State} (h : GearStands s t) (hgcm : t'.gcm = t.gcm) (hocr : t'.ocr = t.ocr)
    (hicd : t'.icd.config = t.icd.config) (hcw : t'.cw.mech.length = t.cw.mech.length) (hlb : t'.lb.slots = t.lb.slots) :
    GearStands s t' :=
  h.trans ⟨hgcm, by rw [hocr], hicd, hcw, by rw [hlb], fun _ _ => by rw [hlb]⟩

/-- An operation whose frame names the five blocks. -/
theorem gearStands_of_frame {s t : State} (hgcm : t.gcm = s.gcm) (hocr : t.ocr = s.ocr) (hicd : t.icd = s.icd)
    (hcw : t.cw = s.cw) (hlb : t.lb = s.lb) : GearStands s t :=
  (GearStands.refl s).congr hgcm hocr (by rw [hicd]) (by rw [hcw]) (by rw [hlb])

section Closure

variable {s t : State} (h : GearStands s t)
include h

theorem GearStands.setJobs (x : Jobs) : GearStands s (t.setJobs x) := h.congr rfl rfl rfl rfl rfl
theorem GearStands.setSau (x : Sau) : GearStands s (t.setSau x) := h.congr rfl rfl rfl rfl rfl
theorem GearStands.setGhm (x : Ghm) : GearStands s (t.setGhm x) := h.congr rfl rfl rfl rfl rfl
theorem GearStands.setMs (x : Ms) : GearStands s (t.setMs x) := h.congr rfl rfl rfl rfl rfl

theorem GearStands.setCw {x : Cw} (hx : x.mech.length = t.cw.mech.length) : GearStands s (t.setCw x) :=
  h.congr rfl rfl rfl hx rfl

theorem GearStands.setIcd {x : Icd} (hx : x.config = t.icd.config) : GearStands s (t.setIcd x) := h.congr rfl rfl hx rfl rfl

theorem GearStands.setLb (x : Lb) (hx : x.slots = t.lb.slots) : GearStands s (t.setLb x) := h.congr rfl rfl rfl rfl hx

theorem GearStands.raise (f : Flag) : GearStands s (t.raise f) := h.congr rfl rfl rfl rfl rfl

theorem GearStands.journal (b : EntryBody) : GearStands s (t.journal b) :=
  h.congr (by simp) (by simp) (by simp) (by simp) (by simp)

theorem GearStands.journalAll (bs : List EntryBody) : GearStands s (t.journalAll bs) :=
  h.congr (by simp) (by simp) (by simp) (by simp) (by simp)

theorem GearStands.startPublish (g : Nat) (recs : List Nat) (before : State) :
    GearStands s (startPublish g recs before t) := h.congr rfl rfl rfl rfl rfl

/-- A change of the slots of other posters. -/
theorem GearStands.boardChange {cs : List SlotChange} (hc : ∀ c ∈ cs, c.slot < 4) : GearStands s (boardChange cs t) :=
  h.trans ⟨by simp, by simp, by simp, by simp, by simp, fun k hk =>
    boardChange_other cs t k (fun c hm hk' => by have := hc c hm; omega)⟩

end Closure

/-! ### Limit Board -/

theorem gearStands_ackExpire (s : State) : GearStands s (ackExpire s) :=
  ((((GearStands.refl s).setLb _ (by rfl)).raise _).journal _).startPublish 10 [1] s

theorem gearStands_boardTick (s : State) : GearStands s (boardTick s) := by
  unfold boardTick; split
  · exact .refl s
  · split
    · exact gearStands_ackExpire s
    · exact (GearStands.refl s).setLb _ rfl

theorem gearStands_acknowledge (g : Nat) (s : State) : GearStands s (acknowledge g s) := by
  unfold acknowledge; dsimp only; split
  · exact (GearStands.refl s).setLb _ rfl
  · exact (((GearStands.refl s).setLb (s.lb.acknowledged g) (by rfl)).journal _).startPublish 10 [1] s

theorem gearStands_ackCap (g : Nat) (s : State) : GearStands s (ackCap g s).state := by
  unfold ackCap; split
  · exact gearStands_acknowledge g s
  · exact .refl s

/-! ### Maintenance Schedule -/

theorem gearStands_recomputeMaint (s : State) : GearStands s (recomputeMaint s) := by
  unfold recomputeMaint; split
  · split
    · split
      · exact .refl s
      · exact ((GearStands.refl s).setMs _).boardChange (by simp [slotMaint])
    · exact ((GearStands.refl s).setMs _).boardChange (by simp [slotMaint])
    · exact .refl s
  · exact .refl s

theorem gearStands_scheduleEvent {f : State → State} {s : State} (h : GearStands s (f s)) :
    GearStands s (scheduleEvent f s) := by
  unfold scheduleEvent; dsimp only; split
  · exact h.trans (gearStands_recomputeMaint _)
  · exact (h.trans (gearStands_recomputeMaint _)).startPublish _ _ _

theorem gearStands_scheduleTick (s : State) : GearStands s (scheduleTick s) :=
  gearStands_scheduleEvent (gearStands_of_frame (by simp) (by simp) (by simp) (by simp) (by simp))

theorem gearStands_takePulls (gs : List Pull) (s : State) : GearStands s (takePulls gs s) := by
  unfold takePulls; split
  · exact gearStands_scheduleEvent (gearStands_of_frame (by simp) (by simp) (by simp) (by simp) (by simp))
  · exact .refl s

theorem gearStands_itemDone (n : Nat) (s : State) : GearStands s (itemDone n s).state := by
  unfold itemDone; split
  · exact .refl s
  · split
    · exact .refl s
    · split
      · exact gearStands_scheduleEvent (gearStands_of_frame (by simp) (by simp) (by simp) (by simp) (by simp))
      · exact .refl s

theorem gearStands_itemDefer (n : Nat) (s : State) : GearStands s (itemDefer n s).state := by
  unfold itemDefer; dsimp only; repeat' split
  case h_2.isFalse.isFalse.isFalse =>
    exact gearStands_scheduleEvent (gearStands_of_frame (by simp) (by simp) (by simp) (by simp) (by simp))
  all_goals exact .refl s

theorem gearStands_enableMaint (s : State) : GearStands s (enableMaint s).state := by
  unfold enableMaint; split
  · exact .refl s
  · split
    · rw [accept_state]
      exact gearStands_scheduleEvent (gearStands_of_frame (by simp) (by simp) (by simp) (by simp) (by simp))
    · exact .refl s

theorem gearStands_disableMaint (s : State) : GearStands s (disableMaint s).state := by
  unfold disableMaint stopMaint; dsimp only; split
  · refine (GearStands.boardChange (((GearStands.refl s).setJobs _).setMs _) ?_).startPublish _ _ _
    intro c hc
    split at hc
    · rw [List.mem_singleton.1 hc]; decide
    · cases hc
  · exact .refl s

/-! ### Coincidence Watch -/

theorem coincPosting_slot {a b : Cw} {c : SlotChange} (h : c ∈ coincPosting a b) : c.slot = slotCoinc := by
  unfold coincPosting at h
  split at h
  · rw [List.mem_singleton.1 h]
  · split at h
    · rw [List.mem_singleton.1 h]
    · cases h

theorem GearStands.latchReport {s t : State} (h : GearStands s t) (before : Cw) : GearStands s (latchReport before t) := by
  unfold Machine.latchReport; split
  · exact (h.journal _).congr rfl rfl rfl rfl rfl
  · exact h

theorem gearStands_coincEvent (cause : EvalCause) {f : Cw → Cw} {s : State}
    (hf : (f s.cw).mech.length = s.cw.mech.length) : GearStands s (coincEvent cause f s) := by
  unfold coincEvent; dsimp only
  refine (GearStands.boardChange ?_ (fun c hc => by rw [coincPosting_slot hc]; decide)).startPublish _ _ _
  split
  · exact GearStands.latchReport (GearStands.setCw (.refl s) (by exact hf)) _
  · exact GearStands.setCw (.refl s) hf

theorem mechTake_length (sd : Side) (v : Nat) (ls : List ListedLine) (xs : List (Option MechEntry)) :
    (ls.foldl (mechTake sd v) xs).length = xs.length := by
  induction ls generalizing xs with
  | nil => rfl
  | cons l ls ih =>
    rw [List.foldl_cons, ih]
    unfold mechTake; split <;> simp

theorem gearStands_coincTakeFrame (sd : Side) (v : Nat) (ls : List ListedLine) (s : State) :
    GearStands s (coincTakeFrame sd v ls s) :=
  gearStands_coincEvent _ (mechTake_length sd v ls s.cw.mech)

theorem gearStands_coincTakeBlock (slots : List Nat) (s : State) : GearStands s (coincTakeBlock slots s) :=
  gearStands_coincEvent _ rfl

theorem gearStands_coincForgetGrid (s : State) : GearStands s (coincForgetGrid s) :=
  ((GearStands.refl s).setCw (by rfl)).startPublish 7 coincRecords s

theorem gearStands_enableCoinc (s : State) : GearStands s (enableCoinc s).state := by
  unfold enableCoinc; repeat' split
  · exact .refl s
  · exact .refl s
  · exact .refl s
  · exact (GearStands.boardChange ((GearStands.setCw (.refl s) (by rfl)).setJobs _) (by simp [slotCoinc])).startPublish _ _ _

theorem gearStands_disableCoinc (s : State) : GearStands s (disableCoinc s).state := by
  unfold disableCoinc; split
  · have hlive : GearStands s (boardChange [⟨slotCoinc, .withdraw⟩] (s.setCw { s.cw with liveLines := [], liveEntries := [] })) :=
      GearStands.boardChange (GearStands.setCw (.refl s) (by rfl)) (by simp [slotCoinc])
    exact (((hlive.setCw (by rfl)).journalAll _).setJobs _).startPublish _ _ _
  · exact .refl s

theorem gearStands_clearCoincidence (s : State) : GearStands s (clearCoincidence s).state := by
  unfold clearCoincidence; split
  · exact ((GearStands.setCw (.refl s) (by rfl)).journalAll _).startPublish 7 coincRecords s
  · exact .refl s

/-! ### Grid Harmonic Monitor -/

theorem conformancePosting_slot {a b : Ghm} {c : SlotChange} (h : c ∈ conformancePosting a b) : c.slot = slotGrid := by
  unfold conformancePosting at h
  split at h
  · cases h
  · split at h <;> rw [List.mem_singleton.1 h]

theorem gearStands_evaluateBlock (s : State) : GearStands s (evaluateBlock s) := by
  unfold evaluateBlock; split
  · exact ((GearStands.refl s).setGhm _).startPublish 6 blockRecords s
  · exact ((GearStands.boardChange (((GearStands.refl s).setGhm _).journalAll _)
      (fun c hc => by rw [conformancePosting_slot hc]; decide)).startPublish 6 blockRecords s).trans
      (gearStands_coincTakeBlock _ _)

theorem gearStands_tryBlock (s : State) : GearStands s (tryBlock s) := by
  unfold tryBlock; split
  · exact gearStands_evaluateBlock s
  · exact .refl s

theorem gearStands_windowEvaluated (w : Window) (s : State) : GearStands s (windowEvaluated w s) :=
  (((GearStands.refl s).setGhm _).startPublish 6 windowRecords s).trans (gearStands_tryBlock _)

theorem gearStands_windowDiscarded (cause : WindowCause) (s : State) : GearStands s (windowDiscarded cause s) := by
  unfold windowDiscarded; split
  · exact (((GearStands.refl s).setGhm _).startPublish 6 windowRecords s).trans (gearStands_tryBlock _)
  · exact .refl s

theorem gearStands_countCycle (s : State) : GearStands s (countCycle s) := by
  unfold countCycle; dsimp only; split
  · exact .refl s
  · split
    · exact (GearStands.refl s).setGhm _
    · unfold completeWindow; split
      · exact gearStands_windowDiscarded _ s
      · exact gearStands_windowEvaluated _ s

theorem gearStands_leaveLocked (cause : WindowCause) (s : State) : GearStands s (leaveLocked cause s) :=
  ((GearStands.refl s).setGhm _).trans (gearStands_windowDiscarded _ _)

theorem gearStands_lockedEdge (s : State) : GearStands s (lockedEdge s) := by
  unfold lockedEdge; dsimp only; split
  · exact (((GearStands.refl s).setGhm _).trans (gearStands_countCycle _)).setGhm _
  · exact (GearStands.refl s).setGhm _

theorem gearStands_lockReport (a b : LockState) (value : Nat) (s : State) : GearStands s (lockReport a b value s) :=
  gearStands_of_frame (by simp) (by simp) (by simp) (by simp) (by simp)

theorem gearStands_measuredEdge (p : Nat) (s : State) : GearStands s (measuredEdge p s) := by
  have hreport := ((GearStands.refl s).setGhm ((s.ghm.measure p).refer s.now)).trans
    (gearStands_lockReport s.ghm.lock (s.ghm.measure p).lock p _)
  unfold measuredEdge; dsimp only; split
  · exact hreport.trans (gearStands_lockedEdge _)
  · split
    · exact hreport.trans (gearStands_leaveLocked _ _)
    · exact hreport

theorem gearStands_takeZeroCross (s : State) : GearStands s (takeZeroCross s) := by
  unfold takeZeroCross; split
  · exact (GearStands.refl s).setGhm _
  · split
    · exact gearStands_measuredEdge _ s
    · exact (GearStands.refl s).setGhm _

theorem gearStands_lossExpire (s : State) : GearStands s (lossExpire s) := by
  have hstopped := (GearStands.refl s).setGhm { s.ghm with loss := none, edgeRef := none, valid := 0, lock := .unlocked }
  unfold lossExpire; dsimp only; split
  · exact hstopped
  · split
    · exact ((hstopped.raise _).journal _).trans (gearStands_leaveLocked _ _)
    · exact (hstopped.raise _).journal _

theorem gearStands_disableGrid (s : State) : GearStands s (disableGrid s).state := by
  unfold disableGrid; split
  · exact .refl s
  · split
    · refine ((GearStands.startPublish (GearStands.boardChange (((GearStands.refl s).setGhm _).journalAll _) ?_) _ _ _).trans
        (gearStands_coincForgetGrid _)).setJobs _
      intro c hc
      split at hc
      · rw [List.mem_singleton.1 hc]; decide
      · cases hc
    · exact .refl s

/-! ### Icing Detector -/

theorem icingPosting_slot (c : IcingConfig) (st : IcingState) : (icingPosting c st).slot = slotIcing := by
  cases st <;> rfl

theorem gearStands_icingChange (st : IcingState) (value : Int) {f : Icd → Icd} (s : State)
    (hf : ∀ c, (f c).config = c.config) : GearStands s (icingChange st value f s) := by
  unfold icingChange
  exact (GearStands.boardChange ((GearStands.setIcd (.refl s) (by exact hf _)).journal _)
    (fun c hc => by rw [List.mem_singleton.1 hc, icingPosting_slot]; decide)).startPublish _ _ _

theorem gearStands_freshnessTick (s : State) : GearStands s (freshnessTick s) := by
  unfold freshnessTick; dsimp only; split
  · exact ((GearStands.setIcd (.refl s) (by rfl)).raise _).journal _
  · exact GearStands.setIcd (.refl s) (by rfl)

theorem gearStands_intervalTick (s : State) : GearStands s (intervalTick s) := by
  unfold intervalTick; split
  · split
    · unfold closeInterval; dsimp only; split
      · exact (GearStands.setIcd (.refl s) (by rfl)).startPublish 8 [1] s
      · exact gearStands_icingChange _ _ s (fun _ => rfl)
    · exact GearStands.setIcd (.refl s) (by rfl)
  · exact .refl s

theorem gearStands_thawTick (before : Option Nat) (s : State) : GearStands s (thawTick before s) := by
  unfold thawTick; split
  · split
    · unfold thawExpire; split
      · exact gearStands_icingChange _ _ s (fun _ => rfl)
      · exact GearStands.setIcd (.refl s) (by rfl)
    · exact GearStands.setIcd (.refl s) (by rfl)
  · exact .refl s

theorem gearStands_icingTick (s : State) : GearStands s (icingTick s) :=
  ((gearStands_freshnessTick s).trans (gearStands_intervalTick _)).trans (gearStands_thawTick _ _)

theorem gearStands_enableIcing (s : State) : GearStands s (enableIcing s).state := by
  unfold enableIcing; repeat' split
  · exact .refl s
  · exact .refl s
  · exact (GearStands.boardChange (((GearStands.setIcd (.refl s) (by rfl)).setJobs _).journal _)
      (fun c hc => by rw [List.mem_singleton.1 hc, icingPosting_slot]; decide)).startPublish _ _ _

theorem gearStands_disableIcing (s : State) : GearStands s (disableIcing s).state := by
  unfold disableIcing; split
  · exact (GearStands.boardChange (((GearStands.setIcd (.refl s) (by rfl)).setJobs _).journal _)
      (fun c hc => by rw [List.mem_singleton.1 hc, icingPosting_slot]; decide)).startPublish _ _ _
  · exact .refl s

theorem gearStands_icingReport (s : State) : GearStands s (icingReport s).state := by
  unfold icingReport; split
  · exact .refl s
  · exact .refl s
  · exact gearStands_icingChange _ _ s (fun _ => rfl)

theorem gearStands_icingRelease (s : State) : GearStands s (icingRelease s).state := by
  unfold icingRelease; repeat' split
  · exact .refl s
  · exact gearStands_icingChange _ _ s (fun _ => rfl)
  · exact .refl s

theorem gearStands_learnBaseline (s : State) : GearStands s (learnBaseline s).state := by
  unfold learnBaseline; split
  · exact .refl s
  · exact ((GearStands.setIcd (.refl s) (by rfl)).journal _).startPublish 8 [1] s

theorem gearStands_operatingArrived (s : State) : GearStands s (operatingArrived s) := by
  have harrive : (s.icd.arrive s.jobs.icing).config = s.icd.config := by
    unfold Icd.arrive Icd.sum; dsimp only; repeat' split
    all_goals rfl
  unfold operatingArrived; dsimp only; split
  · exact (GearStands.setIcd (.refl s) harrive).journal _
  · exact GearStands.setIcd (.refl s) harrive

/-! ### The clock -/

theorem gearStands_handTick (order : TickOrder) (s : State) : GearStands s (handTick order s) := by
  have hms := gearStands_scheduleTick
  have hlb := gearStands_boardTick
  have hicd := gearStands_icingTick
  unfold handTick
  cases order with
  | icdLbMs => exact ((hicd s).trans (hlb _)).trans (hms _)
  | icdMsLb => exact ((hicd s).trans (hms _)).trans (hlb _)
  | lbIcdMs => exact ((hlb s).trans (hicd _)).trans (hms _)
  | lbMsIcd => exact ((hlb s).trans (hms _)).trans (hicd _)
  | msIcdLb => exact ((hms s).trans (hicd _)).trans (hlb _)
  | msLbIcd => exact ((hms s).trans (hlb _)).trans (hicd _)

theorem gearStands_issueTick (order : TickOrder) (s : State) : GearStands s (issueTick order s) :=
  (gearStands_of_frame (by simp) (by simp) (by simp) (by simp) (by simp)).trans (gearStands_handTick order _)

theorem gearStands_phaseTick (order : TickOrder) (s : State) : GearStands s (phaseTick order s) :=
  (gearStands_of_frame (by simp) (by simp) (by simp) (by simp) (by simp)).trans (gearStands_issueTick order _)

theorem gearStands_alignTick (order : TickOrder) (s : State) : GearStands s (alignTick order s) := by
  have hzero : GearStands s (zeroPhase s) := gearStands_of_frame rfl rfl rfl rfl rfl
  unfold alignTick; split
  · exact hzero.trans (gearStands_issueTick order _)
  · exact hzero

theorem gearStands_takePps (order : TickOrder) (s : State) : GearStands s (takePps order s) := by
  have haccept : GearStands s (s.setCc (s.cc.acceptPps s.now)) := gearStands_of_frame rfl rfl rfl rfl rfl
  have halign := haccept.trans (gearStands_alignTick order _)
  unfold takePps; dsimp only; split
  · exact halign.congr (by simp) (by simp) (by simp) (by simp) (by simp)
  · split
    · exact halign
    · exact haccept

/-! ### Commands -/

/-- Of the commands only DISABLE GEAR reaches lines, frames and their slots. -/
theorem gearStands_ownerAnswer (p : PortId) (arg : Word) {c : Command} (hc : c ≠ .disable .gear) (s : State) :
    GearStands s (ownerAnswer p arg c s).state := by
  cases c with
  | enable j =>
    cases j with
    | shaft | gear | grid =>
      exact gearStands_of_frame (by simp [ownerAnswer]) (by simp [ownerAnswer]) (by simp [ownerAnswer])
        (by simp [ownerAnswer]) (by simp [ownerAnswer])
    | coinc => exact gearStands_enableCoinc s
    | icing => exact gearStands_enableIcing s
    | maint => exact gearStands_enableMaint s
  | disable j =>
    cases j with
    | shaft =>
      exact gearStands_of_frame (by simp [ownerAnswer]) (by simp [ownerAnswer]) (by simp [ownerAnswer])
        (by simp [ownerAnswer]) (by simp [ownerAnswer])
    | gear => exact absurd rfl hc
    | grid => exact gearStands_disableGrid s
    | coinc => exact gearStands_disableCoinc s
    | icing => exact gearStands_disableIcing s
    | maint => exact gearStands_disableMaint s
  | clearCoincidence => exact gearStands_clearCoincidence s
  | icingReport => exact gearStands_icingReport s
  | icingRelease => exact gearStands_icingRelease s
  | learnBaseline => exact gearStands_learnBaseline s
  | ackCap => exact gearStands_ackCap _ s
  | itemDone => exact gearStands_itemDone _ s
  | itemDefer => exact gearStands_itemDefer _ s
  | restartRequest | clockArm | counterRestore | journalAdvance | attnMask =>
    exact gearStands_of_frame (by simp [ownerAnswer]) (by simp [ownerAnswer]) (by simp [ownerAnswer])
      (by simp [ownerAnswer]) (by simp [ownerAnswer])

end Sys2Proof.Machine

/-! PROOFS. What a frame that ends makes of gear lines, slots and frame engines, and what a write makes of definitions and configurations. -/

namespace Sys2Proof.Machine

/-! ### An evaluated completion, line by line (R44, R50 to R53) -/

/-- What a completion makes of the condition of a listed line: an evaluation, or nothing when it is NOT_EVALUABLE. -/
def ListedLine.judged (defs : List LineDef) (seq : Nat) (conds : List Cond) (l : ListedLine) : Cond :=
  match l.code with
  | some (code, ovr) => (tget conds l.line).evaluate (tget defs l.line) code ovr seq
  | none => tget conds l.line

/-- The LEVEL entries that the evaluation of a listed line makes. -/
def ListedLine.entries (defs : List LineDef) (seq : Nat) (conds : List Cond) (l : ListedLine) : List EntryBody :=
  match l.code with
  | some (code, _) =>
    if (tget conds l.line).level = (l.judged defs seq conds).level then []
    else levelEntries l.line (tget defs l.line) code (tget conds l.line) (l.judged defs seq conds)
  | none => []

/-- What a listed line whose level changes hands the board. -/
def ListedLine.postings (defs : List LineDef) (seq : Nat) (conds : List Cond) (l : ListedLine) : List SlotChange :=
  if (tget conds l.line).level = (l.judged defs seq conds).level then []
  else [levelPosting l.line (tget defs l.line) (l.judged defs seq conds).level]

/-- The pull-forward signals of a listed line whose level changes. -/
def ListedLine.pulls (defs : List LineDef) (seq : Nat) (conds : List Cond) (l : ListedLine) : List Pull :=
  if (tget conds l.line).level = (l.judged defs seq conds).level then []
  else levelPull l.line (tget defs l.line) (l.judged defs seq conds).level

/-- Taking one line more, whose condition the lines before it have not touched. -/
theorem takeLine_eq {defs : List LineDef} {seq : Nat} {conds : List Cond} {acc : List Cond × Handed} {l : ListedLine}
    (h : tget acc.1 l.line = tget conds l.line) :
    takeLine defs seq acc l =
      (if l.code = none then acc.1 else acc.1.set l.line (l.judged defs seq conds),
        ⟨acc.2.entries ++ l.entries defs seq conds, acc.2.postings ++ l.postings defs seq conds,
          acc.2.pulls ++ l.pulls defs seq conds⟩) := by
  unfold takeLine ListedLine.entries ListedLine.postings ListedLine.pulls ListedLine.judged
  cases l.code with
  | none => simp
  | some code =>
    simp only [h]
    split <;> simp

theorem takeLines_snoc (defs : List LineDef) (seq : Nat) (ls : List ListedLine) (l : ListedLine) (conds : List Cond) :
    takeLines defs seq (ls ++ [l]) conds = takeLine defs seq (takeLines defs seq ls conds) l := by
  simp [takeLines]

theorem takeLine_fst (defs : List LineDef) (seq : Nat) (acc : List Cond × Handed) (l : ListedLine) :
    (takeLine defs seq acc l).1 = if l.code = none then acc.1 else acc.1.set l.line (l.judged defs seq acc.1) := by
  unfold takeLine ListedLine.judged
  cases l.code <;> simp

theorem tget_set_other {α : Type} [Inhabited α] (xs : List α) {n k : Nat} (x : α) (h : n ≠ k) :
    tget (xs.set n x) k = tget xs k := by
  simp [tget, List.getD, List.getElem?_set_ne h]

theorem tget_set_self {α : Type} [Inhabited α] (xs : List α) {n : Nat} (x : α) (h : n < xs.length) :
    tget (xs.set n x) n = x := by
  simp [tget, List.getD, h]

@[simp] theorem takeLines_length (defs : List LineDef) (seq : Nat) (ls : List ListedLine) (conds : List Cond) :
    (takeLines defs seq ls conds).1.length = conds.length := by
  induction ls using List.reverseRecOn with
  | nil => rfl
  | append_singleton ls l ih =>
    rw [takeLines_snoc, takeLine_fst]
    split <;> simp [ih]

/-- A line that is not listed with a code keeps its condition. -/
theorem takeLines_other {defs : List LineDef} {seq : Nat} {ls : List ListedLine} {conds : List Cond} {k : Nat}
    (h : ∀ l ∈ ls, l.code ≠ none → l.line ≠ k) : tget (takeLines defs seq ls conds).1 k = tget conds k := by
  induction ls using List.reverseRecOn with
  | nil => rfl
  | append_singleton ls l ih =>
    have hls := ih (fun l' hl' => h l' (by simp [hl']))
    rw [takeLines_snoc, takeLine_fst]
    split
    · exact hls
    next hcode => rw [tget_set_other _ _ (h l (by simp) hcode), hls]

/-- Each line is listed once. -/
def LinesDistinct (ls : List ListedLine) : Prop := ls.Pairwise (fun a b => a.line ≠ b.line)

theorem LinesDistinct.snoc {ls : List ListedLine} {l : ListedLine} (h : LinesDistinct (ls ++ [l])) :
    LinesDistinct ls ∧ ∀ x ∈ ls, x.line ≠ l.line := by
  obtain ⟨hls, -, hl⟩ := List.pairwise_append.1 h
  exact ⟨hls, fun x hx => hl x hx l (List.mem_singleton_self l)⟩

/-- What a completion hands on, gathered in the order of its lines. -/
theorem takeLines_handed {defs : List LineDef} {seq : Nat} {ls : List ListedLine} (conds : List Cond) (h : LinesDistinct ls) :
    (takeLines defs seq ls conds).2 =
      ⟨ls.flatMap (·.entries defs seq conds), ls.flatMap (·.postings defs seq conds), ls.flatMap (·.pulls defs seq conds)⟩ := by
  induction ls using List.reverseRecOn with
  | nil => rfl
  | append_singleton ls l ih =>
    obtain ⟨hls, hl⟩ := h.snoc
    rw [takeLines_snoc, takeLine_eq (conds := conds) (takeLines_other (fun x hx _ => hl x hx)), ih hls]
    simp

/-- The condition of a listed line after the completion. -/
theorem takeLines_listed {defs : List LineDef} {seq : Nat} {ls : List ListedLine} {conds : List Cond} {l : ListedLine}
    (h : LinesDistinct ls) (hl : l ∈ ls) (hk : l.line < conds.length) :
    tget (takeLines defs seq ls conds).1 l.line = l.judged defs seq conds := by
  induction ls using List.reverseRecOn with
  | nil => cases hl
  | append_singleton ls x ih =>
    obtain ⟨hls, hx⟩ := h.snoc
    have hsame : tget (takeLines defs seq ls conds).1 x.line = tget conds x.line := takeLines_other (fun y hy _ => hx y hy)
    rw [takeLines_snoc, takeLine_eq (conds := conds) hsame]
    rcases List.mem_append.1 hl with hmem | hmem
    · dsimp only
      split
      · exact ih hls hmem
      · rw [tget_set_other _ _ (hx l hmem).symm, ih hls hmem]
    · obtain rfl := List.mem_singleton.1 hmem
      dsimp only
      split
      next hcode => rw [hsame]; simp [ListedLine.judged, hcode]
      next => exact tget_set_self _ _ (by simpa using hk)

theorem levelPosting_slot (n : Nat) (d : LineDef) (lv : Level) : (levelPosting n d lv).slot = 4 + n := by
  cases lv <;> rfl

/-- Each line hands the board changes of its own slot alone (R51). -/
theorem ListedLine.postings_slot {defs : List LineDef} {seq : Nat} {conds : List Cond} {l : ListedLine} {c : SlotChange}
    (h : c ∈ l.postings defs seq conds) : c.slot = 4 + l.line := by
  unfold ListedLine.postings at h
  split at h
  · cases h
  · rw [List.mem_singleton.1 h, levelPosting_slot]

/-- Of the postings of a completion those of one listed line. -/
theorem takeLines_postings_of_line {defs : List LineDef} {seq : Nat} {ls : List ListedLine} {conds : List Cond}
    {l : ListedLine} (h : LinesDistinct ls) (hl : l ∈ ls) :
    (takeLines defs seq ls conds).2.postings.filter (fun c => c.slot = 4 + l.line) = l.postings defs seq conds := by
  rw [takeLines_handed conds h]
  refine filter_flatMap_numbered SlotChange.slot (fun l => 4 + l.line) _ (fun x _ c hc => x.postings_slot hc)
    (h.imp ?_) hl
  intro a b hab h'
  exact hab (by omega)

/-! ### The slot of a line follows its level (R51) -/

/-- Slot GL of a line of level `lv` and definition `d`. -/
def SlotSays (d : LineDef) (lv : Level) (x : Slot) : Prop :=
  match lv with
  | .alert => Posted x d.alertCap .alert
  | .danger => Posted x d.dangerCap .danger
  | _ => x.active = false

theorem gearSlotsOk_iff (s : State) :
    GearSlotsOk s ↔ s.lb.slots.length = 28 ∧ s.gcm.defs.length = 24 ∧ s.gcm.conds.length = 24 ∧
      ∀ n, n < 24 → SlotSays (tget s.gcm.defs n) (tget s.gcm.conds n).level (tget s.lb.slots (4 + n)) := Iff.rfl

/-- A posting for a level brings its slot to what the level says. -/
theorem boardChange_levelPosting {cs : List SlotChange} {s : State} {n : Nat} {d : LineDef} {lv : Level}
    (h : 4 + n < s.lb.slots.length) (hc : cs.filter (fun x => x.slot = 4 + n) = [levelPosting n d lv]) :
    SlotSays d lv (tget (boardChange cs s).lb.slots (4 + n)) := by
  cases lv with
  | alert | danger => exact boardChange_posts h hc
  | unrated | normal => exact boardChange_withdraws h hc

/-- Where an event names no slot of a line, that slot stands. -/
theorem boardChange_unnamed {cs : List SlotChange} (s : State) {k : Nat} (hc : cs.filter (fun x => x.slot = k) = []) :
    tget (boardChange cs s).lb.slots k = tget s.lb.slots k :=
  boardChange_other cs s k (by simpa using List.filter_eq_nil_iff.1 hc)

/-- After the postings of a completion each listed line's slot says its level, if it did before. -/
theorem boardChange_handed {defs : List LineDef} {seq : Nat} {ls : List ListedLine} {conds : List Cond} {s : State}
    {l : ListedLine} (h : LinesDistinct ls) (hl : l ∈ ls) (hk : 4 + l.line < s.lb.slots.length)
    (hs : SlotSays (tget defs l.line) (tget conds l.line).level (tget s.lb.slots (4 + l.line))) :
    SlotSays (tget defs l.line) (l.judged defs seq conds).level
      (tget (boardChange (takeLines defs seq ls conds).2.postings s).lb.slots (4 + l.line)) := by
  have hfilter := takeLines_postings_of_line (defs := defs) (seq := seq) (conds := conds) h hl
  unfold ListedLine.postings at hfilter
  split at hfilter
  next hsame => rw [boardChange_unnamed _ hfilter, ← hsame]; exact hs
  next => exact boardChange_levelPosting hk hfilter

/-! ### An evaluated completion (R35 to R40, R44) -/

/-- The lines as a completion of the frame lists them (R38). -/
def Frame.listed (f : Frame) : List ListedLine := f.lines.map (CapturedLine.listed f.length)

@[simp] theorem CapturedLine.listed_line (n : Nat) (l : CapturedLine) : (l.listed n).line = l.line := rfl

theorem CapturedLine.listed_code (n : Nat) (l : CapturedLine) : (l.listed n).code = none ↔ l.evaluable = false := by
  unfold CapturedLine.listed
  cases l.evaluable <;> simp

/-- The lines of a frame are the numbers of lines, in line order (R26). -/
def LinesOrdered (ls : List CapturedLine) : Prop := (∀ l ∈ ls, l.line < 24) ∧ ls.Pairwise (fun a b => a.line < b.line)

theorem LinesOrdered.distinct {f : Frame} (h : LinesOrdered f.lines) : LinesDistinct f.listed :=
  List.pairwise_map.2 (h.2.imp (fun hab => Nat.ne_of_lt hab))

/-- The engine that an evaluated completion leaves. -/
def evaluatedEngine (sd : Side) (f : Frame) (s : State) : Engine := (s.ocr.engine sd).evaluated sd f

/-- The conditions and the hand-off of an evaluated completion. -/
def evaluation (sd : Side) (f : Frame) (s : State) : List Cond × Handed :=
  takeLines s.gcm.defs (evaluatedEngine sd f s).seq f.listed s.gcm.conds

/-- The state once the results of an evaluated completion are stored (R35 to R38). -/
def resultsStored (sd : Side) (f : Frame) (s : State) : State :=
  (s.setOcr { s.ocr.setEngine sd (evaluatedEngine sd f s) with
    results := storeResults sd f.length (evaluatedEngine sd f s).seq f.lines s.ocr.results }).raiseIf
      (f.lines.any (fun l => !l.evaluable)) .badOrder

/-- The state once the lines are judged, their LEVEL entries made and their slots changed (R44, R50, R51). -/
def linesJudged (sd : Side) (f : Frame) (s : State) : State :=
  boardChange (evaluation sd f s).2.postings
    (gcmEvaluated sd (evaluatedEngine sd f s).seq f.listed (resultsStored sd f s))

theorem evaluateFrame_eq (sd : Side) (f : Frame) (s : State) :
    evaluateFrame sd f s = startPublish 4 (sourceRecord sd :: f.lines.map (·.line)) s
      (coincTakeFrame sd (evaluatedEngine sd f s).vFrame f.listed
        (takePulls (evaluation sd f s).2.pulls (linesJudged sd f s))) := rfl

/-- After the lines are judged an evaluated completion touches no gear line, frame or configuration. -/
theorem evaluateFrame_stands (sd : Side) (f : Frame) (s : State) :
    GearStands (linesJudged sd f s) (evaluateFrame sd f s) := by
  rw [evaluateFrame_eq]
  exact ((gearStands_takePulls _ _).trans (gearStands_coincTakeFrame _ _ _ _)).startPublish _ _ _

@[simp] theorem resultsStored_frame (sd : Side) (f : Frame) (s : State) :
    (resultsStored sd f s).ocr = { s.ocr.setEngine sd (evaluatedEngine sd f s) with
      results := storeResults sd f.length (evaluatedEngine sd f s).seq f.lines s.ocr.results } ∧
      (resultsStored sd f s).gcm = s.gcm ∧ (resultsStored sd f s).icd = s.icd ∧ (resultsStored sd f s).cw = s.cw ∧
      (resultsStored sd f s).lb = s.lb ∧ (resultsStored sd f s).cc = s.cc ∧ (resultsStored sd f s).ms = s.ms ∧
      (resultsStored sd f s).ej = s.ej ∧ (resultsStored sd f s).jobs = s.jobs := by
  simp [resultsStored]

theorem gcmEvaluated_gcm (sd : Side) (seq : Nat) (ls : List ListedLine) (s : State) :
    (gcmEvaluated sd seq ls s).gcm =
      { s.gcm.setDiscards sd 0 with conds := (takeLines s.gcm.defs seq ls s.gcm.conds).1 } := by
  simp [gcmEvaluated]

@[simp] theorem linesJudged_frame (sd : Side) (f : Frame) (s : State) :
    (linesJudged sd f s).ocr = { s.ocr.setEngine sd (evaluatedEngine sd f s) with
      results := storeResults sd f.length (evaluatedEngine sd f s).seq f.lines s.ocr.results } ∧
      (linesJudged sd f s).gcm = { s.gcm.setDiscards sd 0 with conds := (evaluation sd f s).1 } ∧
      (linesJudged sd f s).icd = s.icd ∧ (linesJudged sd f s).cw = s.cw ∧ (linesJudged sd f s).cc = s.cc ∧
      (linesJudged sd f s).ms = s.ms ∧ (linesJudged sd f s).jobs = s.jobs := by
  simp [linesJudged, gcmEvaluated_gcm, evaluation]

@[simp] theorem Gcm.setDiscards_frame (g : Gcm) (sd : Side) (n : Nat) :
    (g.setDiscards sd n).defs = g.defs ∧ (g.setDiscards sd n).conds = g.conds ∧ (g.setDiscards sd n).discards sd = n ∧
      (g.setDiscards sd n).discards (otherSide sd) = g.discards (otherSide sd) := by
  cases sd <;> exact ⟨rfl, rfl, rfl, rfl⟩

@[simp] theorem storeResults_length (sd : Side) (n seq : Nat) (ls : List CapturedLine) (rs : List LineResult) :
    (storeResults sd n seq ls rs).length = rs.length := by
  unfold storeResults
  induction ls generalizing rs with
  | nil => rfl
  | cons l ls ih => rw [List.foldl_cons, ih, tmod_length]

/-! ### A discarded completion (R31, R53, R54) -/

theorem discardAs_ocr (sd : Side) (cause : DiscardCause) (f : Frame) (s : State) :
    (discardAs sd cause f s).ocr = s.ocr.setEngine sd ((s.ocr.engine sd).discard cause f) := by
  simp [discardAs]

theorem setWhere_mem {k : Nat} {f : Nat → Bool} {n : Nat} : n ∈ setWhere k f ↔ n < k ∧ f n = true := by
  simp [setWhere]

theorem setWhere_pairwise (k : Nat) (f : Nat → Bool) : (setWhere k f).Pairwise (· < ·) :=
  List.pairwise_lt_range.filter _

@[simp] theorem markStale_length (conds : List Cond) (ns : List Nat) : (markStale conds ns).length = conds.length := by
  unfold markStale
  induction ns generalizing conds with
  | nil => rfl
  | cons n ns ih => rw [List.foldl_cons, ih, tmod_length]

/-- Of a condition `markStale` changes STALE alone, and of a line that is not named nothing. -/
theorem tget_markStale (conds : List Cond) (ns : List Nat) (k : Nat) (h : k < conds.length) :
    tget (markStale conds ns) k = if k ∈ ns then { tget conds k with stale := true } else tget conds k := by
  unfold markStale
  induction ns generalizing conds with
  | nil => rfl
  | cons n ns ih =>
    rw [List.foldl_cons, ih _ (by simpa using h), tget_tmod _ _ _ _ h]
    by_cases hn : n = k
    · subst hn; simp
    · simp [hn, Ne.symm hn]

theorem markStale_level (conds : List Cond) (ns : List Nat) (k : Nat) :
    (tget (markStale conds ns) k).level = (tget conds k).level := by
  by_cases h : k < conds.length
  · rw [tget_markStale _ _ _ h]; split <;> rfl
  · simp [tget, h]

/-- What the Gear Condition Monitor makes of a discarded completion. -/
theorem gcmDiscarded_gcm (sd : Side) (s : State) :
    (gcmDiscarded sd s).gcm =
      if discardCounted sd s then
        { s.gcm.setDiscards sd (satAdd 65535 (s.gcm.discards sd) 1) with conds := markStale s.gcm.conds (staleNow sd s) }
      else s.gcm := by
  unfold gcmDiscarded; dsimp only; split
  · split <;> simp
  · rfl

/-- A discarded completion leaves definitions and levels. -/
theorem gcmDiscarded_levels (sd : Side) (s : State) :
    (gcmDiscarded sd s).gcm.defs = s.gcm.defs ∧ (gcmDiscarded sd s).gcm.conds.length = s.gcm.conds.length ∧
      ∀ n, (tget (gcmDiscarded sd s).gcm.conds n).level = (tget s.gcm.conds n).level := by
  rw [gcmDiscarded_gcm]; split
  · exact ⟨by simp, by simp, fun n => markStale_level _ _ _⟩
  · exact ⟨rfl, rfl, fun _ => rfl⟩

theorem discardAs_levels (sd : Side) (cause : DiscardCause) (f : Frame) (s : State) :
    (discardAs sd cause f s).gcm.defs = s.gcm.defs ∧ (discardAs sd cause f s).gcm.conds.length = s.gcm.conds.length ∧
      ∀ n, (tget (discardAs sd cause f s).gcm.conds n).level = (tget s.gcm.conds n).level := by
  simpa [discardAs] using gcmDiscarded_levels sd (s.setOcr (s.ocr.setEngine sd ((s.ocr.engine sd).discard cause f)))

/-! ### DISABLE GEAR (R29, R59) -/

/-- The state of DISABLE GEAR before its publishes: engines and lines at rest, slots withdrawn. -/
def gearStopped (s : State) : State :=
  boardChange (unratePostings s.gcm.conds)
    (((s.setOcr { s.ocr with hs := s.ocr.hs.disable, ls := s.ocr.ls.disable }).setGcm s.gcm.disable).journalAll
      (unrateEntries s.gcm.conds))

theorem stopGear_eq (s : State) :
    stopGear s = coincForgetLines (if (disableGearRecords s).isEmpty then gearStopped s
      else startPublish 4 (disableGearRecords s) s (gearStopped s)) := rfl

@[simp] theorem stopGear_lines (s : State) :
    (stopGear s).ocr = { s.ocr with hs := s.ocr.hs.disable, ls := s.ocr.ls.disable } ∧ (stopGear s).gcm = s.gcm.disable ∧
      (stopGear s).cw = ({ s.cw with mech := List.replicate 24 none } : Cw).show ∧ (stopGear s).lb = (gearStopped s).lb := by
  rw [stopGear_eq]
  split <;> simp [coincForgetLines, gearStopped]

/-- Of the withdrawals of DISABLE GEAR those of one line. -/
theorem unratePostings_of_line (conds : List Cond) {n : Nat} (h : n < 24) :
    (unratePostings conds).filter (fun c => c.slot = 4 + n) =
      if (tget conds n).level = .alert ∨ (tget conds n).level = .danger then [⟨4 + n, .withdraw⟩] else [] := by
  unfold unratePostings
  refine filter_flatMap_numbered SlotChange.slot (4 + ·) _ (fun x _ c hc => ?_) (List.nodup_range.imp ?_) (List.mem_range.2 h)
  · dsimp only at hc
    split at hc
    · rw [List.mem_singleton.1 hc]; rfl
    · cases hc
  · intro a b hab h'
    exact hab (by omega)

theorem unratePostings_slot {conds : List Cond} {c : SlotChange} (h : c ∈ unratePostings conds) :
    ∃ n, n < 24 ∧ ((tget conds n).level = .alert ∨ (tget conds n).level = .danger) ∧ c.slot = 4 + n := by
  obtain ⟨n, hn, hc⟩ := List.mem_flatMap.1 h
  dsimp only at hc
  split at hc
  next hlevel => exact ⟨n, List.mem_range.1 hn, hlevel, by rw [List.mem_singleton.1 hc]; rfl⟩
  next => cases hc

/-- DISABLE GEAR withdraws the slot of each line in ALERT or DANGER. -/
theorem stopGear_withdraws {s : State} {n : Nat} (hn : n < 24) (hk : 4 + n < s.lb.slots.length)
    (h : (tget s.gcm.conds n).level = .alert ∨ (tget s.gcm.conds n).level = .danger) :
    (tget (stopGear s).lb.slots (4 + n)).active = false := by
  rw [(stopGear_lines s).2.2.2]
  refine boardChange_withdraws (by simpa using hk) ?_
  rw [unratePostings_of_line _ hn, if_pos h]

/-- It leaves every other slot. -/
theorem stopGear_leaves {s : State} {k : Nat}
    (h : ∀ n, n < 24 → (tget s.gcm.conds n).level = .alert ∨ (tget s.gcm.conds n).level = .danger → k ≠ 4 + n) :
    tget (stopGear s).lb.slots k = tget s.lb.slots k := by
  rw [(stopGear_lines s).2.2.2]
  refine (boardChange_other _ _ _ fun c hc hk => ?_).trans (by simp)
  obtain ⟨n, hn, hlevel, hslot⟩ := unratePostings_slot hc
  exact h n hn hlevel (hk.symm.trans hslot)

@[simp] theorem stopGear_slots_length (s : State) : (stopGear s).lb.slots.length = s.lb.slots.length := by
  simp [gearStopped]

end Sys2Proof.Machine

/-! PROOFS. What a step can do to gear lines, their slots, the frames and the configurations, and the invariants that follow
(GearSlotsFollowTheLevels, ConfigurationsStayOrdered). -/

namespace Sys2Proof.Machine

/-! ### Written records (R189) -/

/-- A write reaches definitions and configurations alone, and leaves them ordered. -/
structure Rewrites (s t : State) : Prop where
  conds : t.gcm.conds = s.gcm.conds
  defs : t.gcm.defs.length = s.gcm.defs.length
  ocr : t.ocr = { s.ocr with config := t.ocr.config }
  mech : t.cw.mech = s.cw.mech
  slots : t.lb.slots = s.lb.slots
  ordered : OrderedOk s → OrderedOk t

theorem Rewrites.refl (s : State) : Rewrites s s := ⟨rfl, rfl, rfl, rfl, rfl, id⟩

theorem Rewrites.trans {s t u : State} (h : Rewrites s t) (h' : Rewrites t u) : Rewrites s u where
  conds := h'.conds.trans h.conds
  defs := h'.defs.trans h.defs
  ocr := by rw [h'.ocr, h.ocr]
  mech := h'.mech.trans h.mech
  slots := h'.slots.trans h.slots
  ordered hs := h'.ordered (h.ordered hs)

/-- A state with the same definitions and configurations is as ordered. -/
theorem orderedOk_congr {s t : State} (hdefs : t.gcm.defs = s.gcm.defs) (hocr : t.ocr.config = s.ocr.config)
    (hicd : t.icd.config = s.icd.config) : OrderedOk s → OrderedOk t := by
  unfold OrderedOk
  rw [hdefs, hocr, hicd]
  exact id

theorem rewrites_of_frame {s t : State} (hgcm : t.gcm = s.gcm) (hocr : t.ocr = s.ocr) (hicd : t.icd.config = s.icd.config)
    (hcw : t.cw.mech = s.cw.mech) (hlb : t.lb.slots = s.lb.slots) : Rewrites s t where
  conds := by rw [hgcm]
  defs := by rw [hgcm]
  ocr := by rw [hocr]
  mech := hcw
  slots := hlb
  ordered := orderedOk_congr (by rw [hgcm]) (by rw [hocr]) hicd

/-- R43: however the fields are written, the thresholds are ordered. -/
theorem LineDef.write_ordered (ms : List MaskedWord) (d : LineDef) :
    (d.write ms).alertOff ≤ (d.write ms).alertOn ∧ (d.write ms).alertOn ≤ (d.write ms).dangerOn ∧
      (d.write ms).dangerOff ≤ (d.write ms).dangerOn := by
  unfold LineDef.write LineDef.order
  exact ⟨Nat.min_le_right _ _, Nat.le_max_right _ _, Nat.min_le_right _ _⟩

theorem rewrites_writeLine (n : Nat) (ms : List MaskedWord) (s : State) : Rewrites s (writeLine n ms s) where
  conds := by simp [writeLine]
  defs := by simp [writeLine]
  ocr := by simp
  mech := by simp
  slots := by simp
  ordered := by
    rintro ⟨hdefs, hrest⟩
    refine ⟨fun d hd => ?_, by simpa using hrest⟩
    have hd' : d ∈ tmod s.gcm.defs n (LineDef.write ms) := by simpa [writeLine] using hd
    rcases List.mem_or_eq_of_mem_set hd' with hmem | rfl
    · exact hdefs d hmem
    · exact LineDef.write_ordered ms _

theorem rewrites_writeCorr (ms : List MaskedWord) (s : State) : Rewrites s (writeCorr ms s) where
  conds := by simp
  defs := by simp
  ocr := by simp [writeCorr]
  mech := by simp
  slots := by simp
  ordered := by
    rintro ⟨hdefs, -, -, hicd⟩
    exact ⟨by simpa using hdefs, Nat.min_le_right _ _, Nat.min_le_right _ _, by simpa using hicd⟩

/-- A write to the icing configuration reaches that and the baseline alone. -/
theorem writeIcing_icd (ms : List MaskedWord) (s : State) :
    (writeIcing ms s).icd = { s.icd with
      config := s.icd.config.write ms
      base := if (s.icd.config.write ms).line = s.icd.config.line then s.icd.base else 0 } := by
  unfold writeIcing; dsimp only; split <;> simp

theorem rewrites_writeIcing (ms : List MaskedWord) (s : State) : Rewrites s (writeIcing ms s) where
  conds := by simp
  defs := by simp
  ocr := by simp
  mech := by simp
  slots := by simp
  ordered := by
    rintro ⟨hdefs, hhs, hls, -⟩
    refine ⟨by simpa using hdefs, by simpa using hhs, by simpa using hls, ?_⟩
    rw [writeIcing_icd]
    exact ⟨Int.le_max_right _ _, Nat.min_le_right _ _⟩

theorem rewrites_writeOperating (ms : List MaskedWord) (s : State) : Rewrites s (writeOperating ms s) := by
  have hicd := (gearStands_operatingArrived ((s.setIcd { s.icd with op := s.icd.op.write ms }).raiseIf
    (s.icd.op.bad ms) .badValue)).icd
  exact rewrites_of_frame (by simp) (by simp) (hicd.trans (by simp)) (by simp) (by simp)

/-- Every written record of RECORD space. -/
theorem rewrites_writeRecord (p : PortId) (g r : Nat) (ms : List MaskedWord) (s : State) :
    Rewrites s (writeRecord p g r ms s) := by
  have hframe : ∀ t : State, t.gcm = s.gcm → t.ocr = s.ocr → t.icd = s.icd → t.cw = s.cw → t.lb = s.lb → Rewrites s t :=
    fun t hgcm hocr hicd hcw hlb => rewrites_of_frame hgcm hocr (by rw [hicd]) (by rw [hcw]) (by rw [hlb])
  unfold writeRecord; repeat' split
  case h_1 => exact hframe _ (by simp) (by simp) (by simp) (by simp) (by simp)
  case h_2.isTrue => exact rewrites_writeLine r ms s
  case h_2.isFalse.isTrue => exact rewrites_writeCorr ms s
  case h_3 => exact hframe _ (by simp) (by simp) (by simp) (by simp) (by simp)
  case h_4.isTrue => exact rewrites_of_frame rfl rfl rfl rfl rfl
  case h_5.isTrue => exact rewrites_writeOperating ms s
  case h_6.isTrue => exact rewrites_writeIcing ms s
  case h_6.isFalse.isTrue => exact rewrites_of_frame rfl rfl rfl rfl rfl
  case h_7.isTrue => exact rewrites_of_frame rfl rfl rfl rfl rfl
  all_goals exact hframe _ (by simp) (by simp) (by simp) (by simp) (by simp)

theorem rewrites_applyRecords (p : PortId) (g : Nat) (buf : List BufferWord) (rs : List Nat) (s : State) :
    Rewrites s (rs.foldl (applyRecord p g buf) s) := by
  induction rs generalizing s with
  | nil => exact .refl s
  | cons r rs ih =>
    refine Rewrites.trans ?_ (ih _)
    unfold applyRecord; dsimp only; split
    · exact rewrites_writeRecord _ _ _ _ _
    · exact .refl s

/-! ### What a definition write hands the board (R51) -/

/-- What a write to `e` of the definition `d` of line `n` hands the board for its level. -/
def linePosting (n : Nat) (d e : LineDef) : Level → List SlotChange
  | .alert => if d.alertCap = e.alertCap then [] else [levelPosting n e .alert]
  | .danger => if d.dangerCap = e.dangerCap then [] else [levelPosting n e .danger]
  | _ => []

theorem linePosting_slot {n : Nat} {d e : LineDef} {lv : Level} {c : SlotChange} (h : c ∈ linePosting n d e lv) :
    c.slot = 4 + n := by
  unfold linePosting at h
  split at h
  · split at h
    · cases h
    · rw [List.mem_singleton.1 h, levelPosting_slot]
  · split at h
    · cases h
    · rw [List.mem_singleton.1 h, levelPosting_slot]
  · cases h

theorem linePostings_eq (s t : State) :
    linePostings s t = (List.range 24).flatMap (fun n =>
      linePosting n (tget s.gcm.defs n) (tget t.gcm.defs n) (tget s.gcm.conds n).level) := by
  unfold linePostings
  refine congrArg (List.flatMap · (List.range 24)) (funext fun n => ?_)
  dsimp only
  cases (tget s.gcm.conds n).level <;> rfl

/-- Of what a write hands the board the part of one line. -/
theorem writePostings_of_line (s t : State) {n : Nat} (h : n < 24) :
    (writePostings s t).filter (fun c => c.slot = 4 + n) =
      linePosting n (tget s.gcm.defs n) (tget t.gcm.defs n) (tget s.gcm.conds n).level := by
  have hlines : (linePostings s t).filter (fun c => c.slot = 4 + n) =
      linePosting n (tget s.gcm.defs n) (tget t.gcm.defs n) (tget s.gcm.conds n).level := by
    rw [linePostings_eq]
    refine filter_flatMap_numbered SlotChange.slot (4 + ·) _ (fun x _ c hc => linePosting_slot hc)
      (List.nodup_range.imp ?_) (List.mem_range.2 h)
    intro a b hab h'
    exact hab (by omega)
  have hother : ∀ (b : Prop) [Decidable b] (k cap : Nat) (code : SlotCode), k < 4 →
      (if b then [(⟨k, .post cap code⟩ : SlotChange)] else []).filter (fun c => c.slot = 4 + n) = [] := by
    intro b _ k cap code hk
    rw [List.filter_eq_nil_iff]
    intro c hc
    split at hc
    · rw [List.mem_singleton.1 hc]; simp; omega
    · cases hc
  unfold writePostings
  rw [List.filter_append, List.filter_append, List.filter_append, hlines, hother _ _ _ _ (by decide), hother _ _ _ _ (by decide),
    hother _ _ _ _ (by decide)]
  simp

/-- After the postings of a write the slot of a line says its level with the new caps. -/
theorem boardChange_written {cs : List SlotChange} {t : State} {n : Nat} {d e : LineDef} {lv : Level}
    (h : 4 + n < t.lb.slots.length) (hc : cs.filter (fun c => c.slot = 4 + n) = linePosting n d e lv)
    (hs : SlotSays d lv (tget t.lb.slots (4 + n))) : SlotSays e lv (tget (boardChange cs t).lb.slots (4 + n)) := by
  unfold linePosting at hc
  split at hc
  · split at hc
    next heq => rw [boardChange_unnamed _ hc]; exact ⟨hs.1, hs.2.1.trans heq, hs.2.2⟩
    next => exact boardChange_levelPosting h hc
  · split at hc
    next heq => rw [boardChange_unnamed _ hc]; exact ⟨hs.1, hs.2.1.trans heq, hs.2.2⟩
    next => exact boardChange_levelPosting h hc
  next halert hdanger =>
    rw [boardChange_unnamed _ hc]
    cases lv with
    | alert => exact absurd rfl halert
    | danger => exact absurd rfl hdanger
    | unrated | normal => exact hs

/-! ### The moves of a step -/

/-- What an operation of a step can be to gear lines, frames and configurations: nothing, or one of the operations of the Order Correlator,
DISABLE GEAR, the completion of a write, or part reset. -/
inductive GearMove : State → State → Prop
  | stands {s t : State} : GearStands s t → GearMove s t
  | starts (sd : Side) (v : Nat) (s : State) : GearMove s (tryStart sd v s)
  | collects (sd : Side) (f : Frame) (s : State) : (s.ocr.engine sd).collecting = true →
      f.lines.map (·.line) = (s.ocr.engine sd).frame.lines.map (·.line) → GearMove s (setFrame sd f s)
  | discards (sd : Side) (cause : DiscardCause) (f : Frame) (s : State) : GearMove s (discardAs sd cause f s)
  | evaluates (sd : Side) (f : Frame) (s : State) :
      f.lines.map (·.line) = (s.ocr.engine sd).frame.lines.map (·.line) → GearMove s (evaluateFrame sd f s)
  | stops (s : State) : GearMove s (stopGear s)
  | writes (p : PortId) (g : Nat) (buf : List BufferWord) (s : State) : GearMove s (completeWrite p g buf s)
  | resets (a b c : Role) (s : State) : GearMove s (partReset a b c s)

/-- Such operations, one after the other. -/
abbrev GearMoves : State → State → Prop := Relation.ReflTransGen GearMove

theorem GearStands.moves {s t : State} (h : GearStands s t) : GearMoves s t := .single (.stands h)

/-- What every move keeps, a chain of moves keeps. -/
theorem GearMoves.keeps {I : State → Prop} (hI : ∀ {s t}, GearMove s t → I s → I t) {s t : State} (h : GearMoves s t)
    (hs : I s) : I t := by
  induction h with
  | refl => exact hs
  | tail _ hmove ih => exact hI hmove ih

theorem gearMoves_discardFrame (sd : Side) (cause : DiscardCause) (s : State) : GearMoves s (discardFrame sd cause s) := by
  unfold discardFrame; split
  · exact .single (.discards _ _ _ _)
  · exact .refl

theorem gearMoves_angleToFrames (sd : Side) (s : State) : GearMoves s (angleToFrames sd s) := by
  have hnew : GearStands s (s.setOcr { s.ocr with link := s.ocr.link.clearNew sd }) := ⟨rfl, rfl, rfl, rfl, rfl, fun _ _ => rfl⟩
  cases h : (s.ocr.engine sd).collecting with
  | false => rw [angleToFrames_waiting h]; exact hnew.moves
  | true =>
    by_cases hf : (s.ocr.engine sd).frame.samples = (s.ocr.engine sd).frame.length
    · rw [angleToFrames_full h hf]
      exact hnew.moves.trans (gearMoves_discardFrame _ _ _)
    · rw [angleToFrames_room h hf]
      refine hnew.moves.tail (.collects _ _ _ (by simpa using h) ?_)
      have hline : ∀ l : CapturedLine, (l.sample (s.ocr.engine sd).frame.s (s.ocr.link.latest.getD ⟨0, 0, 0, 0⟩)).line = l.line := by
        intro l
        unfold CapturedLine.sample; split <;> rfl
      simp [Frame.take, hline]

theorem gearMoves_revolutionToFrames (sd : Side) (p v : Nat) (s : State) : GearMoves s (revolutionToFrames sd p v s) := by
  unfold revolutionToFrames
  cases h : (s.ocr.engine sd).collecting with
  | false =>
    simp only [Engine.current, h, Bool.false_eq_true, if_false]
    exact .single (.starts _ _ _)
  | true =>
    simp only [Engine.current, h, if_true]
    have hended : ∀ cause, GearMoves s (tryStart sd v (discardAs sd cause ((s.ocr.engine sd).frame.revolve p) s)) :=
      fun cause => (Relation.ReflTransGen.single (.discards _ _ _ _)).tail (.starts _ _ _)
    split
    · exact hended _
    · split
      · split
        · exact hended _
        · exact (Relation.ReflTransGen.single (.evaluates _ _ _ rfl)).tail (.starts _ _ _)
      · exact .single (.collects _ _ _ h rfl)

theorem gearMoves_anglePoint (sd : Side) (index : Nat) (s : State) : GearMoves s (anglePoint sd index s) :=
  ((GearStands.refl s).setSau _).moves.trans (gearMoves_angleToFrames _ _)

theorem gearMoves_setDirection (rev : Bool) (s : State) : GearMoves s (setDirection rev s) := by
  unfold setDirection; split
  · exact .refl
  · exact ((GearStands.refl s).setSau _).moves.trans
      ((gearMoves_discardFrame _ _ _).trans (gearMoves_discardFrame _ _ _))

theorem gearMoves_decodeEdge (line : EncoderLine) (level : Bool) (s : State) : GearMoves s (decodeEdge line level s) := by
  unfold decodeEdge countEdge; dsimp only; split
  · have hturn : ∀ up, GearMoves s (setDirection (!up) (s.counted up)) := fun up =>
      ((GearStands.refl s).setSau _).moves.trans (gearMoves_setDirection _ _)
    split
    · exact (hturn _).trans (gearMoves_anglePoint _ _ _)
    · exact hturn _
  · exact .refl

theorem gearMoves_slipIndex (sd : Side) (s : State) : GearMoves s (slipIndex sd s) := by
  have hframe : ∀ {t}, t.gcm = s.gcm → t.ocr = s.ocr → t.icd = s.icd → t.cw = s.cw → t.lb = s.lb → GearMoves s t :=
    fun hgcm hocr hicd hcw hlb => (gearStands_of_frame hgcm hocr hicd hcw hlb).moves
  unfold slipIndex; split
  · exact (hframe (by simp) (by simp) (by simp) (by simp) (by simp)).trans (gearMoves_discardFrame _ _ _)
  · cases sd with
    | hs =>
      exact ((hframe (by simp) (by simp) (by simp) (by simp) (by simp)).trans (gearMoves_setDirection _ _)).trans
        (gearMoves_discardFrame _ _ _)
    | ls =>
      exact (hframe (by simp) (by simp) (by simp) (by simp) (by simp)).trans (gearMoves_discardFrame _ _ _)

theorem gearMoves_revolutionEvent (sd : Side) (p v : Nat) (s : State) : GearMoves s (revolutionEvent sd p v s) := by
  refine (gearMoves_revolutionToFrames sd p v s).trans (gearStands_of_frame ?_ ?_ ?_ ?_ ?_).moves
  all_goals unfold revolutionEvent; cases sd <;> simp

theorem gearMoves_forwardIndex (sd : Side) (s : State) : GearMoves s (forwardIndex sd s) := by
  by_cases h : IsSlip sd s
  · rw [forwardIndex_slip h]; exact gearMoves_slipIndex sd s
  · rw [forwardIndex_noSlip h]
    split
    · rw [closePeriod_eq]
      exact (gearStands_of_frame (by simp [periodClosed]) (by simp [periodClosed]) (by simp) (by simp [periodClosed])
        (by simp [periodClosed])).moves.trans (gearMoves_revolutionEvent _ _ _ _)
    · exact ((GearStands.refl s).setSau _).moves

theorem gearMoves_onEdge (l : SauLine) (level : Bool) {f : State → State} (hf : ∀ s, GearMoves s (f s)) (s : State) :
    GearMoves s (onEdge l level f s) := by
  unfold onEdge; dsimp only; split
  · exact ((GearStands.refl s).setSau _).moves.trans (hf _)
  · exact ((GearStands.refl s).setSau _).moves

theorem gearMoves_takeIndex (level : Bool) (s : State) : GearMoves s (takeIndex level s) := by
  unfold takeIndex; repeat' split
  · exact ((GearStands.refl s).setSau _).moves
  · exact gearMoves_forwardIndex _ s
  · exact .refl

theorem gearMoves_takeLsIndex (level : Bool) (s : State) : GearMoves s (takeLsIndex level s) := by
  unfold takeLsIndex; split
  · exact gearMoves_forwardIndex _ s
  · exact .refl

theorem gearMoves_takeTooth (level : Bool) (s : State) : GearMoves s (takeTooth level s) := by
  unfold takeTooth; dsimp only; split
  · exact ((GearStands.refl s).setSau _).moves.trans (gearMoves_anglePoint _ _ _)
  · exact .refl

theorem gearMoves_standstillExpire (sd : Side) (s : State) : GearMoves s (standstillExpire sd s) :=
  (gearStands_of_frame (by simp) (by simp) (by simp) (by simp) (by simp)).moves.trans (gearMoves_discardFrame _ _ _)

theorem gearStands_takeSet (ws : List LinkWord) (s : State) : GearStands s (takeSet ws s) where
  gcm := by simp
  ocr := by unfold takeSet; dsimp only; repeat' split
            all_goals simp
  icd := by simp
  mech := by simp
  slots := by simp
  gear := by simp

theorem gearMoves_linkExpire (s : State) : GearMoves s (linkExpire s) := by
  have hlost : GearStands s (s.setOcr { s.ocr with link := { s.ocr.link with timer := none, up := false } }) :=
    ⟨rfl, rfl, rfl, rfl, rfl, fun _ _ => rfl⟩
  unfold linkExpire; dsimp only; split
  · exact ((hlost.raise _).journal _).moves.trans ((gearMoves_discardFrame _ _ _).trans (gearMoves_discardFrame _ _ _))
  · exact hlost.moves

theorem gearMoves_takeControl {p : PortId} {canonical : Word} {ok : Word → Bool} {arg : Word} {body : State → Reply} {s : State}
    (h : GearMoves s (body s).state) : GearMoves s (takeControl p canonical ok arg body s) := by
  unfold takeControl; split
  · exact .refl
  · exact h.trans (gearStands_of_frame (by simp) (by simp) (by simp) (by simp) (by simp)).moves

theorem gearMoves_disableGear (s : State) : GearMoves s (disableGear s).state := by
  unfold disableGear; split
  · exact .refl
  · split
    · exact (Relation.ReflTransGen.single (.stops s)).trans ((GearStands.refl _).setJobs _).moves
    · exact .refl

theorem gearMoves_ownerAnswer (p : PortId) (arg : Word) (c : Command) (s : State) :
    GearMoves s (ownerAnswer p arg c s).state := by
  by_cases hc : c = .disable .gear
  · subst hc
    exact gearMoves_disableGear s
  · exact (gearStands_ownerAnswer p arg hc s).moves

theorem gearMoves_giveCommand (p : PortId) (arg : Word) (c : Command) (s : State) :
    GearMoves s (giveCommand c p arg (ownerAnswer p arg c) s) := by
  refine gearMoves_takeControl ?_
  unfold permitted; split
  · exact gearMoves_ownerAnswer p arg c s
  · exact .refl

theorem gearMoves_writeWhole (p : PortId) (g r : Nat) (ws : List MaskedWord) (s : State) :
    GearMoves s (writeWhole p g r ws s) := by
  unfold writeWhole; dsimp only; repeat' split
  · exact .refl
  · exact .single (.writes _ _ _ _)
  · exact ((GearStands.refl s).raise _).moves
  · exact .refl

theorem gearMoves_completeTransaction (p : PortId) (s : State) : GearMoves s (completeTransaction p s) := by
  have hclosed : GearMoves s (s.setPort p (s.pi.get p).close) := (gearStands_of_frame (by simp) (by simp) (by simp) (by simp) (by simp)).moves
  unfold completeTransaction; dsimp only; split
  · split
    · exact hclosed.tail (.writes _ _ _ _)
    · exact hclosed
  · exact hclosed

theorem gearStands_advance (dt : Nat) (s : State) : GearStands s (s.advance dt) := gearStands_of_frame rfl rfl rfl rfl rfl

/-- A step's moves, after the ticks that its command brings. -/
theorem gearMoves_exec {c : Instr} {s t : State} (h : exec c s = .next t) : GearMoves s t := by
  have hafter : ∀ {dt t'}, GearMoves (s.advance dt) t' → .next t' = exec c s → GearMoves s t := by
    intro dt t' hmoves he
    obtain rfl : t' = t := by rw [h] at he; injection he
    exact (gearStands_advance dt s).moves.trans hmoves
  have hexpiry : ∀ {t'}, GearMoves s t' → .next t' = exec c s → GearMoves s t := by
    intro t' hmoves he
    obtain rfl : t' = t := by rw [h] at he; injection he
    exact hmoves
  have htick : ∀ {b : Prop} [Decidable b] {order}, GearMoves s (if b then phaseTick order s else s) := by
    intro b _ order
    split
    · exact (gearStands_phaseTick order s).moves
    · exact .refl
  cases hc : controlOf c with
  | some k => exact hafter (gearMoves_giveCommand _ _ _ _) (exec_control hc s).symm
  | none =>
    cases c with
    | encoderEdge dt line level => exact hafter (gearMoves_onEdge _ _ (gearMoves_decodeEdge _ _) _) rfl
    | indexEdge dt level => exact hafter (gearMoves_onEdge _ _ (gearMoves_takeIndex _) _) rfl
    | toothEdge dt level => exact hafter (gearMoves_onEdge _ _ (gearMoves_takeTooth _) _) rfl
    | lsIndexEdge dt level => exact hafter (gearMoves_onEdge _ _ (gearMoves_takeLsIndex _) _) rfl
    | standstillTimerExpiry sd =>
      cases hd : (s.sau.side sd).standstill with
      | none => exact hexpiry .refl (by simp only [exec, execStandstillTimerExpiry, hd])
      | some d =>
        exact hafter (gearMoves_standstillExpire sd (s.advanceTo d)) (by simp only [exec, execStandstillTimerExpiry, hd])
    | linkTimerExpiry =>
      cases hd : s.ocr.link.timer with
      | none => exact hexpiry .refl (by simp only [exec, execLinkTimerExpiry, hd])
      | some d => exact hafter (gearMoves_linkExpire (s.advanceTo d)) (by simp only [exec, execLinkTimerExpiry, hd])
    | lossTimerExpiry =>
      cases hd : s.ghm.loss with
      | none => exact hexpiry .refl (by simp only [exec, execLossTimerExpiry, hd])
      | some d => exact hafter (gearStands_lossExpire (s.advanceTo d)).moves (by simp only [exec, execLossTimerExpiry, hd])
    | strobe =>
      cases hx : s.ghm.gen with
      | none => exact hexpiry .refl (by simp only [exec, execStrobe, hx])
      | some x =>
        cases hd : x.due with
        | none => exact hexpiry .refl (by simp only [exec, execStrobe, hx, hd])
        | some d =>
          exact hafter ((GearStands.refl (s.advanceTo d)).setGhm _).moves (by simp only [exec, execStrobe, hx, hd]; rfl)
    | clockSetDeadline =>
      cases ha : s.cc.armed with
      | none => exact hexpiry .refl (by simp only [exec, execClockSetDeadline, ha])
      | some a =>
        exact hafter (dt := a.deadline - s.now) (t' := abandonClock (s.advanceTo a.deadline))
          (gearStands_of_frame (by simp) (by simp) (by simp) (by simp) (by simp)).moves
          (by simp only [exec, execClockSetDeadline, ha])
    | sampleSet dt ws => exact hafter (gearStands_takeSet ws _).moves rfl
    | gzxEdge dt rising =>
      refine hafter (dt := dt) ?_ rfl
      split
      · exact (gearStands_takeZeroCross _).moves
      · exact .refl
    | gridFrame dt words =>
      refine hafter (dt := dt) ?_ rfl
      split
      · exact (gearStands_of_frame (by simp) (by simp) (by simp) (by simp) (by simp)).moves
      · exact .refl
    | ppsEdge dt rising order =>
      refine hafter (dt := dt) ?_ rfl
      split
      · split
        · exact (gearStands_of_frame (by simp) (by simp) (by simp) (by simp) (by simp)).moves
        · exact (gearStands_takePps order _).moves
      · exact .refl
    | secondTick order => exact hexpiry (gearStands_phaseTick order s).moves rfl
    | ackTimerExpiry order => exact hexpiry (htick (order := order)) rfl
    | thawTimerExpiry order => exact hexpiry (htick (order := order)) rfl
    | operatingRecordStale order => exact hexpiry (htick (order := order)) rfl
    | intervalClose order => exact hexpiry (htick (order := order)) rfl
    | publishComplete dt | transactionStart dt | transactionHeader dt | headerWord dt | fillerWord dt | readDataWord dt
    | writeDataWord dt | commandWord dt | portReset dt | portResetRelease dt =>
      exact hafter (dt := dt) (gearStands_of_frame (by simp) (by simp) (by simp) (by simp) (by simp)).moves rfl
    | recordWrite dt p => exact hafter (gearMoves_completeTransaction p _) rfl
    | operatingArrival | statusWrite | shaftConfigurationWrite | gridConfigurationWrite | watchConfigurationWrite
    | icingConfigurationWrite => exact hafter (gearMoves_writeWhole _ _ _ _ _) rfl
    | lineDefinitionWrite dt p n ws =>
      refine hafter (dt := dt) ?_ rfl
      split
      · exact gearMoves_writeWhole _ _ _ _ _
      · exact .refl
    | itemDefinitionWrite dt p n ws =>
      refine hafter (dt := dt) ?_ rfl
      split
      · exact gearMoves_writeWhole _ _ _ _ _
      · exact .refl
    | unknownCommand dt p command arg =>
      refine hafter (dt := dt) ?_ rfl
      unfold takeUnknown; split
      · exact gearMoves_takeControl .refl
      · exact .refl
    | invalidJobCode dt p enable job arg =>
      refine hafter (dt := dt) ?_ rfl
      unfold takeNoJob; split
      · exact gearMoves_takeControl .refl
      · exact .refl
    | partReset a b d => exact hexpiry (.single (.resets a b d s)) rfl
    | _ => exact absurd hc (nofun)

theorem gearMoves_step {s t : State} (h : step s = .next t) : GearMoves s t := by
  unfold step at h
  split at h
  · injection h with h
    exact h ▸ .refl
  next c rest _ =>
    have hqueue : GearStands s { s with pending := rest } := gearStands_of_frame rfl rfl rfl rfl rfl
    exact hqueue.moves.trans (gearMoves_exec h)

end Sys2Proof.Machine

/-! PROOFS. Frames and gear slots after every move of a step (GearSlotsFollowTheLevels, ConfigurationsStayOrdered). -/

namespace Sys2Proof.Machine

/-! ### Frames -/

/-- A frame engine whose frame names lines in line order, and that holds no in-frame item while it is WAITING (R26, R41). -/
def EngineOk (e : Engine) : Prop := (e.collecting = false → e.frame = .idle) ∧ LinesOrdered e.frame.lines

theorem framesOk_iff (s : State) :
    FramesOk s ↔ s.gcm.defs.length = 24 ∧ s.gcm.conds.length = 24 ∧ s.ocr.results.length = 24 ∧ s.cw.mech.length = 24 ∧
      ∀ sd : Side, EngineOk (s.ocr.engine sd) := Iff.rfl

theorem linesOrdered_nil : LinesOrdered [] := ⟨nofun, .nil⟩

/-- The order of the lines of a frame reads their numbers alone. -/
theorem LinesOrdered.of_numbers {ls ms : List CapturedLine} (h : LinesOrdered ls)
    (hn : ms.map (·.line) = ls.map (·.line)) : LinesOrdered ms := by
  refine ⟨fun l hl => ?_, List.pairwise_map.1 (hn ▸ List.pairwise_map.2 h.2)⟩
  have : l.line ∈ ls.map (·.line) := hn ▸ List.mem_map_of_mem (f := CapturedLine.line) hl
  obtain ⟨k, hk, hline⟩ := List.mem_map.1 this
  exact hline ▸ h.1 k hk

theorem captureLines_numbers (defs : List LineDef) (sd : Side) (fs : Nat) :
    (captureLines defs sd fs).map (·.line) = setWhere 24 (lineOf defs sd) := by
  simp [captureLines, Function.comp_def]

theorem captureLines_ordered (defs : List LineDef) (sd : Side) (fs : Nat) : LinesOrdered (captureLines defs sd fs) := by
  have hnum := captureLines_numbers defs sd fs
  refine ⟨fun l hl => ?_, List.pairwise_map.1 (hnum ▸ setWhere_pairwise _ _)⟩
  have : l.line ∈ setWhere 24 (lineOf defs sd) := hnum ▸ List.mem_map_of_mem (f := CapturedLine.line) hl
  exact (setWhere_mem.1 this).1

/-- A WAITING engine without in-frame items. -/
theorem engineOk_waiting {e : Engine} (hf : e.frame = .idle) : EngineOk e :=
  ⟨fun _ => hf, hf ▸ linesOrdered_nil⟩

@[simp] theorem Engine.discard_waits (cause : DiscardCause) (f : Frame) (e : Engine) :
    (e.discard cause f).collecting = false ∧ (e.discard cause f).frame = .idle := by
  unfold Engine.discard; dsimp only; split <;> exact ⟨rfl, rfl⟩

@[simp] theorem Engine.evaluated_waits (sd : Side) (f : Frame) (e : Engine) :
    (e.evaluated sd f).collecting = false ∧ (e.evaluated sd f).frame = .idle := ⟨rfl, rfl⟩

theorem EngineOk.disable {e : Engine} (h : EngineOk e) : EngineOk e.disable := by
  unfold Engine.disable; split
  · exact engineOk_waiting rfl
  · exact h

theorem FramesOk.engine {s : State} (h : FramesOk s) (sd : Side) : EngineOk (s.ocr.engine sd) := h.2.2.2.2 sd

/-- Where the four tables keep their lengths, the engines decide. -/
theorem FramesOk.congr {s t : State} (h : FramesOk s) (hdefs : t.gcm.defs.length = s.gcm.defs.length)
    (hconds : t.gcm.conds.length = s.gcm.conds.length) (hresults : t.ocr.results.length = s.ocr.results.length)
    (hmech : t.cw.mech.length = s.cw.mech.length) (he : ∀ sd, EngineOk (t.ocr.engine sd)) : FramesOk t := by
  obtain ⟨h1, h2, h3, h4, -⟩ := (framesOk_iff s).1 h
  exact ⟨hdefs.trans h1, hconds.trans h2, hresults.trans h3, hmech.trans h4, he⟩

theorem Ocr.engine_setEngine (x : Ocr) (sd sd' : Side) (e : Engine) :
    (x.setEngine sd e).engine sd' = if sd' = sd then e else x.engine sd' := by
  cases sd <;> cases sd' <;> rfl

/-- One engine replaced by one that stands as R26 and R41 say. -/
theorem FramesOk.setEngine {s : State} (h : FramesOk s) (sd : Side) {e : Engine} (he : EngineOk e) (sd' : Side) :
    EngineOk ((s.ocr.setEngine sd e).engine sd') := by
  rw [Ocr.engine_setEngine]
  split
  · exact he
  · exact h.engine sd'

/-- Every move keeps the frames (R26, R41). -/
theorem GearMove.framesOk {s t : State} (hmove : GearMove s t) (h : FramesOk s) : FramesOk t := by
  cases hmove with
  | stands hs =>
    exact h.congr (by rw [hs.gcm]) (by rw [hs.gcm]) (by rw [hs.ocr]) hs.mech (fun sd => by rw [hs.ocr]; exact h.engine sd)
  | starts sd v =>
    unfold tryStart; dsimp only; split
    · exact h.congr rfl rfl (by simp) rfl (h.setEngine sd ⟨nofun, captureLines_ordered _ _ _⟩)
    · exact h
  | collects sd f _ hc hn =>
    exact h.congr rfl rfl (by simp [setFrame]) rfl
      (h.setEngine sd ⟨fun hw => absurd hc (by simpa using hw), (h.engine sd).2.of_numbers hn⟩)
  | discards sd cause f =>
    obtain ⟨hdefs, hconds, -⟩ := discardAs_levels sd cause f s
    refine h.congr (by rw [hdefs]) hconds (by simp [discardAs_ocr]) (by simp) ?_
    rw [discardAs_ocr]
    exact h.setEngine sd (engineOk_waiting (Engine.discard_waits _ _ _).2)
  | evaluates sd f _ hn =>
    have hs := evaluateFrame_stands sd f s
    refine h.congr (by rw [hs.gcm]; simp) (by rw [hs.gcm]; simp [evaluation, takeLines_length]) (by rw [hs.ocr]; simp)
      (by rw [hs.mech]; simp) (fun sd' => ?_)
    have he := h.setEngine sd (engineOk_waiting (Engine.evaluated_waits sd f (s.ocr.engine sd)).2) sd'
    rw [hs.ocr, (linesJudged_frame sd f s).1]
    cases sd' <;> exact he
  | stops =>
    have hmech := h.2.2.2.1
    refine h.congr (by simp [Gcm.disable]) (by simp [Gcm.disable]) (by simp) ?_ (fun sd => ?_)
    · rw [(stopGear_lines s).2.2.1, hmech]; rfl
    rw [(stopGear_lines s).1]
    cases sd
    · exact (h.engine .hs).disable
    · exact (h.engine .ls).disable
  | writes p g buf =>
    have hr := rewrites_applyRecords p g buf ((List.range (recordCount g)).filter (fun r => buf.any (·.record = r))) s
    unfold completeWrite
    refine h.congr (by simpa using hr.defs) (by simp [hr.conds]) ?_ (by simp [hr.mech]) (fun sd => ?_)
    · simp only [boardChange_frame]; rw [hr.ocr]
    · simp only [boardChange_frame]; rw [hr.ocr]
      cases sd
      · exact h.engine .hs
      · exact h.engine .ls
  | resets a b c => exact reset_framesOk

/-! ### Ordered configurations -/

/-- Every move keeps the orders (R24, R43, R101). -/
theorem GearMove.orderedOk {s t : State} (hmove : GearMove s t) (h : OrderedOk s) : OrderedOk t := by
  cases hmove with
  | stands hs => exact orderedOk_congr (by rw [hs.gcm]) (by rw [hs.ocr]) hs.icd h
  | starts sd v => exact orderedOk_congr (by simp) (by unfold tryStart; dsimp only; split <;> simp) (by simp) h
  | collects sd f => exact orderedOk_congr (by simp) (by simp [setFrame]) (by simp) h
  | discards sd cause f => exact orderedOk_congr (discardAs_levels sd cause f s).1 (by simp [discardAs_ocr]) (by simp) h
  | evaluates sd f =>
    have hs := evaluateFrame_stands sd f s
    exact orderedOk_congr (by rw [hs.gcm]; simp) (by rw [hs.ocr]; simp) (by rw [hs.icd]; simp) h
  | stops => exact orderedOk_congr (by simp [Gcm.disable]) (by simp) (by simp) h
  | writes p g buf =>
    have hr := rewrites_applyRecords p g buf ((List.range (recordCount g)).filter (fun r => buf.any (·.record = r))) s
    exact orderedOk_congr (by simp [completeWrite]) (by simp [completeWrite]) (by simp [completeWrite]) (hr.ordered h)
  | resets a b c => exact reset_orderedOk

/-- Settles O54: both hold after every move of a step. -/
theorem configurationsStayOrdered : Obligations.ConfigurationsStayOrdered :=
  ⟨fun _ _ h hstep => (gearMoves_step hstep).keeps GearMove.orderedOk h,
    fun _ _ h hstep => (gearMoves_step hstep).keeps GearMove.framesOk h⟩

/-! ### The slots of the gear lines -/

/-- Slots and levels stand: what an invariant on them reads. -/
theorem GearSlotsOk.congr {s t : State} (h : GearSlotsOk s) (hslots : t.lb.slots.length = s.lb.slots.length)
    (hdefs : t.gcm.defs.length = s.gcm.defs.length) (hconds : t.gcm.conds.length = s.gcm.conds.length)
    (hline : ∀ n, n < 24 → SlotSays (tget s.gcm.defs n) (tget s.gcm.conds n).level (tget s.lb.slots (4 + n)) →
      SlotSays (tget t.gcm.defs n) (tget t.gcm.conds n).level (tget t.lb.slots (4 + n))) : GearSlotsOk t := by
  obtain ⟨h1, h2, h3, h4⟩ := (gearSlotsOk_iff s).1 h
  exact ⟨hslots.trans h1, hdefs.trans h2, hconds.trans h3, fun n hn => hline n hn (h4 n hn)⟩

/-- Definitions, levels and slots as they were. -/
theorem GearSlotsOk.of_same {s t : State} (h : GearSlotsOk s) (hgcm : t.gcm = s.gcm) (hlb : t.lb = s.lb) : GearSlotsOk t :=
  h.congr (by rw [hlb]) (by rw [hgcm]) (by rw [hgcm]) (fun n _ hs => by rw [hgcm, hlb]; exact hs)

/-- An evaluated completion leaves each slot as its line's new level says (R51). -/
theorem evaluateFrame_gearSlotsOk {sd : Side} {f : Frame} {s : State} (h : GearSlotsOk s) (hf : LinesOrdered f.lines) :
    GearSlotsOk (evaluateFrame sd f s) := by
  have hstands := evaluateFrame_stands sd f s
  refine h.congr (hstands.slots.trans (by simp [linesJudged, gcmEvaluated])) (by rw [hstands.gcm]; simp)
    (by rw [hstands.gcm]; simp [evaluation, takeLines_length]) (fun n hn hs => ?_)
  rw [hstands.gcm, hstands.gear _ (by omega)]
  simp only [linesJudged_frame, Gcm.setDiscards_frame]
  have hlb : (gcmEvaluated sd (evaluatedEngine sd f s).seq f.listed (resultsStored sd f s)).lb = s.lb := by
    simp [gcmEvaluated]
  unfold linesJudged
  by_cases hin : ∃ l ∈ f.listed, l.line = n
  · obtain ⟨l, hl, rfl⟩ := hin
    unfold evaluation
    rw [takeLines_listed hf.distinct hl (by rw [h.2.2.1]; exact hn)]
    exact boardChange_handed hf.distinct hl (by rw [hlb, h.1]; omega) (by rw [hlb]; exact hs)
  · have hne : ∀ l ∈ f.listed, l.line ≠ n := fun l hl he => hin ⟨l, hl, he⟩
    unfold evaluation
    rw [takeLines_other (fun l hl _ => hne l hl), boardChange_unnamed, hlb]
    · exact hs
    · rw [takeLines_handed _ hf.distinct, List.filter_eq_nil_iff]
      intro c hc
      obtain ⟨l, hl, hcl⟩ := List.mem_flatMap.1 hc
      have := l.postings_slot hcl
      have := hne l hl
      simp; omega

/-- DISABLE GEAR leaves each slot inactive (R59). -/
theorem stopGear_gearSlotsOk {s : State} (h : GearSlotsOk s) : GearSlotsOk (stopGear s) := by
  refine h.congr (stopGear_slots_length s) (by simp [Gcm.disable]) (by simp [Gcm.disable]) (fun n hn hs => ?_)
  have hunrated : (tget (stopGear s).gcm.conds n).level = .unrated := by
    simp [Gcm.disable, tget, List.getD_eq_getElem?_getD, h.2.2.1, hn, Cond.unrate, Cond.initial]
  rw [hunrated]
  change (tget (stopGear s).lb.slots (4 + n)).active = false
  by_cases hl : (tget s.gcm.conds n).level = .alert ∨ (tget s.gcm.conds n).level = .danger
  · exact stopGear_withdraws hn (by rw [h.1]; omega) hl
  · rw [stopGear_leaves (fun m _ hm he => hl (by rwa [show n = m by omega]))]
    cases hlevel : (tget s.gcm.conds n).level with
    | alert | danger => simp [hlevel] at hl
    | unrated | normal => rw [hlevel] at hs; exact hs

/-- Every move keeps the slots of the gear lines (R51, R59). -/
theorem GearMove.gearSlotsOk {s t : State} (hmove : GearMove s t) (h : GearSlotsOk s) (hf : FramesOk s) :
    GearSlotsOk t := by
  cases hmove with
  | stands hs =>
    exact h.congr hs.slots (by rw [hs.gcm]) (by rw [hs.gcm]) (fun n _ hn => by rw [hs.gcm, hs.gear _ (by omega)]; exact hn)
  | starts sd v => exact h.of_same (by simp) (by simp)
  | collects sd f => exact h.of_same (by simp) (by simp)
  | discards sd cause f =>
    obtain ⟨hdefs, hconds, hlevel⟩ := discardAs_levels sd cause f s
    exact h.congr (by simp) (by rw [hdefs]) hconds (fun n _ hn => by rw [hdefs, hlevel]; simpa using hn)
  | evaluates sd f _ hn => exact evaluateFrame_gearSlotsOk h ((hf.engine sd).2.of_numbers hn)
  | stops => exact stopGear_gearSlotsOk h
  | writes p g buf =>
    have hr := rewrites_applyRecords p g buf ((List.range (recordCount g)).filter (fun r => buf.any (·.record = r))) s
    unfold completeWrite
    refine h.congr (by simp [hr.slots]) (by simpa using hr.defs) (by simp [hr.conds]) (fun n hn hs => ?_)
    simp only [boardChange_frame, hr.conds]
    exact boardChange_written (by rw [hr.slots, h.1]; omega) (writePostings_of_line s _ hn) (by rw [hr.slots]; exact hs)
  | resets a b c => exact reset_gearSlotsOk

/-- Settles O49: every move of a step keeps slots and frames together, the lines of a frame being named once. -/
theorem gearSlotsFollowTheLevels : Obligations.GearSlotsFollowTheLevels := by
  intro s t h hf hstep
  have hkeeps := (gearMoves_step hstep).keeps (I := fun x => GearSlotsOk x ∧ FramesOk x)
    (fun hmove hx => ⟨hmove.gearSlotsOk hx.1 hx.2, hmove.framesOk hx.2⟩) ⟨h, hf⟩
  exact hkeeps.1

end Sys2Proof.Machine

/-! PROOFS. The oldest publish of a group completes (PublishCompletes). -/

namespace Sys2Proof.Machine

theorem dropOldest_none {g : Nat} {fs : List Flight} (h : ∀ f ∈ fs, f.group ≠ g) : dropOldest g fs = fs := by
  induction fs with
  | nil => rfl
  | cons f fs ih =>
    rw [dropOldest, if_neg (h f List.mem_cons_self), ih (fun x hx => h x (List.mem_cons_of_mem _ hx))]

/-- The oldest flight of the group goes, and every other stays where it was. -/
theorem dropOldest_first {g : Nat} {before after : List Flight} {f : Flight} (h : ∀ x ∈ before, x.group ≠ g)
    (hf : f.group = g) : dropOldest g (before ++ f :: after) = before ++ after := by
  induction before with
  | nil => simp [dropOldest, hf]
  | cons x xs ih =>
    rw [List.cons_append, dropOldest, if_neg (h x List.mem_cons_self), ih (fun y hy => h y (List.mem_cons_of_mem _ hy)),
      List.cons_append]

theorem Flight.keeps_none {f : Flight} {g r : Nat} (h : f.group = g → ∀ k ∈ f.kept, k.1 ≠ r) : f.keeps g r = none := by
  unfold Flight.keeps; split
  next hg =>
    rw [List.find?_eq_none.2 (by simpa using h hg)]
    rfl
  next => rfl

/-- Of a record kept twice the first copy is seen. -/
theorem Flight.keeps_first {f : Flight} {g r : Nat} {first rest : List (Nat × List Word)} {ws : List Word}
    (hg : f.group = g) (hk : f.kept = first ++ (r, ws) :: rest) (h : ∀ k ∈ first, k.1 ≠ r) : f.keeps g r = some ws := by
  have hnone : first.find? (fun k => decide (k.1 = r)) = none := List.find?_eq_none.2 (by simpa using h)
  rw [Flight.keeps, if_pos hg, hk, List.find?_append, hnone]
  simp

theorem visible_of_none {g r : Nat} {s : State} (h : ∀ f ∈ s.pub.flights, f.keeps g r = none) :
    visible g r s = image g r s := by
  rw [visible, List.findSome?_eq_none_iff.2 h]
  rfl

/-- The first flight that keeps a record decides what is seen of it. -/
theorem visible_of_first {g r : Nat} {s : State} {earlier later : List Flight} {x : Flight} {ws : List Word}
    (hs : s.pub.flights = earlier ++ x :: later) (h : ∀ y ∈ earlier, y.keeps g r = none) (hx : x.keeps g r = some ws) :
    visible g r s = ws := by
  rw [visible, hs, List.findSome?_append, List.findSome?_eq_none_iff.2 h]
  simp [hx]

/-- Settles O35: the flight is gone, and what is seen of a record is read from the flights that are left. -/
theorem publishCompletes : Obligations.PublishCompletes := by
  unfold Obligations.PublishCompletes
  intro dt g s u
  refine ⟨fun h => ?_, fun before f after hfs hbefore hf => ?_⟩
  · change Host.Outcome.next (completeOldest g u) = _
    rw [completeOldest, dropOldest_none h]
    rfl
  · have hpub : (completeOldest g u).pub = { u.pub with flights := before ++ after } := by
      rw [completeOldest, hfs, dropOldest_first hbefore hf]
      rfl
    refine ⟨completeOldest g u, rfl, by simp [onlyTouches_iff], hpub, fun r hr => ?_, ?_⟩
    · refine visible_of_none fun x hx => Flight.keeps_none fun hg => ?_
      rw [hpub] at hx
      rcases List.mem_append.1 hx with hmem | hmem
      · exact absurd hg (hbefore x hmem)
      · exact hr x hmem hg
    · rintro earlier x later first ws rest r rfl hg hearlier hk hfirst
      refine visible_of_first (earlier := before ++ earlier) (later := later) (by rw [hpub]; simp) (fun y hy => ?_)
        (Flight.keeps_first hg hk hfirst)
      refine Flight.keeps_none fun hy' => ?_
      rcases List.mem_append.1 hy with hmem | hmem
      · exact absurd hy' (hbefore y hmem)
      · exact hearlier y hmem hy'

end Sys2Proof.Machine

/-! PROOFS. The mechanical sample link (LinkTakesGoodSetsAndIsLostWithoutThem). -/

namespace Sys2Proof.Machine

/-! ### Good sets (R19) -/

/-- Ones counted up from a start value. -/
theorem foldl_count {α : Type} (p : α → Bool) (xs : List α) (k : Nat) :
    xs.foldl (fun a x => if p x = true then a + 1 else a) k = xs.countP p + k := by
  induction xs generalizing k with
  | nil => simp
  | cons x xs ih =>
    rw [List.foldl_cons, ih, List.countP_cons]
    split <;> omega

theorem LinkWord.good_iff (w : LinkWord) : w.good = true ↔ OddParity w := by
  unfold LinkWord.good OddParity
  rw [foldl_count (fun n => w.sample.getLsbD n)]
  simp

theorem burstGood_iff (k : Nat) (ws : List LinkWord) : burstGood k ws = true ↔ ws.length = k ∧ ∀ w ∈ ws, OddParity w := by
  simp [burstGood, LinkWord.good_iff]

theorem takeSet_good {ws : List LinkWord} {s : State} (h : burstGood 4 ws = true) :
    takeSet ws s = if s.ocr.link.up then s.setOcr { s.ocr with link := s.ocr.link.accept s.now ws }
      else (s.setOcr { s.ocr with link := s.ocr.link.accept s.now ws }).journal (linkEntry false true s.ocr.link.dropped) :=
  if_pos h

theorem takeSet_bad {ws : List LinkWord} {s : State} (h : ¬burstGood 4 ws = true) :
    takeSet ws s =
      (s.setOcr { s.ocr with link := { s.ocr.link with dropped := satAdd 65535 s.ocr.link.dropped 1 } }).raise .setDropped :=
  if_neg h

/-! ### The loss of the link (R21) -/

/-- The link as the expiry of its timer leaves it. -/
def Link.expired (x : Link) : Link := { x with timer := none, up := false }

/-- The state once the loss is reported, before the frames are ended. -/
def linkReported (s : State) : State :=
  ((s.setOcr { s.ocr with link := s.ocr.link.expired }).raise .linkLost).journal (linkEntry true false s.ocr.link.dropped)

theorem linkExpire_lost {s : State} (h : s.ocr.link.up = false) :
    linkExpire s = s.setOcr { s.ocr with link := s.ocr.link.expired } := if_neg (by simp [h])

theorem linkExpire_up {s : State} (h : s.ocr.link.up = true) :
    linkExpire s = discardFrame .ls .linkLost (discardFrame .hs .linkLost (linkReported s)) := if_pos h

@[simp] theorem linkReported_ocr (s : State) : (linkReported s).ocr = { s.ocr with link := s.ocr.link.expired } := by
  simp [linkReported]

theorem logs_linkReported (s : State) : Logs [linkEntry true false s.ocr.link.dropped] s (linkReported s) :=
  (logs_journal _ (State.raise (s.setOcr _) _)).congr_left rfl rfl

theorem journalValue_natCast (n : Nat) : journalValue n = min 2147483647 (n : Int) := by
  unfold journalValue clampInt; omega

/-- Both frames end with the link's cause, whichever of them is COLLECTING. -/
theorem linkExpire_over {s : State} (h : s.ocr.link.up = true) (sd : Side) :
    FrameOver .linkLost (s.ocr.engine sd) ((linkExpire s).ocr.engine sd) := by
  rw [linkExpire_up h]
  cases sd with
  | hs =>
    have hover := discardFrame_over .hs .linkLost (linkReported s)
    refine (congrArg _ (discardFrame_keeps .ls .linkLost _).2.2).mpr ?_
    change FrameOver _ _ ((discardFrame .hs .linkLost (linkReported s)).ocr.engine .hs)
    simpa using hover
  | ls =>
    have hover := discardFrame_over .ls .linkLost (discardFrame .hs .linkLost (linkReported s))
    have hkeeps := (discardFrame_keeps .hs .linkLost (linkReported s)).2.2
    rw [show otherSide .hs = .ls from rfl] at hkeeps
    rw [hkeeps] at hover
    simpa using hover

theorem logs_linkExpire {s : State} (h : s.ocr.link.up = true) :
    ∃ rest, rest.length ≤ 2 ∧ Logs (linkEntry true false s.ocr.link.dropped :: rest) s (linkExpire s) := by
  rw [linkExpire_up h]
  obtain ⟨bs, hbs, hlogs⟩ := logs_discardFrame .hs .linkLost (linkReported s)
  obtain ⟨cs, hcs, hlogs'⟩ := logs_discardFrame .ls .linkLost (discardFrame .hs .linkLost (linkReported s))
  exact ⟨bs ++ cs, by simp; omega, (logs_linkReported s).trans (hlogs.trans hlogs')⟩

/-- Settles O12: a burst is judged by its length and parity, and the expiry by the state of the link. -/
theorem linkTakesGoodSetsAndIsLostWithoutThem : Obligations.LinkTakesGoodSetsAndIsLostWithoutThem := by
  unfold Obligations.LinkTakesGoodSetsAndIsLostWithoutThem
  refine ⟨fun dt words s => ?_, fun s d hd => ?_⟩
  · intro u x
    refine ⟨?_, fun hbad => ?_⟩
    · rintro a b c d rfl hodd
      have htake := takeSet_good (s := u) ((burstGood_iff 4 _).2 ⟨rfl, hodd⟩)
      refine ⟨fun hup => ?_, fun hup => ?_⟩
      · rw [if_pos hup] at htake
        exact congrArg _ htake
      · rw [if_neg (by simp [x] at hup; simp [hup])] at htake
        exact congrArg _ htake
    · refine (congrArg _ (takeSet_bad (s := u) (fun h => hbad ((burstGood_iff 4 _).1 h)))).trans ?_
      rfl
  · intro u x
    have hexec : exec .linkTimerExpiry s = .next (linkExpire u) := by simp only [exec, execLinkTimerExpiry, hd, u]
    refine ⟨fun hlost => by rw [hexec, linkExpire_lost hlost]; rfl, fun hup => ?_⟩
    obtain ⟨rest, hrest, hlogs⟩ := logs_linkExpire hup
    obtain ⟨hhs, hhs'⟩ := linkExpire_over hup .hs
    obtain ⟨hls, hls'⟩ := linkExpire_over hup .ls
    refine ⟨linkExpire u, hexec, by simp [onlyTouches_iff], ?_, hhs, hls, ?_, ?_, hhs', hls', _,
      Logs.mem (first := []) hlogs (by omega), rfl, rfl, rfl, rfl, rfl, rfl, ?_⟩
    · rw [linkExpire_up hup]; simp; rfl
    · rw [linkExpire_up hup]; simp
    · intro p
      rw [linkExpire_up hup]
      exact discardFrame_keepsFlag _ _ _ _ _ (discardFrame_keepsFlag _ _ _ _ _ (by simp [linkReported]))
    · exact journalValue_natCast _

end Sys2Proof.Machine

/-! PROOFS. ENABLE GEAR and DISABLE GEAR (GearJobCommands). -/

namespace Sys2Proof.Machine

theorem enableGear_accepts {s : State} (h : s.jobs.gear = false) (hs : s.jobs.shaft = true)
    (hd : ∃ d ∈ s.gcm.defs, d.enabled = true) : enableGear s = accept (s.setJobs { s.jobs with gear := true }) := by
  unfold enableGear
  rw [if_neg (by simp [h]), if_neg (by simp [hs]), if_pos (by simpa using hd)]

theorem disableGear_accepts {s : State} (hc : s.jobs.coinc = false) (h : s.jobs.gear = true) :
    disableGear s = accept ((stopGear s).setJobs { s.jobs with gear := false }) :=
  (if_neg (by simp [hc])).trans (if_pos h)

/-- What the entry records show is what their slots' aggregates say (R93; log entry 43). -/
theorem Cw.show_eq (c : Cw) : c.show = { c with entryHigh := shownHigh c } := rfl

theorem tget_past {α : Type} [Inhabited α] {xs : List α} {n : Nat} (h : xs.length ≤ n) : tget xs n = default := by
  simp [tget, h]

/-- The result record depends on the port's interface alone (R194). -/
theorem State.answered_pi_congr {s t : State} {p : PortId} {raw arg : Word} {a : Answer} {r : Reason} (h : t.pi = s.pi) :
    (t.answered p raw arg a r).pi = (s.answered p raw arg a r).pi := by
  change t.pi.set p _ = s.pi.set p _
  rw [h]

/-- Settles O15: DISABLE GEAR is `stopGear`, whose lines and slots are said there. -/
theorem gearJobCommands : Obligations.GearJobCommands := by
  unfold Obligations.GearJobCommands
  intro dt p arg raw s u ended posted
  refine ⟨fun hr hd h hs hdefs => ?_, fun hr hd hc h => ?_⟩
  · refine (exec_delivered (k := ⟨dt, p, .enable .gear, arg⟩) rfl hd hr).trans ?_
    dsimp only [ownerAnswer]
    rw [enableGear_accepts h hs hdefs]
    rfl
  · have hexec := exec_delivered (i := .disableGear dt p arg) (k := ⟨dt, p, .disable .gear, arg⟩) rfl hd hr
    dsimp only [ownerAnswer] at hexec
    rw [disableGear_accepts hc h] at hexec
    obtain ⟨hocr, hgcm, hcw, -⟩ := stopGear_lines u
    refine ⟨_, hexec, ?_, rfl, ?_, ?_, ?_, fun n hn hp => ?_, fun k hk => ?_, ?_⟩
    · simp [onlyTouches_iff]
    · simp only [writeResult_frame, accept_state]
      exact hocr
    · simp only [writeResult_frame, accept_state]
      exact hgcm
    · simp only [writeResult_frame, accept_state]
      exact hcw
    · simp only [writeResult_frame, accept_state]
      change (tget (stopGear u).lb.slots (4 + n)).active = false
      by_cases hk : 4 + n < u.lb.slots.length
      · exact stopGear_withdraws hn hk hp
      · rw [tget_past (by rw [stopGear_slots_length]; omega)]
        rfl
    · simp only [writeResult_frame, accept_state]
      exact stopGear_leaves hk
    · exact State.answered_pi_congr (stopGear_frame u).2.2.2.2.2.2.2.1

end Sys2Proof.Machine

/-! PROOFS. Whole writes to the grid, watch and icing configurations, and transactions that close with every word of a configuration written
(ConfigurationWritesClamp). -/

namespace Sys2Proof.Machine

/-! ### The completion of a write of one record (R189) -/

theorem completeWrite_one {p : PortId} {g r : Nat} {buf : List BufferWord} {ws : List Word} {s : State}
    (hr : r < recordCount g) (hne : ws ≠ []) (hnames : ∀ k, buf.any (·.record = k) = decide (k = r))
    (hbuf : bufferRecord buf r (recordLength g r) = whole ws) :
    completeWrite p g buf s =
      boardChange (writePostings s (writeRecord p g r (whole ws) s)) (writeRecord p g r (whole ws) s) := by
  have hrecord : (List.range (recordCount g)).filter (fun k => buf.any (·.record = k)) = [r] := by
    simp only [hnames]
    rw [List.filter_eq, List.nodup_range.count, if_pos (List.mem_range.2 hr)]
    rfl
  unfold completeWrite
  rw [hrecord]
  simp only [List.foldl_cons, List.foldl_nil, applyRecord, hbuf, anyWritten_whole hne, if_true]

/-- A whole write completes as the write of its one record. -/
theorem completeWrite_whole {p : PortId} {g r : Nat} {ws : List Word} {s : State} (hr : r < recordCount g)
    (hl : ws.length = recordLength g r) (hne : ws ≠ []) :
    completeWrite p g (wholeBuffer r ws.length (whole ws)) s =
      boardChange (writePostings s (writeRecord p g r (whole ws) s)) (writeRecord p g r (whole ws) s) := by
  refine completeWrite_one hr hne (fun k => ?_) (by rw [← hl]; exact bufferRecord_whole r ws)
  obtain ⟨w, ws, rfl⟩ := List.exists_cons_of_ne_nil hne
  by_cases hk : k = r
  · subst hk; simp [wholeBuffer, whole]
  · simp [wholeBuffer, hk, Ne.symm hk]

/-- A whole write of a port that is ready and may write the record. -/
theorem writeWhole_whole {p : PortId} {g r : Nat} {ws : List Word} {s : State} (hready : PortReady p s)
    (hr : r < recordCount g) (hl : ws.length = recordLength g r) (hne : ws ≠ [])
    (hm : mayWrite (s.pi.get p).role p g r = true) :
    writeWhole p g r (whole ws) s =
      boardChange (writePostings s (writeRecord p g r (whole ws) s)) (writeRecord p g r (whole ws) s) := by
  rw [writeWhole_ready hready (by simpa [whole] using hne) hr hm, ← hl]
  exact completeWrite_whole hr hl hne

/-- A transaction that closes with every word of a record written completes as a whole write of it. -/
theorem completeTransaction_closing {p : PortId} {g r : Nat} {ws : List Word} {s : State} (hc : Closing p g r ws s)
    (hr : r < recordCount g) (hl : ws.length = recordLength g r) (hne : ws ≠ []) :
    completeTransaction p s =
      boardChange (writePostings (s.portClosed p) (writeRecord p g r (whole ws) (s.portClosed p)))
        (writeRecord p g r (whole ws) (s.portClosed p)) := by
  obtain ⟨hphase, ⟨h, hheader, hwrite, hcontrol, rfl⟩, hbuffer⟩ := hc
  have hwhole : ws.zipIdx.map (fun w => (⟨r, w.2, ⟨w.1, true, true⟩⟩ : BufferWord)) = wholeBuffer r ws.length (whole ws) := by
    unfold wholeBuffer whole
    rw [List.zipIdx_map, List.map_map]
    refine List.map_congr_left fun w hw => ?_
    have hlt : w.2 < ws.length := by simpa using (List.mem_zipIdx hw).2.1
    simp [Nat.mod_eq_of_lt hlt]
  simp only [completeTransaction, hphase, hheader, hwrite, hcontrol, hbuffer, hwhole]
  exact completeWrite_whole hr hl hne

/-! ### What a configuration write hands the board (R79, R84, R102) -/

/-- A write that leaves the lines hands the board no change of theirs. -/
theorem linePostings_same {s t : State} (h : t.gcm = s.gcm) : linePostings s t = [] := by
  rw [linePostings_eq, h, List.flatMap_eq_nil_iff]
  intro n _
  cases (tget s.gcm.conds n).level <;> simp [linePosting]

/-- A write that leaves every cap hands the board nothing. -/
theorem boardChange_sameCaps {s t : State} (hgcm : t.gcm = s.gcm) (hghm : t.ghm = s.ghm) (hcw : t.cw = s.cw)
    (hicd : t.icd.config = s.icd.config) : boardChange (writePostings s t) t = t := by
  simp [writePostings, linePostings_same hgcm, hghm, hcw, hicd]

/-- A transaction that closes with every word of a record written, where the write `t` of that record leaves every cap. -/
theorem exec_recordWrite_closing {dt : Nat} {p : PortId} {g r : Nat} {ws : List Word} {s t : State}
    (hc : Closing p g r ws (s.advance dt)) (hr : r < recordCount g) (hl : ws.length = recordLength g r) (hne : ws ≠ [])
    (ht : writeRecord p g r (whole ws) ((s.advance dt).portClosed p) = t) (hgcm : t.gcm = s.gcm) (hghm : t.ghm = s.ghm)
    (hcw : t.cw = s.cw) (hicd : t.icd.config = s.icd.config) : exec (.recordWrite dt p) s = .next t := by
  refine congrArg Host.Outcome.next ((completeTransaction_closing hc hr hl hne).trans ?_)
  rw [ht]
  exact boardChange_sameCaps hgcm hghm hcw hicd

/-- One cap handed to the board if it stands posted and changes. -/
def capPosting (posted : Prop) [Decidable posted] (k old cap : Nat) (code : SlotCode) : List SlotChange :=
  if posted ∧ old ≠ cap then [⟨k, .post cap code⟩] else []

/-- What a configuration write that leaves the board hands it: a changed cap of slot `k` whose slot stands posted, and nothing else. -/
def CapHanded (posted : Prop) (k old cap : Nat) (code : SlotCode) (s t : State) : Prop :=
  ((¬posted ∨ old = cap) → t.lb = s.lb) ∧
    (posted → old ≠ cap → k < s.lb.slots.length → Posted (tget t.lb.slots k) cap code) ∧ SlotsElsewhere [k] s t

theorem boardChange_capPosting {posted : Prop} [Decidable posted] {k old cap : Nat} {code : SlotCode} {s t : State}
    (hlb : t.lb = s.lb) :
    CapHanded posted k old cap code s (boardChange (capPosting posted k old cap code) t) := by
  unfold CapHanded SlotsElsewhere capPosting
  rw [← hlb]
  refine ⟨fun h => ?_, fun h hne hk => ?_, fun j hj => boardChange_other _ _ _ fun c hc => ?_⟩
  · rw [if_neg (by tauto)]
    rfl
  · rw [if_pos ⟨h, hne⟩]
    exact boardChange_posts hk (by simp)
  · split at hc
    · rw [List.mem_singleton.1 hc]
      exact fun h => hj (by simp [← h])
    · cases hc

theorem writePostings_grid (ms : List MaskedWord) (s : State) :
    writePostings s (writeGrid ms s) =
      capPosting (s.ghm.exceeding = true) 3 s.ghm.config.gridCap (s.ghm.config.write ms).gridCap .exceeding := by
  unfold writePostings
  rw [linePostings_same (by simp)]
  simp [capPosting, writeGrid, slotGrid]
  congr

theorem writePostings_watch (ms : List MaskedWord) (s : State) :
    writePostings s (writeWatch ms s) =
      capPosting (s.cw.liveLines ≠ []) 2 s.cw.config.coincCap (s.cw.config.write ms).coincCap .live := by
  unfold writePostings
  rw [linePostings_same (by simp)]
  simp [capPosting, writeWatch, slotCoinc]
  congr

theorem writePostings_icing (ms : List MaskedWord) (s : State) :
    writePostings s (writeIcing ms s) =
      capPosting (s.icd.state = .suspect) 0 s.icd.config.suspectCap (s.icd.config.write ms).suspectCap .suspect := by
  unfold writePostings
  rw [linePostings_same (by simp)]
  simp [capPosting, writeIcing_icd, slotIcing]

@[simp] theorem boardChange_hasFlag (cs : List SlotChange) (s : State) (p : PortId) (f : Flag) :
    ((boardChange cs s).rep.get p).hasFlag f = (s.rep.get p).hasFlag f := by
  unfold boardChange; dsimp only; split <;> simp

/-! ### Fields written whole -/

theorem numAt_overlay_whole {old ws : List Word} {n : Nat} (h : n < old.length) (hw : n < ws.length) :
    numAt (overlay old (whole ws)) n = (wordAt ws n).toNat := by
  rw [numAt, wordAt_overlay_whole h hw]

theorem intAt_overlay_whole {old ws : List Word} {n : Nat} (h : n < old.length) (hw : n < ws.length) :
    intAt (overlay old (whole ws)) n = (wordAt ws n).toInt := by
  rw [intAt, wordAt_overlay_whole h hw]

/-- A list of fields written whole. -/
theorem fieldList_whole {image ws : List Word} {n k : Nat} {old : List Nat} (f : Nat → Nat) (hk : old.length = k)
    (h : n + k ≤ image.length) (hw : n + k ≤ ws.length) :
    fieldList (whole ws) (overlay image (whole ws)) n f old =
      (List.range k).map (fun i => f (wordAt ws (n + i)).toNat) := by
  unfold fieldList
  rw [hk]
  refine List.map_congr_left fun i hi => ?_
  have := List.mem_range.1 hi
  rw [field_whole (by omega), numAt_overlay_whole (by omega) (by omega)]

theorem GridConfig.write_whole {ws : List Word} {c : GridConfig} (hl : ws.length = 52) (hh : c.h.length = 15)
    (hv : c.limitV.length = 15) (hi : c.limitI.length = 15) :
    c.write (whole ws) =
      ⟨(List.range 15).map (fun k => harmonicOf (wordAt ws k).toNat), (List.range 15).map (fun k => (wordAt ws (15 + k)).toNat),
        (List.range 15).map (fun k => (wordAt ws (30 + k)).toNat), (wordAt ws 45).toNat, (wordAt ws 46).toNat,
        max 1 (wordAt ws 47).toNat, max 1 (wordAt ws 48).toNat, max 1 (min 20 (wordAt ws 49).toNat),
        min 100 (wordAt ws 50).toNat⟩ := by
  have himage : (gridConfigImage c).length = 51 := by simp [gridConfigImage, hh, hv, hi]
  unfold GridConfig.write
  dsimp only
  rw [fieldList_whole _ hh (by omega) (by omega), fieldList_whole _ hv (by omega) (by omega),
    fieldList_whole _ hi (by omega) (by omega)]
  simp (disch := omega) only [field_whole, numAt_overlay_whole, Nat.zero_add]
  rfl

theorem WatchConfig.write_whole {ws : List Word} {c : WatchConfig} (hl : ws.length = 26) (hm : c.m.length = 8)
    (hs : c.slot.length = 8) (hf : c.floor.length = 8) :
    c.write (whole ws) =
      ⟨(List.range 8).map (fun k => min 60 (wordAt ws k).toNat), (List.range 8).map (fun k => min 15 (wordAt ws (8 + k)).toNat),
        (List.range 8).map (fun k => (wordAt ws (16 + k)).toNat), min 255 (wordAt ws 24).toNat,
        min 100 (wordAt ws 25).toNat⟩ := by
  have himage : (watchConfigImage c).length = 26 := by simp [watchConfigImage, hm, hs, hf]
  unfold WatchConfig.write
  dsimp only
  rw [fieldList_whole _ hm (by omega) (by omega), fieldList_whole _ hs (by omega) (by omega),
    fieldList_whole _ hf (by omega) (by omega)]
  simp (disch := omega) only [field_whole, numAt_overlay_whole, Nat.zero_add]
  rfl

theorem imbalanceLineOf_getD (n : Nat) (old : Option Nat) :
    (imbalanceLineOf n).getD old = if n = 65535 then none else if n < 24 then some n else old := by
  unfold imbalanceLineOf; repeat' split
  all_goals rfl

theorem IcingConfig.write_whole {ws : List Word} (hl : ws.length = 16) (c : IcingConfig) :
    c.write (whole ws) =
      IcingConfig.order ⟨max (-600) (min 600 (wordAt ws 0).toInt), min 200 (wordAt ws 1).toNat, min 100 (wordAt ws 2).toNat,
        max (-600) (min 600 (wordAt ws 3).toInt), min 1000 (wordAt ws 4).toNat, min 1000 (wordAt ws 5).toNat,
        max 1 (min 60 (wordAt ws 6).toNat), max 1 (min 60 (wordAt ws 7).toNat), max 100 (min 1000 (wordAt ws 8).toNat),
        (imbalanceLineOf (wordAt ws 9).toNat).getD c.line, max 1 (min 1440 (wordAt ws 10).toNat), min 310 (wordAt ws 11).toNat,
        min 310 (wordAt ws 12).toNat, min 100 (wordAt ws 13).toNat⟩ := by
  have himage : (icingConfigImage c).length = 14 := rfl
  unfold IcingConfig.write
  simp (disch := omega) only [field_whole, numAt_overlay_whole, intAt_overlay_whole]
  rfl

/-- R101: FFFFh is ABSENT; any other number of no line is invalid. -/
theorem IcingConfig.bad_whole {ws : List Word} (hl : ws.length = 16) (c : IcingConfig) :
    c.bad (whole ws) = true ↔ 24 ≤ (wordAt ws 9).toNat ∧ (wordAt ws 9).toNat ≠ 65535 := by
  have himage : (icingConfigImage c).length = 14 := rfl
  unfold IcingConfig.bad badEnum
  rw [wrote_whole (by omega), numAt_overlay_whole (by omega) (by omega), Bool.true_and]
  unfold imbalanceLineOf
  split
  · simp [*]
  · split
    · simp; omega
    · simp; omega

theorem CorrConfig.write_whole {ws : List Word} (hl : ws.length = 8) (c : CorrConfig) :
    c.write (whole ws) =
      ⟨max 1 (min 64 (wordAt ws 0).toNat), max 1 (min 8 (wordAt ws 1).toNat),
        min (wordAt ws 2).toNat (wordAt ws 3).toNat, (wordAt ws 3).toNat,
        min (wordAt ws 4).toNat (wordAt ws 5).toNat, (wordAt ws 5).toNat, min 1023 (wordAt ws 6).toNat⟩ := by
  have himage : (corrImage c).length = 7 := rfl
  unfold CorrConfig.write
  simp (disch := omega) only [field_whole, numAt_overlay_whole]
  rfl

theorem writeCurve_whole {ws : List Word} {s : State} (hl : ws.length = 32) (hc : s.icd.curve.length = 32) :
    writeCurve (whole ws) s =
      s.setIcd { s.icd with curve := (List.range 32).map (fun k => min 30000 (wordAt ws k).toNat) } := by
  unfold writeCurve
  dsimp only
  rw [fieldList_whole _ hc (by simp [hc]) (by omega)]
  simp only [Nat.zero_add]

theorem writeBoard_whole {ws : List Word} (hl : ws.length = 1) (s : State) :
    writeBoard (whole ws) s = s.setLb { s.lb with tAck := max 1 (min 120 (wordAt ws 0).toNat) } := by
  unfold writeBoard
  dsimp only
  rw [field_whole (by omega), numAt_overlay_whole (by simp) (by omega)]
  rfl

theorem CounterConfig.write_whole {ws : List Word} {c : CounterConfig} (hl : ws.length = 18) (hw : c.weights.length = 16) :
    c.write (whole ws) =
      ⟨max 1 (wordAt ws 0).toNat, max 1 (wordAt ws 1).toNat, (List.range 16).map (fun k => (wordAt ws (2 + k)).toNat)⟩ := by
  have himage : (counterConfigImage c).length = 18 := by simp [counterConfigImage, hw]
  unfold CounterConfig.write
  dsimp only
  rw [fieldList_whole _ hw (by omega) (by omega)]
  simp (disch := omega) only [field_whole, numAt_overlay_whole]
  rfl

/-! ### ConfigurationWritesClamp -/

theorem exec_gridConfigurationWrite {dt : Nat} {p : PortId} {ws : List Word} {s : State} (hready : PortReady p s)
    (hl : ws.length = 52) (hrole : (s.pi.get p).role ∈ [Role.converter, Role.farm]) :
    ∃ t, exec (.gridConfigurationWrite dt p (whole ws)) s = .next t ∧
      OnlyTouches [.ghm, .lb, .ej, .rep, .pub] (s.advance dt) t ∧
      t.ghm = { s.ghm with config := s.ghm.config.write (whole ws) } ∧
      CapHanded (s.ghm.exceeding = true) 3 s.ghm.config.gridCap (s.ghm.config.write (whole ws)).gridCap .exceeding
        (s.advance dt) t := by
  have hm : mayWrite (s.pi.get p).role p 5 0 = true := by
    rcases List.mem_pair.1 hrole with h | h <;> rw [h] <;> rfl
  have hexec := writeWhole_whole (s := s.advance dt) hready (by decide) hl (by rintro rfl; cases hl) hm
  change _ = boardChange (writePostings _ (writeGrid _ _)) (writeGrid _ _) at hexec
  rw [writePostings_grid] at hexec
  exact ⟨_, congrArg Host.Outcome.next hexec, by simp [onlyTouches_iff], by simp [writeGrid], boardChange_capPosting (by simp)⟩

theorem exec_watchConfigurationWrite {dt : Nat} {p : PortId} {ws : List Word} {s : State} (hready : PortReady p s)
    (hl : ws.length = 26) (hrole : (s.pi.get p).role = .farm) :
    ∃ t, exec (.watchConfigurationWrite dt p (whole ws)) s = .next t ∧
      OnlyTouches [.cw, .lb, .ej, .rep, .pub] (s.advance dt) t ∧
      t.cw = { s.cw with config := s.cw.config.write (whole ws) } ∧
      CapHanded (s.cw.liveLines ≠ []) 2 s.cw.config.coincCap (s.cw.config.write (whole ws)).coincCap .live
        (s.advance dt) t := by
  have hm : mayWrite (s.pi.get p).role p 7 0 = true := by rw [hrole]; rfl
  have hexec := writeWhole_whole (s := s.advance dt) hready (by decide) hl (by rintro rfl; cases hl) hm
  change _ = boardChange (writePostings _ (writeWatch _ _)) (writeWatch _ _) at hexec
  rw [writePostings_watch] at hexec
  exact ⟨_, congrArg Host.Outcome.next hexec, by simp [onlyTouches_iff], by simp [writeWatch], boardChange_capPosting (by simp)⟩

theorem writeIcing_badValue {ms : List MaskedWord} {s : State} (h : s.icd.config.bad ms = true) (p : PortId) :
    ((writeIcing ms s).rep.get p).hasFlag .badValue = true := by
  unfold writeIcing
  rw [h]
  exact State.raise_self _ _ _

theorem exec_icingConfigurationWrite {dt : Nat} {p : PortId} {ws : List Word} {s : State} (hready : PortReady p s)
    (hl : ws.length = 16) (hrole : (s.pi.get p).role = .farm) :
    ∃ t, exec (.icingConfigurationWrite dt p (whole ws)) s = .next t ∧
      OnlyTouches [.icd, .lb, .ej, .rep, .pub] (s.advance dt) t ∧ t.icd = (writeIcing (whole ws) s).icd ∧
      (s.icd.config.bad (whole ws) = true → FlagInEveryCopy .badValue t) ∧
      CapHanded (s.icd.state = .suspect) 0 s.icd.config.suspectCap (s.icd.config.write (whole ws)).suspectCap .suspect
        (s.advance dt) t := by
  have hm : mayWrite (s.pi.get p).role p 9 0 = true := by rw [hrole]; rfl
  have hexec := writeWhole_whole (s := s.advance dt) hready (by decide) hl (by rintro rfl; cases hl) hm
  change _ = boardChange (writePostings _ (writeIcing _ _)) (writeIcing _ _) at hexec
  rw [writePostings_icing] at hexec
  refine ⟨_, congrArg Host.Outcome.next hexec, by simp [onlyTouches_iff], ?_, fun hbad q => ?_,
    boardChange_capPosting (by simp)⟩
  · simp only [boardChange_frame, writeIcing_icd]
    rfl
  rw [boardChange_hasFlag]
  exact writeIcing_badValue (s := s.advance dt) hbad q

/-- Settles O43: each write reaches its record's own write, whose fields are clamped; the board takes at most its one cap. -/
theorem configurationWritesClamp : Obligations.ConfigurationWritesClamp := by
  unfold Obligations.ConfigurationWritesClamp
  refine ⟨fun dt p ws s => ?_, fun dt p ws s => ?_⟩
  · intro u n i line tIce rated hready
    refine ⟨fun hl hrole hh hv hi => ?_, fun hl hrole hm hs hf => ?_, fun hl hrole => ?_⟩
    · obtain ⟨t, hexec, htouch, hghm, hlb, hslot, helse⟩ := exec_gridConfigurationWrite (dt := dt) hready hl hrole
      rw [GridConfig.write_whole (c := s.ghm.config) hl hh hv hi] at hghm hlb hslot
      exact ⟨t, hexec, htouch, hghm, fun h => hlb (h.imp_left Bool.eq_false_iff.1), hslot, helse⟩
    · obtain ⟨t, hexec, htouch, hcw, hlb, hslot, helse⟩ := exec_watchConfigurationWrite (dt := dt) hready hl hrole
      rw [WatchConfig.write_whole (c := s.cw.config) hl hm hs hf] at hcw hlb hslot
      exact ⟨t, hexec, htouch, hcw, fun h => hlb (h.imp_left not_not.2), hslot, helse⟩
    · obtain ⟨t, hexec, htouch, hicd, hflag, hlb, hslot, helse⟩ := exec_icingConfigurationWrite (dt := dt) hready hl hrole
      rw [writeIcing_icd, IcingConfig.write_whole hl, imbalanceLineOf_getD] at hicd
      rw [IcingConfig.write_whole hl] at hlb hslot
      refine ⟨t, hexec, htouch, hicd, fun h h' => hflag ((IcingConfig.bad_whole hl _).2 ⟨h, h'⟩), hlb, fun h hne hk => ?_, helse⟩
      exact hslot h hne (List.length_pos_of_ne_nil hk)
  · intro u n closed
    refine ⟨fun hl hc => ?_, fun hl hcurve hc => ?_, fun hl hc => ?_, fun hl hw hc => ?_⟩
    · refine exec_recordWrite_closing hc (by decide) hl (by rintro rfl; cases hl) ?_ rfl rfl rfl rfl
      change writeCorr (whole ws) closed = _
      rw [writeCorr, CorrConfig.write_whole hl]
      rfl
    · exact exec_recordWrite_closing hc (by decide) hl (by rintro rfl; cases hl)
        (writeCurve_whole (s := closed) hl hcurve) rfl rfl rfl rfl
    · exact exec_recordWrite_closing hc (by decide) hl (by rintro rfl; cases hl) (writeBoard_whole hl closed) rfl rfl rfl rfl
    · refine exec_recordWrite_closing hc (by decide) hl (by rintro rfl; cases hl) ?_ rfl rfl rfl rfl
      change writeCounters (whole ws) closed = _
      rw [writeCounters, CounterConfig.write_whole (c := closed.cc.config) hl hw]
      rfl

end Sys2Proof.Machine

/-! PROOFS. The Coincidence Watch: what one event of it leaves (R85 to R93). -/

namespace Sys2Proof.Machine

/-! ### Visible lines and entries, live pairs (R88 to R90) -/

/-- A line that an evaluation of the tables sees (R88). -/
def Seen (defs : List LineDef) (c : Cw) (n : Nat) : Prop :=
  ∃ x, tget c.mech n = some x ∧ (tget defs n).enabled = true ∧ (tget defs n).source = x.source ∧ (tget defs n).floor ≤ x.code

/-- A watch entry that an evaluation of the tables sees (R89). -/
def Heard (c : Cw) (e : Nat) : Prop :=
  tget c.config.m e ≠ 0 ∧ ∃ x, c.elec = some x ∧ tget x.slots (tget c.config.slot e) ≠ 0 ∧
    ∃ a ∈ x.aggs, tget c.config.floor e ≤ tget a (tget c.config.slot e)

/-- A live pair with its two frequencies (R90). -/
def PairAt (defs : List LineDef) (c : Cw) (n e fm fe : Nat) : Prop :=
  n < 24 ∧ e < 8 ∧ Seen defs c n ∧ Heard c e ∧ (∃ x, tget c.mech n = some x ∧ fm = x.fm) ∧
    (∃ y, c.elec = some y ∧ fe = tget c.config.m e * y.fWin) ∧ ((fm : Int) - (fe : Int)).natAbs ≤ c.config.tol

theorem lineVisible_iff (defs : List LineDef) (c : Cw) (n : Nat) : lineVisible defs c.mech n = true ↔ Seen defs c n := by
  unfold lineVisible Seen
  cases tget c.mech n <;> simp [and_assoc]

theorem entryVisible_iff (c : Cw) (e : Nat) : entryVisible c.config c.elec e = true ↔ Heard c e := by
  unfold entryVisible Heard
  cases c.elec <;> simp [and_assoc]

/-- The frequencies of a live pair are those of its line and its entry. -/
theorem pairAt_iff (defs : List LineDef) (c : Cw) (n e fm fe : Nat) :
    PairAt defs c n e fm fe ↔ n < 24 ∧ e < 8 ∧ pairLive defs c n e = true ∧ fm = lineFrequency c.mech n ∧
      fe = entryFrequency c.config c.elec e := by
  unfold PairAt pairLive
  simp only [Bool.and_eq_true, lineVisible_iff, entryVisible_iff, decide_eq_true_eq]
  constructor
  · rintro ⟨hn, he, hs, hh, ⟨x, hx, rfl⟩, ⟨y, hy, rfl⟩, htol⟩
    have hfm : lineFrequency c.mech n = x.fm := by simp [lineFrequency, hx]
    have hfe : entryFrequency c.config c.elec e = tget c.config.m e * y.fWin := by simp [entryFrequency, hy]
    rw [hfm, hfe]
    exact ⟨hn, he, ⟨⟨hs, hh⟩, htol⟩, rfl, rfl⟩
  · rintro ⟨hn, he, ⟨⟨hs, hh⟩, htol⟩, rfl, rfl⟩
    obtain ⟨x, hx, -⟩ := id hs
    obtain ⟨-, y, hy, -⟩ := id hh
    exact ⟨hn, he, hs, hh, ⟨x, hx, by simp [lineFrequency, hx]⟩, ⟨y, hy, by simp [entryFrequency, hy]⟩, htol⟩

theorem mem_livePairs (defs : List LineDef) (c : Cw) (n e : Nat) :
    (n, e) ∈ livePairs defs c ↔ n < 24 ∧ e < 8 ∧ pairLive defs c n e = true := by
  simp [livePairs, List.mem_flatMap]

theorem mem_livePairs_iff (defs : List LineDef) (c : Cw) (n e : Nat) :
    (n, e) ∈ livePairs defs c ↔ ∃ fm fe, PairAt defs c n e fm fe := by
  simp only [mem_livePairs, pairAt_iff]
  exact ⟨fun ⟨hn, he, h⟩ => ⟨_, _, hn, he, h, rfl, rfl⟩, fun ⟨_, _, hn, he, h, _⟩ => ⟨hn, he, h⟩⟩

/-- Line order, and then entry order (R91). -/
def PairBefore (p q : Nat × Nat) : Prop := p.1 < q.1 ∨ (p.1 = q.1 ∧ p.2 < q.2)

theorem livePairs_sorted (defs : List LineDef) (c : Cw) : (livePairs defs c).Pairwise PairBefore := by
  unfold livePairs
  rw [List.pairwise_flatMap]
  refine ⟨fun n _ => List.pairwise_map.2 ((List.pairwise_lt_range.filter _).imp fun h => .inr ⟨rfl, h⟩),
    List.pairwise_lt_range.imp fun {m n} hmn p hp q hq => .inl ?_⟩
  obtain ⟨_, -, rfl⟩ := List.mem_map.1 hp
  obtain ⟨_, -, rfl⟩ := List.mem_map.1 hq
  exact hmn

/-- The first pair of the list is the one that no live pair precedes. -/
theorem livePairs_head {defs : List LineDef} {c : Cw} {n e : Nat} (h : (n, e) ∈ livePairs defs c)
    (hmin : ∀ m k, (m, k) ∈ livePairs defs c → n < m ∨ (n = m ∧ e ≤ k)) : ∃ rest, livePairs defs c = (n, e) :: rest := by
  cases hp : livePairs defs c with
  | nil => rw [hp] at h; cases h
  | cons p rest =>
    have hsorted := livePairs_sorted defs c
    rw [hp] at h hsorted
    have hle := hmin p.1 p.2 (by rw [hp]; exact List.mem_cons_self)
    rcases List.mem_cons.1 h with heq | hmem
    · exact ⟨rest, by rw [heq]⟩
    · have hbefore : PairBefore p (n, e) := (List.pairwise_cons.1 hsorted).1 _ hmem
      unfold PairBefore at hbefore
      dsimp only at hbefore
      omega

/-! ### The watch after an evaluation (R87 to R91) -/

section Evaluation

variable (defs : List LineDef) (cause : EvalCause) (c : Cw)

theorem evaluated_visLines (n : Nat) : n ∈ (c.evaluated defs cause).visLines ↔ n < 24 ∧ Seen defs c n := by
  rw [← lineVisible_iff]
  exact setWhere_mem

theorem evaluated_visEntries (e : Nat) : e ∈ (c.evaluated defs cause).visEntries ↔ e < 8 ∧ Heard c e := by
  rw [← entryVisible_iff]
  exact setWhere_mem

theorem evaluated_entryFreq {e : Nat} {y : ElecSnapshot} (he : e < 8) (hy : c.elec = some y) :
    tget (c.evaluated defs cause).entryFreq e = tget c.config.m e * y.fWin := by
  simp [Cw.evaluated, tget, he, entryFrequency, hy]

theorem evaluated_liveLines (n : Nat) :
    n ∈ (c.evaluated defs cause).liveLines ↔ ∃ e fm fe, PairAt defs c n e fm fe := by
  simp only [← mem_livePairs_iff]
  unfold Cw.evaluated
  dsimp only
  rw [setWhere_mem]
  constructor
  · rintro ⟨-, h⟩
    obtain ⟨⟨m, e⟩, hp, hm⟩ := List.any_eq_true.1 h
    obtain rfl : m = n := by simpa using hm
    exact ⟨e, hp⟩
  · rintro ⟨e, hp⟩
    exact ⟨((mem_livePairs _ _ _ _).1 hp).1, List.any_eq_true.2 ⟨_, hp, by simp⟩⟩

theorem evaluated_liveEntries (e : Nat) :
    e ∈ (c.evaluated defs cause).liveEntries ↔ ∃ n fm fe, PairAt defs c n e fm fe := by
  simp only [← mem_livePairs_iff]
  unfold Cw.evaluated
  dsimp only
  rw [setWhere_mem]
  constructor
  · rintro ⟨-, h⟩
    obtain ⟨⟨n, k⟩, hp, hk⟩ := List.any_eq_true.1 h
    obtain rfl : k = e := by simpa using hk
    exact ⟨n, hp⟩
  · rintro ⟨n, hp⟩
    exact ⟨((mem_livePairs _ _ _ _).1 hp).2.1, List.any_eq_true.2 ⟨_, hp, by simp⟩⟩

theorem setUnion_mem {k n : Nat} {a b : List Nat} : n ∈ setUnion k a b ↔ n < k ∧ (n ∈ a ∨ n ∈ b) := by
  simp [setUnion, setWhere_mem]

theorem evaluated_latchedLines (n : Nat) :
    n ∈ (c.evaluated defs cause).latchedLines ↔
      n < 24 ∧ (n ∈ c.latchedLines ∨ n ∈ (c.evaluated defs cause).liveLines) :=
  setUnion_mem

theorem evaluated_latchedEntries (e : Nat) :
    e ∈ (c.evaluated defs cause).latchedEntries ↔
      e < 8 ∧ (e ∈ c.latchedEntries ∨ e ∈ (c.evaluated defs cause).liveEntries) :=
  setUnion_mem

/-- No line is live exactly while no pair is. -/
theorem evaluated_noLine : (c.evaluated defs cause).liveLines = [] ↔ livePairs defs c = [] := by
  simp only [List.eq_nil_iff_forall_not_mem, evaluated_liveLines, ← mem_livePairs_iff, Prod.forall, not_exists]

theorem evaluated_firstPair_stands (h : c.latchedLines ≠ [] ∨ (c.evaluated defs cause).liveLines = []) :
    (c.evaluated defs cause).firstPair = c.firstPair := by
  unfold Cw.evaluated; dsimp only; split
  next hempty =>
    have hnone : livePairs defs c = [] :=
      (evaluated_noLine defs cause c).1 (h.resolve_left (not_not.2 (List.isEmpty_iff.1 hempty)))
    rw [hnone]
  next => rfl

theorem evaluated_firstPair_first {n e fm fe : Nat} (h : c.latchedLines = []) (hp : PairAt defs c n e fm fe)
    (hmin : ∀ m k, (∃ fm fe, PairAt defs c m k fm fe) → n < m ∨ (n = m ∧ e ≤ k)) :
    (c.evaluated defs cause).firstPair = some ⟨n, e, fm, fe⟩ := by
  obtain ⟨rest, hrest⟩ := livePairs_head ((mem_livePairs_iff defs c n e).2 ⟨fm, fe, hp⟩)
    (fun m k hm => hmin m k ((mem_livePairs_iff defs c m k).1 hm))
  obtain ⟨-, -, -, rfl, rfl⟩ := (pairAt_iff _ _ _ _ _ _).1 hp
  simp [Cw.evaluated, h, hrest]

/-- Something comes to be latched exactly when the first line is live. -/
theorem evaluated_latches (h : c.latchedLines = []) :
    (c.evaluated defs cause).latchedLines = [] ↔ (c.evaluated defs cause).liveLines = [] := by
  simp only [List.eq_nil_iff_forall_not_mem, evaluated_latchedLines, h, List.not_mem_nil, false_or, not_and]
  exact ⟨fun hall n hn => hall n (setWhere_mem.1 hn).1 hn, fun hall n _ => hall n⟩

end Evaluation

/-! ### One event of the watch (R87, R91 to R93) -/

@[simp] theorem boardChange_latch (cs : List SlotChange) (s : State) (p : PortId) :
    ((boardChange cs s).rep.get p).latch = (s.rep.get p).latch := by
  unfold boardChange; dsimp only; split <;> simp

/-- The COINC entry of the pair that stands first (R91). -/
def coincEntry (c : Cw) : EntryBody :=
  { source := .cw, inst := some ((c.firstPair.map (·.line)).getD 0), kind := .coinc, fromState := some 0, toState := some 1,
    value := ((c.firstPair.map (·.entry)).getD 0 : Nat) }

theorem latchReport_stands {before : Cw} {s : State} (h : before.latchedLines ≠ [] ∨ s.cw.latchedLines = []) :
    latchReport before s = s :=
  if_neg fun hboth => by
    rw [Bool.and_eq_true, List.isEmpty_iff, Bool.not_eq_true', List.isEmpty_eq_false_iff] at hboth
    exact h.elim (fun hne => hne hboth.1) hboth.2

theorem latchReport_reports {before : Cw} {s : State} (h : before.latchedLines = []) (h' : s.cw.latchedLines ≠ []) :
    latchReport before s = setCoincLatches (s.journal (coincEntry s.cw)) :=
  if_pos (by simpa using ⟨h, h'⟩)

/-- The watch's tables after an update, as they are shown (R93). -/
theorem coincEvent_off {cause : EvalCause} {f : Cw → Cw} {s : State} (h : s.jobs.coinc = false) :
    coincEvent cause f s =
      startPublish 7 coincRecords s (boardChange (coincPosting s.cw (f s.cw).show) (s.setCw (f s.cw).show)) := by
  simp [coincEvent, h]

/-- The state of an event of the enabled watch before the board takes its posting. -/
def watchEvaluated (cause : EvalCause) (f : Cw → Cw) (s : State) : State :=
  latchReport (f s.cw).show (s.setCw ((f s.cw).show.evaluated s.gcm.defs cause))

theorem coincEvent_on {cause : EvalCause} {f : Cw → Cw} {s : State} (h : s.jobs.coinc = true) :
    coincEvent cause f s =
      startPublish 7 coincRecords s
        (boardChange (coincPosting s.cw (watchEvaluated cause f s).cw) (watchEvaluated cause f s)) := by
  simp [coincEvent, h, watchEvaluated]

@[simp] theorem watchEvaluated_frame (cause : EvalCause) (f : Cw → Cw) (s : State) :
    (watchEvaluated cause f s).cw = (f s.cw).show.evaluated s.gcm.defs cause ∧
      (watchEvaluated cause f s).lb = s.lb := by
  simp [watchEvaluated]

/-- The slot of the watch after the posting of an event (R92). -/
theorem coincPosting_says (a b : Cw) (s : State) :
    (a.liveLines = [] → b.liveLines ≠ [] → 2 < s.lb.slots.length →
        Posted (tget (boardChange (coincPosting a b) s).lb.slots 2) b.config.coincCap .live) ∧
      (a.liveLines ≠ [] → b.liveLines = [] → (tget (boardChange (coincPosting a b) s).lb.slots 2).active = false) ∧
      ((a.liveLines = [] ↔ b.liveLines = []) → tget (boardChange (coincPosting a b) s).lb.slots 2 = tget s.lb.slots 2) := by
  refine ⟨fun ha hb hk => ?_, fun ha hb => ?_, fun hab => ?_⟩
  · have hpost : coincPosting a b = [⟨2, .post b.config.coincCap .live⟩] := if_pos (by simp [ha, hb])
    rw [hpost]
    exact boardChange_posts hk (by simp)
  · have hpost : coincPosting a b = [⟨2, .withdraw⟩] :=
      (if_neg (by simp [ha])).trans (if_pos (by simp [ha, hb]))
    rw [hpost]
    by_cases hk : 2 < s.lb.slots.length
    · exact boardChange_withdraws hk (by simp)
    · rw [tget_past (by simpa using hk)]
      rfl
  · have hpost : coincPosting a b = [] := (if_neg (by simp [hab])).trans (if_neg (by simp [hab]))
    rw [hpost]
    rfl

/-- An update of the tables leaves the rest of the watch. -/
def UpdatesTables (f : Cw → Cw) (c : Cw) : Prop := f c = { c with mech := (f c).mech, elec := (f c).elec }

/-- An event of the enabled watch is an evaluation of its tables (R87 to R92). -/
theorem coincEvent_evaluated {cause : EvalCause} {f : Cw → Cw} {s : State} (h : s.jobs.coinc = true)
    (hf : UpdatesTables f s.cw) : Evaluated cause s (coincEvent cause f s) := by
  obtain ⟨c, hc⟩ : ∃ c, (f s.cw).show = c := ⟨_, rfl⟩
  have hcount : c.count = s.cw.count := by rw [← hc, hf]; rfl
  have hlatchedLines : c.latchedLines = s.cw.latchedLines := by rw [← hc, hf]; rfl
  have hlatchedEntries : c.latchedEntries = s.cw.latchedEntries := by rw [← hc, hf]; rfl
  have hfirst : c.firstPair = s.cw.firstPair := by rw [← hc, hf]; rfl
  have hhigh : c.entryHigh = shownHigh c := by rw [← hc]; rfl
  have hstate := coincEvent_on (cause := cause) (f := f) h
  obtain ⟨hwcw, hwlb⟩ := watchEvaluated_frame cause f s
  rw [hc] at hwcw
  have hcw : (coincEvent cause f s).cw = c.evaluated s.gcm.defs cause := by rw [hstate]; simp [hc]
  have hgcm : (coincEvent cause f s).gcm = s.gcm := by simp
  have hlatch : ∀ p, ((coincEvent cause f s).rep.get p).latch = ((watchEvaluated cause f s).rep.get p).latch := by
    intro p; rw [hstate]; simp
  obtain ⟨hpost, hwithdraw, hstand⟩ := coincPosting_says s.cw (c.evaluated s.gcm.defs cause) (watchEvaluated cause f s)
  rw [hwlb] at hpost hstand
  have hslot : (coincEvent cause f s).lb.slots =
      (boardChange (coincPosting s.cw (c.evaluated s.gcm.defs cause)) (watchEvaluated cause f s)).lb.slots := by
    rw [hstate, hwcw]; simp
  unfold Evaluated
  simp only [hcw, hgcm, hslot, hlatch]
  refine ⟨by rw [← hcount]; rfl, rfl, hhigh, evaluated_visLines _ _ c, evaluated_visEntries _ _ c, fun e y => evaluated_entryFreq _ _ c,
    evaluated_liveLines _ _ c, evaluated_liveEntries _ _ c, ?_, ?_, fun hno => ?_, fun hempty n e fm fe hp hmin => ?_,
    hpost, hwithdraw, hstand⟩
  · rw [← hlatchedLines]; exact evaluated_latchedLines _ _ c
  · rw [← hlatchedEntries]; exact evaluated_latchedEntries _ _ c
  · rw [← hlatchedLines] at hno
    refine ⟨(evaluated_firstPair_stands _ _ _ hno).trans hfirst, fun p => ?_⟩
    have hstands : watchEvaluated cause f s = s.setCw (c.evaluated s.gcm.defs cause) := by
      unfold watchEvaluated
      rw [hc]
      refine latchReport_stands ?_
      by_cases hempty : c.latchedLines = []
      · exact .inr ((evaluated_latches _ _ _ hempty).2 (hno.resolve_left (not_not.2 hempty)))
      · exact .inl hempty
    rw [hstands]
    rfl
  · rw [← hlatchedLines] at hempty
    have hfirstPair := evaluated_firstPair_first s.gcm.defs cause c hempty hp hmin
    have hlive : (c.evaluated s.gcm.defs cause).liveLines ≠ [] :=
      List.ne_nil_of_mem ((evaluated_liveLines _ _ _ n).2 ⟨e, fm, fe, hp⟩)
    have hreports : watchEvaluated cause f s = setCoincLatches ((s.setCw (c.evaluated s.gcm.defs cause)).journal
        (coincEntry (c.evaluated s.gcm.defs cause))) := by
      unfold watchEvaluated
      rw [hc]
      exact latchReport_reports hempty (mt (evaluated_latches _ _ _ hempty).1 hlive)
    refine ⟨hfirstPair, fun p => by rw [hreports]; simp [setCoincLatches], ?_⟩
    have hlogs : Logs [coincEntry (c.evaluated s.gcm.defs cause)] s (watchEvaluated cause f s) := by
      rw [hreports]
      have hjournal := logs_journal (coincEntry (c.evaluated s.gcm.defs cause)) (s.setCw (c.evaluated s.gcm.defs cause))
      exact (Logs.congr_left (s' := s) hjournal rfl rfl).congr (by simp [setCoincLatches]) (by simp [setCoincLatches])
    obtain ⟨rest, hrest⟩ := (logged_refl (watchEvaluated cause f s)).boardChange
      (coincPosting s.cw (watchEvaluated cause f s).cw)
    have hall : Logs ([] ++ coincEntry (c.evaluated s.gcm.defs cause) :: rest) s (coincEvent cause f s) := by
      rw [hstate]
      exact (hlogs.trans hrest).congr rfl rfl
    have hentry : coincEntry (c.evaluated s.gcm.defs cause) =
        { source := .cw, inst := some n, kind := .coinc, fromState := some 0, toState := some 1, value := (e : Int) } := by
      simp [coincEntry, hfirstPair]
    rw [← hentry]
    exact hall.journals

theorem coincEvent_takenOnly {cause : EvalCause} {f : Cw → Cw} {s : State} (h : s.jobs.coinc = false)
    (hf : UpdatesTables f s.cw) : TakenOnly s (coincEvent cause f s) := by
  have hnone : coincPosting s.cw (f s.cw).show = [] := by
    rw [hf]
    simp [coincPosting, Cw.show]
  have hstate := coincEvent_off (cause := cause) (f := f) h
  rw [hnone] at hstate
  rw [hstate]
  refine ⟨?_, rfl, fun p => rfl⟩
  change (f s.cw).show = { s.cw with mech := (f s.cw).mech, elec := (f s.cw).elec, entryHigh := shownHigh (f s.cw) }
  rw [Cw.show_eq, hf]

end Sys2Proof.Machine

/-! PROOFS. What a revolution event reports and moves beside the frame engines. -/

namespace Sys2Proof.Machine

/-! ### Reports (R172, R175, R178) -/

/-- From `s` to `t` entries are appended, no flag is cleared, and no port's COINC latch moves. -/
structure Reported (s t : State) : Prop where
  logged : Logged s t
  flags : ∀ p f, (s.rep.get p).hasFlag f = true → (t.rep.get p).hasFlag f = true
  latch : ∀ p, (t.rep.get p).latch = (s.rep.get p).latch

theorem Logged.trans {s t u : State} (h : Logged s t) (h' : Logged t u) : Logged s u := by
  obtain ⟨bs, hbs⟩ := h
  obtain ⟨cs, hcs⟩ := h'
  exact ⟨_, hbs.trans hcs⟩

theorem Reported.refl (s : State) : Reported s s := ⟨logged_refl s, fun _ _ h => h, fun _ => rfl⟩

theorem Reported.trans {s t u : State} (h : Reported s t) (h' : Reported t u) : Reported s u where
  logged := h.logged.trans h'.logged
  flags p f hf := h'.flags p f (h.flags p f hf)
  latch p := (h'.latch p).trans (h.latch p)

/-- A change of the state that journal, calendar and reporting do not see. -/
theorem reported_of_eq {s t : State} (hej : t.ej = s.ej) (hcc : t.cc.time = s.cc.time) (hset : t.cc.isSet = s.cc.isSet)
    (hrep : t.rep = s.rep) : Reported s t :=
  ⟨⟨[], hcc, hset, hej⟩, fun p f h => by rw [hrep]; exact h, fun p => by rw [hrep]⟩

theorem reported_journalAll (bs : List EntryBody) (s : State) : Reported s (s.journalAll bs) :=
  ⟨⟨bs, logs_journalAll bs s⟩, fun p f h => by simpa using h, fun p => by simp⟩

/-- A flag is no latch. -/
@[simp] theorem State.raise_latch (s : State) (f : Flag) (p : PortId) : ((s.raise f).rep.get p).latch = (s.rep.get p).latch := by
  cases f <;> simp [State.raise, RepPort.setFlag]

theorem reported_raise (f : Flag) (s : State) : Reported s (s.raise f) :=
  ⟨⟨[], logs_raise f s⟩, fun p g h => State.raise_keeps s f g p h, fun p => State.raise_latch s f p⟩

theorem reported_raiseIf (b : Bool) (f : Flag) (s : State) : Reported s (s.raiseIf b f) := by
  unfold State.raiseIf; split
  · exact reported_raise f s
  · exact .refl s

theorem reported_boardChange (cs : List SlotChange) (s : State) : Reported s (boardChange cs s) :=
  ⟨(logged_refl s).boardChange cs, fun p f h => by simpa using h, fun p => by simp⟩

theorem reported_setMs (x : Ms) (s : State) : Reported s (s.setMs x) := reported_of_eq rfl rfl rfl rfl

theorem reported_recomputeMaint (s : State) : Reported s (recomputeMaint s) := by
  have hposted : ∀ cs p, Reported s (boardChange cs (s.setMs { s.ms with posted := p })) := fun cs p =>
    (reported_setMs _ s).trans (reported_boardChange cs _)
  unfold recomputeMaint; split
  · split
    · split
      · exact .refl s
      · exact hposted _ _
    · exact hposted _ _
    · exact .refl s
  · exact .refl s

theorem reported_pulls (gs : List Pull) (s : State) : Reported s (gs.foldl pullOne s) := by
  induction gs generalizing s with
  | nil => exact .refl s
  | cons g gs ih =>
    refine Reported.trans ?_ (ih (pullOne s g))
    exact (reported_setMs _ s).trans (reported_journalAll _ _)

theorem reported_takePulls (gs : List Pull) (s : State) : Reported s (takePulls gs s) := by
  unfold takePulls; split
  · have hevent := (reported_pulls gs s).trans (reported_recomputeMaint _)
    unfold scheduleEvent; dsimp only; split
    · exact hevent
    · exact hevent.trans (reported_of_eq rfl rfl rfl rfl)
  · exact .refl s

theorem Journals.logs {b : EntryBody} {s t : State} (h : Journals b s t) (hcc : t.cc = s.cc) :
    ∃ first rest, Logs (first ++ b :: rest) s t := by
  obtain ⟨first, rest, hej⟩ := h
  refine ⟨first, rest, by rw [hcc], by rw [hcc], ?_⟩
  rw [hej, hcc]
  rfl

/-- What an event of the watch leaves, seen between earlier and later reports that touch neither watch nor slot COINC. -/
theorem Evaluated.congr {cause : EvalCause} {s s' t t' : State} (h : Evaluated cause s t) (hcc : t.cc = s.cc)
    (hs : Reported s' s) (hscw : s.cw = s'.cw) (hslots : s.lb.slots.length = s'.lb.slots.length)
    (hs2 : tget s.lb.slots 2 = tget s'.lb.slots 2) (ht : Reported t t') (htcw : t'.cw = t.cw) (hgcm : t'.gcm.defs = t.gcm.defs)
    (ht2 : tget t'.lb.slots 2 = tget t.lb.slots 2) : Evaluated cause s' t' := by
  unfold Evaluated at h ⊢
  simp only [htcw, hgcm, ht2, ht.latch, ← hscw, ← hslots, ← hs2, ← hs.latch]
  obtain ⟨hcount, hcause, hhigh, hvis, hent, hfreq, hlive, hlive', hlatched, hlatched', hstands, hfirst, hslot⟩ := h
  refine ⟨hcount, hcause, hhigh, hvis, hent, hfreq, hlive, hlive', hlatched, hlatched', hstands,
    fun hempty n e fm fe hp hmin => ?_, hslot⟩
  obtain ⟨hpair, hlatch, hjournals⟩ := hfirst hempty n e fm fe hp hmin
  obtain ⟨first, rest, hlogs⟩ := hjournals.logs hcc
  obtain ⟨bs, hbs⟩ := hs.logged
  obtain ⟨cs, hcs⟩ := ht.logged
  have hall := (hbs.trans hlogs).trans hcs
  simp only [List.append_assoc, List.cons_append] at hall
  rw [← List.append_assoc] at hall
  exact ⟨hpair, hlatch, hall.journals⟩

theorem TakenOnly.congr {s s' t t' : State} (h : TakenOnly s t) (hs : Reported s' s) (hscw : s.cw = s'.cw)
    (hs2 : tget s.lb.slots 2 = tget s'.lb.slots 2) (ht : Reported t t') (htcw : t'.cw = t.cw)
    (ht2 : tget t'.lb.slots 2 = tget t.lb.slots 2) : TakenOnly s' t' := by
  obtain ⟨hcw, hslot, hlatch⟩ := h
  refine ⟨?_, ht2.trans (hslot.trans hs2), fun p => (ht.latch p).trans ((hlatch p).trans (hs.latch p))⟩
  rw [htcw, ← hscw]
  exact hcw

/-! ### The rest of the event (R8, R13, R14) -/

/-- An operation beside correlator, monitors, board and schedule. -/
structure Aside (s t : State) : Prop where
  ocr : t.ocr = s.ocr
  gcm : t.gcm = s.gcm
  cw : t.cw = s.cw
  lb : t.lb = s.lb
  ms : t.ms = s.ms
  jobs : t.jobs = s.jobs
  reported : Reported s t

theorem Aside.trans {s t u : State} (h : Aside s t) (h' : Aside t u) : Aside s u :=
  ⟨h'.ocr.trans h.ocr, h'.gcm.trans h.gcm, h'.cw.trans h.cw, h'.lb.trans h.lb, h'.ms.trans h.ms, h'.jobs.trans h.jobs,
    h.reported.trans h'.reported⟩

theorem aside_setSau (x : Sau) (s : State) : Aside s (s.setSau x) :=
  ⟨rfl, rfl, rfl, rfl, rfl, rfl, reported_of_eq rfl rfl rfl rfl⟩

theorem aside_periodClosed (sd : Side) (x : ShaftSide) (s : State) : Aside s (periodClosed sd x s) :=
  (aside_setSau (s.sau.setSide sd (x.close sd (standstillDeadline s))) s).trans (t := s.setSide sd _)
    ⟨by simp [periodClosed], by simp [periodClosed], by simp [periodClosed], by simp [periodClosed], by simp [periodClosed],
      by simp [periodClosed], reported_journalAll _ _⟩

theorem aside_ratioTest (s : State) : Aside s (ratioTest s) := by
  by_cases h : RatioTested s.sau
  · rw [ratioTest_tested h]; split
    · exact (aside_setSau _ s).trans
        ⟨by simp, by simp, by simp, by simp, by simp, by simp, (reported_raise _ _).trans (reported_journalAll [_] _)⟩
    · exact aside_setSau _ s
  · rw [ratioTest_untested h]
    exact aside_setSau _ s

theorem aside_revolutionEvent (sd : Side) (p v : Nat) (s : State) :
    Aside (revolutionToFrames sd p v s) (revolutionEvent sd p v s) := by
  cases sd with
  | hs =>
    refine (aside_setSau _ _).trans (t := revolutionToRatio .hs (revolutionToFrames .hs p v s)) ?_
    refine ⟨rfl, rfl, rfl, rfl, rfl, rfl, reported_of_eq rfl ?_ ?_ rfl⟩
    all_goals simp [revolutionEvent, countRevolution, Cc.countRevolution]
  | ls => exact aside_ratioTest _

/-- A forward index that closes a period: the period is closed, the revolution reaches the frame engine, and the rest of the event leaves
what the engine made of it. -/
theorem exec_revolution {sd : Side} {dt : Nat} {s : State} (hf : ForwardIndex sd (s.advance dt))
    (hs : ¬IsSlip sd (s.advance dt)) (ht : ((s.advance dt).sau.side sd).timed = true) :
    ∃ v w t, exec (edgeOf (indexLine sd) dt true) s = .next t ∧
      OnlyTouches [.sau, .ocr, .gcm, .cw, .lb, .cc, .ms, .ej, .rep, .pub] (s.advance dt) t ∧
      Aside (s.advance dt) w ∧ Logs (trackingEntry sd ((s.advance dt).sau.side sd)) (s.advance dt) w ∧
      (w.sau.side sd).state = .tracking ∧ w.sau.active = (s.advance dt).sau.active ∧ (t.sau.side sd).speed = v ∧
      Aside (revolutionToFrames sd ((s.advance dt).sau.side sd).counter v w) t := by
  obtain ⟨u, hu⟩ : ∃ u, s.advance dt = u := ⟨_, rfl⟩
  have hexec := exec_forwardIndex hf
  rw [hu] at hf hs ht hexec ⊢
  rw [forwardIndex_noSlip (mt (isSlip_seen _ _ _ _).1 hs), State.setSau_sau, State.seen_side, if_pos ht, closePeriod_eq] at hexec
  have hlogs := (logs_periodClosed sd (u.sau.side sd).reloaded (u.setSau (u.seen (indexLine sd) true)))
  refine ⟨_, _, _, hexec, ?_, (aside_setSau _ u).trans (aside_periodClosed _ _ _), Logs.congr_left hlogs rfl rfl, ?_, ?_, ?_,
    aside_revolutionEvent _ _ _ _⟩
  · rw [← closePeriod_eq]
    simp [onlyTouches_iff]
  · rw [(periodClosed_keeps _ _ _).1, Sau.side_setSide_self]
    rfl
  · rw [(periodClosed_keeps _ _ _).1]
    simp
  · rw [(revolutionEvent_sides _ _ _ _).2, (periodClosed_keeps _ _ _).1, Sau.side_setSide_self]
    rfl

end Sys2Proof.Machine

/-! PROOFS. What an evaluated completion leaves (R35 to R40, R44, R50 to R52, R85, R159). -/

namespace Sys2Proof.Machine

/-! ### Tables filled line by line -/

/-- A fold that touches one numbered place for each element leaves every other place. -/
theorem foldl_place_other {α β : Type} [Inhabited β] (key : α → Nat) {step : List β → α → List β}
    (hstep : ∀ xs a k, key a ≠ k → tget (step xs a) k = tget xs k) {as : List α} {k : Nat} (h : ∀ a ∈ as, key a ≠ k)
    (xs : List β) : tget (as.foldl step xs) k = tget xs k := by
  induction as generalizing xs with
  | nil => rfl
  | cons a as ih =>
    rw [List.foldl_cons, ih (fun b hb => h b (List.mem_cons_of_mem _ hb)), hstep _ _ _ (h a List.mem_cons_self)]

/-- At the place of an element stands what the element made of what stood there. -/
theorem foldl_place_self {α β : Type} [Inhabited β] (key : α → Nat) {step : List β → α → List β} {make : α → β → β}
    (hstep : ∀ xs a k, key a ≠ k → tget (step xs a) k = tget xs k) (hlen : ∀ xs a, (step xs a).length = xs.length)
    (hself : ∀ xs a, key a < xs.length → tget (step xs a) (key a) = make a (tget xs (key a))) {as : List α} {a : α}
    (hdistinct : as.Pairwise (fun a b => key a ≠ key b)) (ha : a ∈ as) {xs : List β} (hk : key a < xs.length) :
    tget (as.foldl step xs) (key a) = make a (tget xs (key a)) := by
  induction as generalizing xs with
  | nil => cases ha
  | cons b as ih =>
    obtain ⟨hb, hrest⟩ := List.pairwise_cons.1 hdistinct
    rw [List.foldl_cons]
    rcases List.mem_cons.1 ha with rfl | hmem
    · rw [foldl_place_other key hstep (fun c hc => (hb c hc).symm), hself _ _ hk]
    · rw [ih hrest hmem (by rw [hlen]; exact hk), hstep _ _ _ (hb a hmem)]

/-! ### Line results (R35 to R38) -/

/-- The code of the statements is that of the model (R35). -/
theorem codeOf_eq (n : Nat) (i q : Int) : codeOf n i q = (amplitudeCode n i q, overRange n i q) := by
  unfold codeOf amplitudeCode overRange rawCode
  rw [sq, sq]

theorem storeResults_other {sd : Side} {n seq : Nat} {ls : List CapturedLine} {k : Nat} (h : ∀ l ∈ ls, l.line ≠ k)
    (rs : List LineResult) : tget (storeResults sd n seq ls rs) k = tget rs k :=
  foldl_place_other CapturedLine.line (fun _ _ _ hne => tget_tmod_other _ _ hne.symm) h rs

theorem storeResults_listed {sd : Side} {n seq : Nat} {ls : List CapturedLine} {l : CapturedLine} {rs : List LineResult}
    (hls : LinesOrdered ls) (hl : l ∈ ls) (hk : l.line < rs.length) :
    tget (storeResults sd n seq ls rs) l.line = l.result sd n seq (tget rs l.line) :=
  foldl_place_self CapturedLine.line (make := fun l => l.result sd n seq) (fun _ _ _ hne => tget_tmod_other _ _ hne.symm)
    (fun _ _ => by simp) (fun xs a ha => tget_tmod_self xs a.line _ ha) (hls.2.imp fun h => Nat.ne_of_lt h) hl hk

/-! ### The mechanical table (R85) -/

/-- The entry that a listed line makes. -/
def mechMade (sd : Side) (v : Nat) (l : ListedLine) (old : Option MechEntry) : Option MechEntry :=
  match l.code with
  | some (c, o) => some ⟨sd, l.kq, c, o, v, mechFrequency sd l.kq v⟩
  | none => old

theorem mechTake_other {sd : Side} {v : Nat} (xs : List (Option MechEntry)) (l : ListedLine) {k : Nat}
    (h : l.code ≠ none → l.line ≠ k) : tget (mechTake sd v xs l) k = tget xs k := by
  unfold mechTake; split
  next hcode => exact tget_set_other _ _ (h (by simp [hcode]))
  next => rfl

theorem mechTake_self {sd : Side} {v : Nat} (xs : List (Option MechEntry)) (l : ListedLine) (h : l.line < xs.length) :
    tget (mechTake sd v xs l) l.line = mechMade sd v l (tget xs l.line) := by
  unfold mechTake mechMade
  cases l.code with
  | none => rfl
  | some code => exact tget_set_self _ _ h

theorem mechTaken_other {sd : Side} {v : Nat} {ls : List ListedLine} {k : Nat} (h : ∀ l ∈ ls, l.code ≠ none → l.line ≠ k)
    (xs : List (Option MechEntry)) : tget (ls.foldl (mechTake sd v) xs) k = tget xs k := by
  induction ls generalizing xs with
  | nil => rfl
  | cons l ls ih =>
    rw [List.foldl_cons, ih (fun a ha => h a (List.mem_cons_of_mem _ ha)), mechTake_other _ _ (h l List.mem_cons_self)]

theorem mechTaken_listed {sd : Side} {v : Nat} {ls : List ListedLine} {l : ListedLine} {xs : List (Option MechEntry)}
    (hls : LinesDistinct ls) (hl : l ∈ ls) (hk : l.line < xs.length) :
    tget (ls.foldl (mechTake sd v) xs) l.line = mechMade sd v l (tget xs l.line) :=
  foldl_place_self ListedLine.line (make := mechMade sd v) (fun xs a _ hne => mechTake_other xs a fun _ => hne)
    (fun xs a => by unfold mechTake; split <;> simp) (fun xs a ha => mechTake_self xs a ha) hls hl hk

theorem mechFrequency_fits {sd : Side} {kq v k : Nat} (hk : k = kq * v / (match sd with | .hs => 960 | .ls => 15360))
    (h : k ≤ 4294967295) : mechFrequency sd kq v = k := by
  cases sd <;> subst hk <;> exact if_pos h

theorem frameSpeed_fits {sd : Side} {mean k : Nat} (h0 : mean ≠ 0)
    (hk : k = (match sd with | .hs => 38400000000 | .ls => 614400000000) / mean) (h : k ≤ 4294967295) :
    frameSpeed sd mean = k := by
  cases sd <;> subst hk <;> exact if_pos ⟨h0, h⟩

/-! ### LEVEL entries (R46, R50) -/

/-- A rated line stays rated. -/
theorem Cond.judge_rated (d : LineDef) (ovr : Bool) {c : Cond} (h : c.level ≠ .unrated) : (c.judge d ovr).level ≠ .unrated := by
  unfold Cond.judge Cond.enter; dsimp only; repeat' split
  all_goals simp_all

theorem Cond.smoothed_level (d : LineDef) (code : Nat) (c : Cond) :
    (c.smoothed d code).level = if c.level = .unrated then .normal else c.level := by
  unfold Cond.smoothed; split <;> rfl

theorem Cond.smoothed_eCode (d : LineDef) (code : Nat) {c : Cond} (h : c.level = .unrated) :
    (c.smoothed d code).eCode = code := by
  simp [Cond.smoothed, h, Cond.eCode]

/-- The LEVEL entries of the statements are those of the model. -/
theorem levelEntries_eq (n : Nat) (d : LineDef) (code : Nat) (ovr : Bool) (seq : Nat) (c : Cond) :
    (if c.level = (c.evaluate d code ovr seq).level then []
      else levelEntries n d code c (c.evaluate d code ovr seq)) = levelChanges n code c (c.evaluate d code ovr seq) := by
  have hrated : (c.smoothed d code).level ≠ .unrated := by
    rw [Cond.smoothed_level]; split <;> simp_all
  have hafter : (c.evaluate d code ovr seq).level ≠ .unrated := Cond.judge_rated d ovr hrated
  unfold levelEntries levelChanges levelEntry
  dsimp only
  by_cases hu : c.level = .unrated
  · have hsmoothed : (c.smoothed d code).level = .normal := by rw [Cond.smoothed_level, if_pos hu]
    rw [if_neg (by rw [hu]; exact hafter.symm), if_pos hu, hsmoothed, if_neg (by simp [hu]), Cond.smoothed_eCode d code hu, hu]
    by_cases hn : (c.evaluate d code ovr seq).level = .normal
    · simp [hn]
    · simp [hn, Ne.symm hn, Cond.eCode]
  · have hsmoothed : (c.smoothed d code).level = c.level := by rw [Cond.smoothed_level, if_neg hu]
    rw [if_neg hu, hsmoothed]
    by_cases hsame : (c.evaluate d code ovr seq).level = c.level
    · simp [hsame]
    · simp [hsame, Ne.symm hsame, Cond.eCode]

/-! ### The maintenance schedule (R159, R161) -/

/-- The signals of one completion act on the items one after the other. -/
theorem pulls_ms (gs : List Pull) (s : State) :
    (gs.foldl pullOne s).ms = { s.ms with
      items := gs.foldl (fun ys g => ys.set g.item ((tget ys g.item).pull s.ms.sample g.item g).1) s.ms.items } := by
  induction gs generalizing s with
  | nil => rfl
  | cons g gs ih =>
    rw [List.foldl_cons, ih]
    simp [pullOne]

theorem recomputeMaint_ms {s : State} (h : s.jobs.maint = true) :
    (recomputeMaint s).ms = { s.ms with posted := maintCap s.ms.items } := by
  unfold recomputeMaint
  rw [if_pos h]
  split
  next c p hc =>
    split
    next hsame => rw [hc, ← hsame]
    next => rw [hc]; simp
  next hc _ => rw [hc]; simp
  next hc hp => rw [hc, ← hp]

theorem recomputeMaint_slots (s : State) :
    (recomputeMaint s).lb.slots.length = s.lb.slots.length ∧
      ∀ k, k ≠ 1 → tget (recomputeMaint s).lb.slots k = tget s.lb.slots k := by
  have hposted : ∀ act p, (boardChange [⟨1, act⟩] (s.setMs p)).lb.slots.length = s.lb.slots.length ∧
      ∀ k, k ≠ 1 → tget (boardChange [⟨1, act⟩] (s.setMs p)).lb.slots k = tget s.lb.slots k := fun act p =>
    ⟨by simp, fun k hk => boardChange_other _ _ k (by simpa using hk.symm)⟩
  unfold recomputeMaint; split
  · split
    · split
      · exact ⟨rfl, fun _ _ => rfl⟩
      · exact hposted _ _
    · exact hposted _ _
    · exact ⟨rfl, fun _ _ => rfl⟩
  · exact ⟨rfl, fun _ _ => rfl⟩

theorem takePulls_dropped {gs : List Pull} {s : State} (h : s.jobs.maint = false ∨ gs = []) : takePulls gs s = s := by
  unfold takePulls
  rw [if_neg]
  rcases h with h | h <;> simp [h]

theorem takePulls_taken {gs : List Pull} {s : State} (h : s.jobs.maint = true) (hg : gs ≠ []) :
    (takePulls gs s).ms = (recomputeMaint (gs.foldl pullOne s)).ms ∧
      (takePulls gs s).lb = (recomputeMaint (gs.foldl pullOne s)).lb := by
  unfold takePulls scheduleEvent
  rw [if_pos (by simp [h, hg])]
  dsimp only
  split <;> exact ⟨rfl, rfl⟩

/-- The signals reach no slot but MAINT. -/
theorem takePulls_slots (gs : List Pull) (s : State) :
    (takePulls gs s).lb.slots.length = s.lb.slots.length ∧
      ∀ k, k ≠ 1 → tget (takePulls gs s).lb.slots k = tget s.lb.slots k := by
  by_cases h : s.jobs.maint = false ∨ gs = []
  · rw [takePulls_dropped h]
    exact ⟨rfl, fun _ _ => rfl⟩
  · obtain ⟨hm, hg⟩ := not_or.1 h
    rw [(takePulls_taken (by simpa using hm) hg).2]
    simpa using recomputeMaint_slots (gs.foldl pullOne s)

/-! ### The watch takes a frame (R85, R87) -/

theorem coincEvent_tables (cause : EvalCause) (f : Cw → Cw) (s : State) :
    (coincEvent cause f s).cw.mech = (f s.cw).mech ∧ (coincEvent cause f s).cw.elec = (f s.cw).elec ∧
      (coincEvent cause f s).cw.config = (f s.cw).config := by
  unfold coincEvent; dsimp only; split <;> simp [Cw.evaluated, Cw.show]

theorem coincEvent_slots (cause : EvalCause) (f : Cw → Cw) (s : State) {k : Nat} (hk : k ≠ 2) :
    tget (coincEvent cause f s).lb.slots k = tget s.lb.slots k := by
  unfold coincEvent
  refine (boardChange_other _ _ k fun c hc => ?_).trans ?_
  · rw [coincPosting_slot hc]
    exact hk.symm
  · split <;> simp

theorem latchReport_keepsFlag (before : Cw) (s : State) (p : PortId) (f : Flag) (h : (s.rep.get p).hasFlag f = true) :
    ((latchReport before s).rep.get p).hasFlag f = true := by
  have hlatch : ∀ r : RepPort, ({ r with latch := true } : RepPort).hasFlag f = r.hasFlag f := fun r => by cases f <;> rfl
  unfold latchReport; split
  · simp [setCoincLatches, hlatch, h]
  · exact h

theorem coincEvent_keepsFlag (cause : EvalCause) (g : Cw → Cw) (s : State) (p : PortId) (f : Flag)
    (h : (s.rep.get p).hasFlag f = true) : ((coincEvent cause g s).rep.get p).hasFlag f = true := by
  unfold coincEvent
  refine (boardChange_hasFlag _ _ _ _).trans ?_
  split
  · exact latchReport_keepsFlag _ (s.setCw _) p f h
  · exact h

end Sys2Proof.Machine

/-! PROOFS. An evaluated completion as a whole (R35 to R40, R44, R50 to R52, R85, R159). -/

namespace Sys2Proof.Machine

/-! ### One line of the completion -/

/-- The condition that an evaluation leaves of a captured line (R44). -/
def CapturedLine.judgedAs (n seq : Nat) (g : Gcm) (l : CapturedLine) : Cond :=
  (tget g.conds l.line).evaluate (tget g.defs l.line) (codeOf n l.i l.q).1 (codeOf n l.i l.q).2 seq

section OneLine

variable (n seq : Nat) (g : Gcm) {l : CapturedLine}

theorem listed_judged (he : l.evaluable = true) : (l.listed n).judged g.defs seq g.conds = l.judgedAs n seq g := by
  simp [ListedLine.judged, CapturedLine.listed, he, CapturedLine.judgedAs, codeOf_eq]

theorem listed_held (he : ¬l.evaluable = true) : (l.listed n).judged g.defs seq g.conds = tget g.conds l.line := by
  simp [ListedLine.judged, CapturedLine.listed, he]

theorem listed_entries (l : CapturedLine) :
    (l.listed n).entries g.defs seq g.conds =
      if l.evaluable then levelChanges l.line (codeOf n l.i l.q).1 (tget g.conds l.line) (l.judgedAs n seq g) else [] := by
  unfold ListedLine.entries
  by_cases he : l.evaluable = true
  · rw [listed_judged n seq g he, if_pos he, CapturedLine.judgedAs, codeOf_eq, ← levelEntries_eq]
    simp [CapturedLine.listed, he]
  · simp [CapturedLine.listed, he]

/-- What a captured line hands the board (R51). -/
theorem listed_postings (l : CapturedLine) :
    (l.listed n).postings g.defs seq g.conds =
      if l.evaluable = true ∧ (l.judgedAs n seq g).level ≠ (tget g.conds l.line).level then
        [levelPosting l.line (tget g.defs l.line) (l.judgedAs n seq g).level] else [] := by
  unfold ListedLine.postings
  by_cases he : l.evaluable = true
  · rw [listed_judged n seq g he]
    by_cases hl : (l.judgedAs n seq g).level = (tget g.conds l.line).level
    · simp [hl]
    · simp [he, hl, Ne.symm hl]
  · rw [listed_held n seq g he]
    simp [he]

/-- The pull-forward signals of a captured line (R52). -/
theorem listed_pulls (l : CapturedLine) :
    (l.listed n).pulls g.defs seq g.conds =
      match (tget g.defs l.line).item with
      | some k =>
        if l.evaluable = true ∧ (l.judgedAs n seq g).level ≠ (tget g.conds l.line).level ∧
            ((l.judgedAs n seq g).level = .alert ∨ (l.judgedAs n seq g).level = .danger) then
          [⟨k, l.line, (l.judgedAs n seq g).level⟩] else []
      | none => [] := by
  unfold ListedLine.pulls levelPull
  rw [CapturedLine.listed_line]
  by_cases he : l.evaluable = true
  · rw [listed_judged n seq g he]
    by_cases hl : (l.judgedAs n seq g).level = (tget g.conds l.line).level
    · rw [if_pos hl.symm]
      split <;> simp [hl]
    · rw [if_neg (Ne.symm hl)]
      split <;> simp_all
  · rw [listed_held n seq g he, if_pos rfl]
    split <;> simp [he]

end OneLine

theorem Frame.mem_listed {f : Frame} {a : ListedLine} : a ∈ f.listed ↔ ∃ l ∈ f.lines, l.listed f.length = a :=
  List.mem_map

/-! ### The completion as a whole -/

/-- The watch's cause of an evaluation by a frame (R87). -/
def frameCause : Side → EvalCause
  | .hs => .gearHs
  | .ls => .gearLs

/-- The watch with the entries of a frame's lines (R85). -/
def Cw.taken (sd : Side) (v : Nat) (ls : List ListedLine) (c : Cw) : Cw := { c with mech := ls.foldl (mechTake sd v) c.mech }

/-- What reaches the watch: the state after board and schedule have taken the lines. -/
def linesTaken (sd : Side) (f : Frame) (s : State) : State := takePulls (evaluation sd f s).2.pulls (linesJudged sd f s)

section Completion

variable (sd : Side) (f : Frame) (s : State)

theorem evaluateFrame_watch :
    evaluateFrame sd f s = startPublish 4 (sourceRecord sd :: f.lines.map (·.line)) s
      (coincEvent (frameCause sd) (Cw.taken sd (evaluatedEngine sd f s).vFrame f.listed) (linesTaken sd f s)) := by
  cases sd <;> rfl

@[simp] theorem linesTaken_frame :
    (linesTaken sd f s).jobs = s.jobs ∧ (linesTaken sd f s).cw = s.cw ∧ (linesTaken sd f s).cc = s.cc ∧
      (linesTaken sd f s).ocr = (linesJudged sd f s).ocr ∧ (linesTaken sd f s).gcm = (linesJudged sd f s).gcm := by
  simp [linesTaken]

theorem evaluateFrame_ocr :
    (evaluateFrame sd f s).ocr = { s.ocr.setEngine sd (evaluatedEngine sd f s) with
      results := storeResults sd f.length (evaluatedEngine sd f s).seq f.lines s.ocr.results } := by
  rw [evaluateFrame_watch]
  simp

theorem evaluateFrame_gcm :
    (evaluateFrame sd f s).gcm = { s.gcm.setDiscards sd 0 with conds := (evaluation sd f s).1 } := by
  rw [evaluateFrame_watch]
  simp

theorem evaluateFrame_ms : (evaluateFrame sd f s).ms = (linesTaken sd f s).ms := by
  rw [evaluateFrame_watch]
  simp

theorem evaluateFrame_tables :
    (evaluateFrame sd f s).cw.mech = f.listed.foldl (mechTake sd (evaluatedEngine sd f s).vFrame) s.cw.mech ∧
      (evaluateFrame sd f s).cw.elec = s.cw.elec ∧ (evaluateFrame sd f s).cw.config = s.cw.config := by
  obtain ⟨hmech, helec, hconfig⟩ := coincEvent_tables (frameCause sd)
    (Cw.taken sd (evaluatedEngine sd f s).vFrame f.listed) (linesTaken sd f s)
  rw [(linesTaken_frame sd f s).2.1] at hmech helec hconfig
  rw [evaluateFrame_watch]
  exact ⟨hmech, helec, hconfig⟩

/-! The reports of the completion. -/

theorem resultsStored_reported : Reported s (resultsStored sd f s) :=
  Reported.trans (t := s.setOcr _) (by exact reported_of_eq rfl rfl rfl rfl) (reported_raiseIf _ _ _)

theorem resultsStored_badOrder (h : ∃ l ∈ f.lines, l.evaluable = false) : FlagInEveryCopy .badOrder (resultsStored sd f s) := by
  intro p
  unfold resultsStored State.raiseIf
  rw [if_pos (by simpa using h)]
  exact State.raise_self _ _ _

theorem logs_gcmEvaluated (seq : Nat) (ls : List ListedLine) :
    Logs (takeLines s.gcm.defs seq ls s.gcm.conds).2.entries s (gcmEvaluated sd seq ls s) :=
  Logs.congr_left (s := s.setGcm _) (logs_journalAll _ _) rfl rfl

theorem gcmEvaluated_reported (seq : Nat) (ls : List ListedLine) : Reported s (gcmEvaluated sd seq ls s) :=
  Reported.trans (t := s.setGcm _) (by exact reported_of_eq rfl rfl rfl rfl) (reported_journalAll _ _)

theorem linesTaken_reported : Reported (resultsStored sd f s) (linesTaken sd f s) :=
  (gcmEvaluated_reported _ _ _ _).trans ((reported_boardChange _ _).trans (reported_takePulls _ _))

/-- The LEVEL entries are the first of the completion. -/
theorem logs_evaluateFrame : ∃ rest, Logs ((evaluation sd f s).2.entries ++ rest) s (evaluateFrame sd f s) := by
  have hstored : Logs [] s (resultsStored sd f s) := by
    unfold resultsStored State.raiseIf
    split <;> exact logs_nil rfl rfl
  have hentries := logs_gcmEvaluated sd (resultsStored sd f s) (evaluatedEngine sd f s).seq f.listed
  rw [(resultsStored_frame sd f s).2.1] at hentries
  obtain ⟨rest, hrest⟩ : Logged (gcmEvaluated sd (evaluatedEngine sd f s).seq f.listed (resultsStored sd f s))
      (evaluateFrame sd f s) := by
    rw [evaluateFrame_watch]
    exact (((logged_refl _).boardChange _).takePulls _).coincEvent _ _ |>.startPublish _ _ _
  exact ⟨rest, (hstored.trans hentries).trans hrest⟩

theorem evaluateFrame_keepsFlag {p : PortId} {g : Flag} (h : ((resultsStored sd f s).rep.get p).hasFlag g = true) :
    ((evaluateFrame sd f s).rep.get p).hasFlag g = true := by
  rw [evaluateFrame_watch]
  exact coincEvent_keepsFlag _ _ _ _ _ ((linesTaken_reported sd f s).flags p g h)

/-! The slots of the board. -/

theorem evaluation_posting_slot {c : SlotChange} (h : LinesOrdered f.lines) (hc : c ∈ (evaluation sd f s).2.postings) :
    ∃ l ∈ f.lines, l.evaluable = true ∧
      (l.judgedAs f.length (evaluatedEngine sd f s).seq s.gcm).level ≠ (tget s.gcm.conds l.line).level ∧ c.slot = 4 + l.line := by
  unfold evaluation at hc
  rw [takeLines_handed _ h.distinct] at hc
  obtain ⟨a, ha, hca⟩ := List.mem_flatMap.1 hc
  obtain ⟨l, hl, rfl⟩ := Frame.mem_listed.1 ha
  have hslot := ListedLine.postings_slot hca
  rw [listed_postings] at hca
  split at hca
  next hchange => exact ⟨l, hl, hchange.1, hchange.2, hslot⟩
  next => cases hca

/-- Slots MAINT and COINC aside, only the slots of lines whose level changes move. -/
theorem evaluateFrame_slot_stands (h : LinesOrdered f.lines) {k : Nat} (h1 : k ≠ 1) (h2 : k ≠ 2)
    (hk : ∀ l ∈ f.lines, l.evaluable = true →
      (l.judgedAs f.length (evaluatedEngine sd f s).seq s.gcm).level ≠ (tget s.gcm.conds l.line).level → k ≠ 4 + l.line) :
    tget (evaluateFrame sd f s).lb.slots k = tget s.lb.slots k := by
  rw [evaluateFrame_watch]
  refine (coincEvent_slots _ _ _ h2).trans (((takePulls_slots _ _).2 k h1).trans ?_)
  refine (boardChange_other _ _ k fun c hc hck => ?_).trans (by simp)
  obtain ⟨l, hl, he, hchange, hslot⟩ := evaluation_posting_slot sd f s h hc
  exact hk l hl he hchange (hck.symm.trans hslot)

/-- The slot of a line whose level changes says the new level (R51). -/
theorem evaluateFrame_slot_says (h : LinesOrdered f.lines) (hs : s.lb.slots.length = 28) {l : CapturedLine} (hl : l ∈ f.lines)
    (he : l.evaluable = true)
    (hchange : (l.judgedAs f.length (evaluatedEngine sd f s).seq s.gcm).level ≠ (tget s.gcm.conds l.line).level) :
    SlotSays (tget s.gcm.defs l.line) (l.judgedAs f.length (evaluatedEngine sd f s).seq s.gcm).level
      (tget (evaluateFrame sd f s).lb.slots (4 + l.line)) := by
  have hline := h.1 l hl
  rw [(evaluateFrame_stands sd f s).gear _ (by omega)]
  refine boardChange_levelPosting (by simp [hs]; omega) ?_
  have hfilter := takeLines_postings_of_line (defs := s.gcm.defs) (seq := (evaluatedEngine sd f s).seq) (conds := s.gcm.conds)
    h.distinct (Frame.mem_listed.2 ⟨l, hl, rfl⟩)
  rw [listed_postings, if_pos ⟨he, hchange⟩] at hfilter
  exact hfilter

/-- Up to the watch slot COINC stands, and the board keeps its slots. -/
theorem linesTaken_slots (h : LinesOrdered f.lines) :
    (linesTaken sd f s).lb.slots.length = s.lb.slots.length ∧ tget (linesTaken sd f s).lb.slots 2 = tget s.lb.slots 2 := by
  obtain ⟨hlen, hother⟩ := takePulls_slots (evaluation sd f s).2.pulls (linesJudged sd f s)
  refine ⟨hlen.trans (by simp [linesJudged, gcmEvaluated]), (hother 2 (by decide)).trans ?_⟩
  refine (boardChange_other _ _ 2 fun c hc hck => ?_).trans (by simp)
  obtain ⟨l, -, -, -, hslot⟩ := evaluation_posting_slot sd f s h hc
  omega

/-! The watch (R85, R87). -/

theorem evaluateFrame_evaluates (h : LinesOrdered f.lines) (hc : s.jobs.coinc = true) :
    Evaluated (frameCause sd) s (evaluateFrame sd f s) := by
  have hevent := coincEvent_evaluated (cause := frameCause sd)
    (f := Cw.taken sd (evaluatedEngine sd f s).vFrame f.listed) (s := linesTaken sd f s) (by simp [hc]) rfl
  obtain ⟨hlen, hslot⟩ := linesTaken_slots sd f s h
  rw [evaluateFrame_watch]
  exact hevent.congr (by simp) ((resultsStored_reported sd f s).trans (linesTaken_reported sd f s)) (by simp) hlen hslot
    (reported_of_eq rfl rfl rfl rfl) rfl rfl rfl

theorem evaluateFrame_takesOnly (h : LinesOrdered f.lines) (hc : s.jobs.coinc = false) : TakenOnly s (evaluateFrame sd f s) := by
  have hevent := coincEvent_takenOnly (cause := frameCause sd)
    (f := Cw.taken sd (evaluatedEngine sd f s).vFrame f.listed) (s := linesTaken sd f s) (by simp [hc]) rfl
  obtain ⟨-, hslot⟩ := linesTaken_slots sd f s h
  rw [evaluateFrame_watch]
  exact hevent.congr ((resultsStored_reported sd f s).trans (linesTaken_reported sd f s)) (by simp) hslot
    (reported_of_eq rfl rfl rfl rfl) rfl rfl

/-! The lines. -/

theorem evaluateFrame_cond (h : LinesOrdered f.lines) (hlen : s.gcm.conds.length = 24) {l : CapturedLine} (hl : l ∈ f.lines)
    (he : l.evaluable = true) :
    tget (evaluateFrame sd f s).gcm.conds l.line = l.judgedAs f.length (evaluatedEngine sd f s).seq s.gcm := by
  rw [evaluateFrame_gcm, ← listed_judged _ _ _ he]
  exact takeLines_listed h.distinct (Frame.mem_listed.2 ⟨l, hl, rfl⟩) (by rw [hlen]; exact h.1 l hl)

theorem evaluateFrame_cond_stands {k : Nat} (hk : ∀ l ∈ f.lines, l.evaluable = true → l.line ≠ k) :
    tget (evaluateFrame sd f s).gcm.conds k = tget s.gcm.conds k := by
  rw [evaluateFrame_gcm]
  refine takeLines_other fun a ha hcode => ?_
  obtain ⟨l, hl, rfl⟩ := Frame.mem_listed.1 ha
  exact hk l hl (by simpa [CapturedLine.listed_code] using hcode)

theorem evaluateFrame_mech (h : LinesOrdered f.lines) (hlen : s.cw.mech.length = 24) {l : CapturedLine} (hl : l ∈ f.lines)
    (he : l.evaluable = true) :
    tget (evaluateFrame sd f s).cw.mech l.line =
      some ⟨sd, l.kq, (codeOf f.length l.i l.q).1, (codeOf f.length l.i l.q).2, (evaluatedEngine sd f s).vFrame,
        mechFrequency sd l.kq (evaluatedEngine sd f s).vFrame⟩ := by
  rw [(evaluateFrame_tables sd f s).1]
  refine (mechTaken_listed h.distinct (Frame.mem_listed.2 ⟨l, hl, rfl⟩) (by rw [hlen]; exact h.1 l hl)).trans ?_
  simp [mechMade, CapturedLine.listed, he, codeOf_eq]

theorem evaluateFrame_mech_stands {k : Nat} (hk : ∀ l ∈ f.lines, l.evaluable = true → l.line ≠ k) :
    tget (evaluateFrame sd f s).cw.mech k = tget s.cw.mech k := by
  rw [(evaluateFrame_tables sd f s).1]
  refine mechTaken_other (fun a ha hcode => ?_) _
  obtain ⟨l, hl, rfl⟩ := Frame.mem_listed.1 ha
  exact hk l hl (by simpa [CapturedLine.listed_code] using hcode)

theorem evaluateFrame_result (h : LinesOrdered f.lines) (hlen : s.ocr.results.length = 24) {l : CapturedLine} (hl : l ∈ f.lines) :
    tget (evaluateFrame sd f s).ocr.results l.line =
      if l.evaluable then
        ⟨.evaluated, (codeOf f.length l.i l.q).1, (codeOf f.length l.i l.q).2, l.i, l.q, sd, (evaluatedEngine sd f s).seq⟩
      else { tget s.ocr.results l.line with kind := .notEvaluable, source := sd, seq := (evaluatedEngine sd f s).seq } := by
  rw [evaluateFrame_ocr, codeOf_eq]
  exact storeResults_listed h hl (by rw [hlen]; exact h.1 l hl)

theorem evaluateFrame_result_stands {k : Nat} (hk : ∀ l ∈ f.lines, l.line ≠ k) :
    tget (evaluateFrame sd f s).ocr.results k = tget s.ocr.results k := by
  rw [evaluateFrame_ocr]
  exact storeResults_other hk _

end Completion

end Sys2Proof.Machine

/-! PROOFS. The frame engine at a revolution event (RevolutionStartsAFrame). -/

namespace Sys2Proof.Machine

/-! ### Frame start (R25, R26) -/

/-- The tests of R25, for a side that is TRACKING. -/
theorem mayStart_iff {sd : Side} {v : Nat} {s : State} (h : (s.sau.side sd).state = .tracking) :
    mayStart s sd v = true ↔
      s.jobs.gear = true ∧ (s.ocr.config.of sd).2.1 ≤ v ∧ v ≤ (s.ocr.config.of sd).2.2 ∧ s.ocr.link.up = true ∧
        ∃ n, n < 24 ∧ lineOf s.gcm.defs sd n = true := by
  simp [mayStart, h, and_assoc]

theorem Ocr.setEngine_setEngine (x : Ocr) (sd : Side) (a b : Engine) : (x.setEngine sd a).setEngine sd b = x.setEngine sd b := by
  cases sd <;> rfl

/-- A test as a start changes the engine of its source alone, and only when R25 holds. -/
theorem tryStart_ocr (sd : Side) (v : Nat) (s : State) :
    (tryStart sd v s).ocr =
      if (s.ocr.engine sd).collecting = false ∧ mayStart s sd v = true then
        s.ocr.setEngine sd { s.ocr.engine sd with collecting := true, frame := startFrame s sd }
      else s.ocr := by
  unfold tryStart
  simp only [Bool.and_eq_true, Bool.not_eq_true']
  split <;> rfl

/-- What the start tests read. -/
structure SameStart (s t : State) : Prop where
  sau : t.sau = s.sau
  jobs : t.jobs = s.jobs
  defs : t.gcm.defs = s.gcm.defs
  config : t.ocr.config = s.ocr.config
  link : t.ocr.link = s.ocr.link

theorem SameStart.mayStart {s t : State} (h : SameStart s t) (sd : Side) (v : Nat) : mayStart t sd v = mayStart s sd v := by
  simp only [Machine.mayStart, h.sau, h.jobs, h.defs, h.config, h.link]

theorem SameStart.startFrame {s t : State} (h : SameStart s t) (sd : Side) : startFrame t sd = startFrame s sd := by
  simp only [Machine.startFrame, h.sau, h.defs, h.config]

/-- The revolution that ends a frame is tested as a start (log entry 14). -/
theorem tryStart_leaves {sd : Side} {v : Nat} {s t : State} {x : Ocr} {e : Engine} (hsame : SameStart s t)
    (hx : t.ocr = x.setEngine sd e) (he : e.collecting = false) :
    (¬mayStart s sd v = true → (tryStart sd v t).ocr = x.setEngine sd e) ∧
      (mayStart s sd v = true →
        (tryStart sd v t).ocr = x.setEngine sd { e with collecting := true, frame := startFrame s sd }) := by
  have hengine : t.ocr.engine sd = e := by rw [hx, Ocr.engine_setEngine, if_pos rfl]
  rw [tryStart_ocr, hengine, hsame.mayStart, hsame.startFrame, hx, Ocr.setEngine_setEngine]
  exact ⟨fun h => if_neg fun h' => h h'.2, fun h => if_pos ⟨he, h⟩⟩

/-! ### A discarded completion of a TRACKING side (R31, R53, R54) -/

section Discard

variable {sd : Side} {s : State}

/-- The discard count after a counted discard (R54). -/
def discardsAfter (sd : Side) (s : State) : Nat := satAdd 65535 (s.gcm.discards sd) 1

theorem discardAs_gcm (h : (s.sau.side sd).state = .tracking) (cause : DiscardCause) (f : Frame) :
    (discardAs sd cause f s).gcm =
      { s.gcm.setDiscards sd (discardsAfter sd s) with conds := markStale s.gcm.conds (staleNow sd s) } :=
  (gcmDiscarded_gcm sd _).trans (if_pos (by simp [discardCounted, h]))

theorem staleNow_eq (h : (s.sau.side sd).state = .tracking) (hd : 32 ≤ discardsAfter sd s) :
    staleNow sd s = newlyStale s.gcm sd :=
  if_pos (by simpa [discardCounted, h, discardsAfter] using hd)

theorem mem_staleNow (h : (s.sau.side sd).state = .tracking) (k : Nat) :
    k ∈ staleNow sd s ↔
      32 ≤ discardsAfter sd s ∧ k < 24 ∧ lineOf s.gcm.defs sd k = true ∧ (tget s.gcm.conds k).stale = false := by
  by_cases hd : 32 ≤ discardsAfter sd s
  · rw [staleNow_eq h hd]
    simp [newlyStale, setWhere_mem, lineOf, hd, and_assoc]
  · have hnone : staleNow sd s = [] := if_neg (by simpa [discardCounted, h, discardsAfter] using hd)
    simp [hnone, hd]

/-- A line that is not named keeps its condition. -/
theorem tget_markStale_other {conds : List Cond} {ns : List Nat} {k : Nat} (h : k ∉ ns) :
    tget (markStale conds ns) k = tget conds k := by
  unfold markStale
  refine foldl_place_other id (fun xs n k hne => tget_tmod_other xs _ hne.symm) (fun n hn hnk => h ?_) conds
  exact hnk ▸ hn

/-- At the thirty-second counted discard and from then on every line of the source is STALE. -/
theorem discardAs_turnsStale (h : (s.sau.side sd).state = .tracking) (hlen : s.gcm.conds.length = 24) (cause : DiscardCause)
    (f : Frame) {k : Nat} (hd : 32 ≤ discardsAfter sd s) (hk : lineOf s.gcm.defs sd k = true) (h24 : k < 24) :
    tget (discardAs sd cause f s).gcm.conds k = { tget s.gcm.conds k with stale := true } := by
  rw [discardAs_gcm h]
  refine (tget_markStale _ _ _ (by rw [hlen]; exact h24)).trans ?_
  split
  · rfl
  next hno =>
    have hstale : (tget s.gcm.conds k).stale = true := by
      simpa using mt (fun hfalse => (mem_staleNow h k).2 ⟨hd, h24, hk, hfalse⟩) hno
    rw [← hstale]

theorem discardAs_staysAsItWas (h : (s.sau.side sd).state = .tracking) (cause : DiscardCause) (f : Frame) {k : Nat}
    (hk : ¬(32 ≤ discardsAfter sd s ∧ lineOf s.gcm.defs sd k = true)) :
    tget (discardAs sd cause f s).gcm.conds k = tget s.gcm.conds k := by
  rw [discardAs_gcm h]
  exact tget_markStale_other fun hmem =>
    have ⟨hd, _, hline, _⟩ := (mem_staleNow h k).1 hmem
    hk ⟨hd, hline⟩

/-- The STALE entry of R54. -/
def staleEntry (sd : Side) (n : Nat) : EntryBody :=
  { source := match sd with | .hs => .gcmHs | .ls => .gcmLs, kind := .stale, value := n }

theorem discardAs_reports (h : (s.sau.side sd).state = .tracking) (cause : DiscardCause) (f : Frame)
    (hne : staleNow sd s ≠ []) :
    FlagInEveryCopy .staleLines (discardAs sd cause f s) ∧
      Logs [staleEntry sd (staleNow sd s).length] s (discardAs sd cause f s) := by
  obtain ⟨g, hg⟩ : ∃ g, discardAs sd cause f s =
      startPublish 4 (sourceRecord sd :: staleNow sd s) s
        (((State.setGcm (s.setOcr (s.ocr.setEngine sd ((s.ocr.engine sd).discard cause f))) g).raise .staleLines).journal
          (staleEntry sd (staleNow sd s).length)) := by
    refine ⟨{ s.gcm.setDiscards sd (discardsAfter sd s) with conds := markStale s.gcm.conds (staleNow sd s) }, ?_⟩
    unfold discardAs publishing
    refine congrArg _ ((if_pos (by simp [discardCounted, h])).trans (if_neg ?_))
    rw [List.isEmpty_iff]
    exact hne
  obtain ⟨z, hz⟩ : ∃ z, (State.setGcm (s.setOcr (s.ocr.setEngine sd ((s.ocr.engine sd).discard cause f))) g).raise
      .staleLines = z := ⟨_, rfl⟩
  have hraised : Logs [] s z := hz ▸ logs_nil rfl rfl
  rw [hg, hz]
  refine ⟨fun p => ?_, (hraised.trans (logs_journal _ z)).congr rfl rfl⟩
  refine (State.journal_hasFlag _ _ _ _).trans ?_
  rw [← hz]
  exact State.raise_self _ _ _

end Discard

/-! ### What a revolution does to a COLLECTING engine (R27, R30) -/

/-- How a COLLECTING frame ends at a revolution of speed `v`, `f` counting it: not EVALUATED by the first test that fails (R27, R30). -/
def Frame.ends (v : Nat) (f : Frame) : Option DiscardCause :=
  if v < f.vMin ∨ f.vMax < v then some .speedBand else f.failure

section Revolution

variable {sd : Side} {p v : Nat} {s : State}

theorem revolution_waiting (h : (s.ocr.engine sd).collecting = false) :
    revolutionToFrames sd p v s = tryStart sd v s := by
  simp [revolutionToFrames, Engine.current, h]

theorem revolution_goesOn (h : (s.ocr.engine sd).collecting = true) {f : Frame}
    (hf : (s.ocr.engine sd).frame.revolve p = f) (hin : ¬(v < f.vMin ∨ f.vMax < v)) (hr : f.revs ≠ f.r) :
    revolutionToFrames sd p v s = setFrame sd f s := by
  simp [revolutionToFrames, Engine.current, h, hf, hin, hr]

theorem revolution_discards (h : (s.ocr.engine sd).collecting = true) {f : Frame}
    (hf : (s.ocr.engine sd).frame.revolve p = f) (hend : (v < f.vMin ∨ f.vMax < v) ∨ f.revs = f.r) {cause : DiscardCause}
    (hcause : f.ends v = some cause) : revolutionToFrames sd p v s = tryStart sd v (discardAs sd cause f s) := by
  unfold Frame.ends at hcause
  simp only [revolutionToFrames, Engine.current, h, if_true, hf]
  split at hcause
  next hout =>
    rw [if_pos hout]
    injection hcause with hcause
    rw [hcause]
  next hin => rw [if_neg hin, if_pos (hend.resolve_left hin), hcause]

theorem revolution_evaluates (h : (s.ocr.engine sd).collecting = true) {f : Frame}
    (hf : (s.ocr.engine sd).frame.revolve p = f) (hin : ¬(v < f.vMin ∨ f.vMax < v)) (hr : f.revs = f.r)
    (hpass : f.ends v = none) : revolutionToFrames sd p v s = tryStart sd v (evaluateFrame sd f s) := by
  have hfailure : f.failure = none := (if_neg hin).symm.trans hpass
  simp [revolutionToFrames, Engine.current, h, hf, hin, hr, hfailure]

end Revolution

end Sys2Proof.Machine

/-! PROOFS. RevolutionStartsAFrame. -/

namespace Sys2Proof.Machine

/-- The start tests of R25 read the state before the revolution. -/
theorem mayStart_aside {sd : Side} {v : Nat} {u w : State} (hw : Aside u w) (h : (w.sau.side sd).state = .tracking) :
    mayStart w sd v = true ↔
      u.jobs.gear = true ∧ (u.ocr.config.of sd).2.1 ≤ v ∧ v ≤ (u.ocr.config.of sd).2.2 ∧ u.ocr.link.up = true ∧
        ∃ n, n < 24 ∧ lineOf u.gcm.defs sd n = true := by
  rw [mayStart_iff h, hw.jobs, hw.ocr, hw.gcm]

theorem startFrame_aside {sd : Side} {u w : State} (hw : Aside u w) (ha : w.sau.active = u.sau.active) :
    startFrame w sd = startFrame u sd := by
  simp only [startFrame, ha, hw.ocr, hw.gcm]

/-- A revolution that finds the engine WAITING. -/
theorem revolution_says_waiting {sd : Side} {p v : Nat} {u w t : State} (hw : Aside u w)
    (ht : Aside (revolutionToFrames sd p v w) t) (ha : w.sau.active = u.sau.active)
    (h : (u.ocr.engine sd).collecting = false) :
    t.gcm = u.gcm ∧ t.cw = u.cw ∧ t.lb = u.lb ∧ t.ms = u.ms ∧ (¬mayStart w sd v = true → t.ocr = u.ocr) ∧
      (mayStart w sd v = true →
        t.ocr = u.ocr.setEngine sd { u.ocr.engine sd with collecting := true, frame := startFrame u sd }) := by
  have hwait : (w.ocr.engine sd).collecting = false := by rw [hw.ocr]; exact h
  rw [revolution_waiting hwait] at ht
  have hocr := ht.ocr
  rw [tryStart_ocr, startFrame_aside hw ha, hw.ocr] at hocr
  refine ⟨?_, ?_, ?_, ?_, fun hno => ?_, fun hyes => ?_⟩
  · exact ht.gcm.trans ((tryStart_frame sd v w).2.2.2.1.trans hw.gcm)
  · exact ht.cw.trans ((by simp : (tryStart sd v w).cw = w.cw).trans hw.cw)
  · exact ht.lb.trans ((by simp : (tryStart sd v w).lb = w.lb).trans hw.lb)
  · exact ht.ms.trans ((by simp : (tryStart sd v w).ms = w.ms).trans hw.ms)
  · rw [hocr, if_neg fun h' => hno h'.2]
  · rw [hocr, if_pos ⟨h, hyes⟩]

/-- A completion whose state later operations beside it have left: what stands of it, the engines aside. -/
structure Completed (z t : State) : Prop where
  gcm : t.gcm = z.gcm
  cw : t.cw = z.cw
  lb : t.lb = z.lb
  ms : t.ms = z.ms
  results : t.ocr.results = z.ocr.results
  reported : Reported z t

theorem completed_tryStart {sd : Side} {v : Nat} {z t : State} (ht : Aside (tryStart sd v z) t) : Completed z t where
  gcm := ht.gcm.trans (by simp)
  cw := ht.cw.trans (by simp)
  lb := ht.lb.trans (by simp)
  ms := ht.ms.trans (by simp)
  results := by
    rw [ht.ocr, tryStart_ocr]
    split <;> simp
  reported := Reported.trans (reported_of_eq (by simp) (by simp) (by simp) (by simp)) ht.reported

/-- A revolution that a COLLECTING frame counts and goes on. -/
theorem revolution_says_goesOn {sd : Side} {p v : Nat} {u w t : State} {f : Frame} (hw : Aside u w)
    (ht : Aside (revolutionToFrames sd p v w) t) (h : (u.ocr.engine sd).collecting = true)
    (hf : (u.ocr.engine sd).frame.revolve p = f) (hin : ¬(v < f.vMin ∨ f.vMax < v)) (hr : f.revs ≠ f.r) :
    t.ocr = u.ocr.setEngine sd { u.ocr.engine sd with frame := f } ∧ t.gcm = u.gcm ∧ t.cw = u.cw ∧ t.lb = u.lb ∧
      t.ms = u.ms := by
  rw [revolution_goesOn (by rw [hw.ocr]; exact h) (by rw [hw.ocr]; exact hf) hin hr] at ht
  refine ⟨?_, ht.gcm.trans hw.gcm, ht.cw.trans hw.cw, ht.lb.trans hw.lb, ht.ms.trans hw.ms⟩
  rw [ht.ocr, ← hw.ocr]
  rfl

/-- The engine after a DISCARDED completion of a frame that has counted a revolution (R31). -/
theorem Engine.discard_counted {cause : DiscardCause} {f : Frame} (h : f.revs ≠ 0) (e : Engine) :
    e.discard cause f =
      { e with
        collecting := false
        frame := .idle
        seq := (e.seq + 1) % 65536
        last := .discarded cause
        pMean := f.pMean
        lastMinP := f.minP
        lastMaxP := f.maxP
        lastReuse := f.reuse } :=
  if_neg h

/-- The engines after a discarded completion and its test as a start. -/
theorem revolution_leaves_discarded {sd : Side} {v : Nat} {u w t : State} {f : Frame} {cause : DiscardCause} (hw : Aside u w)
    (ha : w.sau.active = u.sau.active) (ht : Aside (tryStart sd v (discardAs sd cause f w)) t) :
    (¬mayStart w sd v = true → t.ocr = u.ocr.setEngine sd ((u.ocr.engine sd).discard cause f)) ∧
      (mayStart w sd v = true →
        t.ocr = u.ocr.setEngine sd
          { (u.ocr.engine sd).discard cause f with collecting := true, frame := startFrame u sd }) := by
  have hsame : SameStart w (discardAs sd cause f w) :=
    ⟨by simp, by simp, (discardAs_levels sd cause f w).1, by simp [discardAs_ocr], by simp [discardAs_ocr]⟩
  rw [ht.ocr, ← startFrame_aside hw ha, ← hw.ocr]
  exact tryStart_leaves hsame (discardAs_ocr sd cause f w) (Engine.discard_waits _ _ _).1

/-- The engines after an evaluated completion and its test as a start. -/
theorem revolution_leaves_evaluated {sd : Side} {v : Nat} {u w t : State} {f : Frame} (hw : Aside u w)
    (ha : w.sau.active = u.sau.active) (ht : Aside (tryStart sd v (evaluateFrame sd f w)) t) :
    (¬mayStart w sd v = true →
        t.ocr = ({ u.ocr with results := t.ocr.results } : Ocr).setEngine sd ((u.ocr.engine sd).evaluated sd f)) ∧
      (mayStart w sd v = true →
        t.ocr = ({ u.ocr with results := t.ocr.results } : Ocr).setEngine sd
          { (u.ocr.engine sd).evaluated sd f with collecting := true, frame := startFrame u sd }) := by
  have hocr := evaluateFrame_ocr sd f w
  have hsame : SameStart w (evaluateFrame sd f w) :=
    ⟨by simp, by simp, by rw [evaluateFrame_gcm]; simp, by rw [hocr]; simp, by rw [hocr]; simp⟩
  have hresults := (completed_tryStart ht).results
  have hset : (evaluateFrame sd f w).ocr =
      ({ w.ocr with results := (evaluateFrame sd f w).ocr.results } : Ocr).setEngine sd ((w.ocr.engine sd).evaluated sd f) := by
    rw [hocr]
    cases sd <;> rfl
  rw [hresults, ht.ocr, ← startFrame_aside hw ha, ← hw.ocr]
  exact tryStart_leaves hsame hset (Engine.evaluated_waits _ _ _).1

/-! ### What an evaluated completion hands on, read from the captured lines -/

theorem evaluation_entries {sd : Side} {f : Frame} {s : State} (h : LinesOrdered f.lines) :
    (evaluation sd f s).2.entries = f.lines.flatMap (fun l =>
      if l.evaluable then
        levelChanges l.line (codeOf f.length l.i l.q).1 (tget s.gcm.conds l.line)
          (l.judgedAs f.length (evaluatedEngine sd f s).seq s.gcm)
      else []) := by
  unfold evaluation
  rw [takeLines_handed _ h.distinct, Frame.listed, List.flatMap_map]
  exact congrArg (List.flatMap · _) (funext fun l => listed_entries _ _ _ l)

theorem evaluation_pulls {sd : Side} {f : Frame} {s : State} (h : LinesOrdered f.lines) :
    (evaluation sd f s).2.pulls = f.lines.flatMap (fun l =>
      match (tget s.gcm.defs l.line).item with
      | some k =>
        if l.evaluable = true ∧
            (l.judgedAs f.length (evaluatedEngine sd f s).seq s.gcm).level ≠ (tget s.gcm.conds l.line).level ∧
            ((l.judgedAs f.length (evaluatedEngine sd f s).seq s.gcm).level = .alert ∨
              (l.judgedAs f.length (evaluatedEngine sd f s).seq s.gcm).level = .danger) then
          [(⟨k, l.line, (l.judgedAs f.length (evaluatedEngine sd f s).seq s.gcm).level⟩ : Pull)] else []
      | none => []) := by
  unfold evaluation
  rw [takeLines_handed _ h.distinct, Frame.listed, List.flatMap_map, List.flatMap_map, List.flatMap_map]
  exact congrArg (List.flatMap · _) (funext fun l => listed_pulls _ _ _ l)

/-- The schedule after the signals of an evaluated completion (R159, R161). -/
theorem evaluateFrame_schedule (sd : Side) (f : Frame) (s : State) :
    ((s.jobs.maint = false ∨ (evaluation sd f s).2.pulls = []) → (evaluateFrame sd f s).ms = s.ms) ∧
      (s.jobs.maint = true → (evaluation sd f s).2.pulls ≠ [] →
        (evaluateFrame sd f s).ms.items = (evaluation sd f s).2.pulls.foldl
            (fun ys g => ys.set g.item ((tget ys g.item).pull s.ms.sample g.item g).1) s.ms.items ∧
          (evaluateFrame sd f s).ms.sample = s.ms.sample ∧
          (evaluateFrame sd f s).ms.posted = maintCap (evaluateFrame sd f s).ms.items) := by
  obtain ⟨-, -, -, -, -, hms, hjobs⟩ := linesJudged_frame sd f s
  rw [evaluateFrame_ms]
  unfold linesTaken
  refine ⟨fun h => ?_, fun hm hg => ?_⟩
  · rw [takePulls_dropped (by rw [hjobs]; exact h), hms]
  · rw [(takePulls_taken (by rw [hjobs]; exact hm) hg).1, recomputeMaint_ms (by simp [hm]), pulls_ms, hms]
    exact ⟨rfl, rfl, rfl⟩

/-! ### RevolutionStartsAFrame -/

/-- Settles O7: the period closes, the revolution takes the engine through one of its branches, and what follows leaves it. -/
theorem revolutionStartsAFrame : Obligations.RevolutionStartsAFrame := by
  unfold Obligations.RevolutionStartsAFrame
  intro sd dt s u x e c vMin vMax r fs names fresh idle hf hs htimed
  obtain ⟨v, w, t, hexec, htouch, hw, hlogs, htracking, hactive, hspeed, ht⟩ := exec_revolution hf hs htimed
  have hMin : (u.ocr.config.of sd).2.1 = vMin := by cases sd <;> rfl
  have hMax : (u.ocr.config.of sd).2.2 = vMax := by cases sd <;> rfl
  have hfresh : startFrame u sd = fresh := by cases sd <;> rfl
  have hstarts : mayStart w sd v = true ↔
      u.jobs.gear = true ∧ vMin ≤ v ∧ v ≤ vMax ∧ u.ocr.link.up = true ∧ ∃ n, n < 24 ∧ names n = true := by
    rw [mayStart_aside hw htracking, hMin, hMax]
    exact Iff.rfl
  refine ⟨t, hexec, htouch, ?_⟩
  rw [hspeed]
  refine ⟨fun hwait => ?_, fun hcollecting hframes => ?_⟩
  · obtain ⟨hgcm, hcw, hlb, hms, hno, hyes⟩ := revolution_says_waiting hw ht hactive hwait
    rw [hstarts, hfresh] at hyes
    rw [hstarts] at hno
    exact ⟨hgcm, hcw, hlb, hms, hno, hyes⟩
  · intro p f mean n out ends waits leaves listed codes judged changes signals d turnsStale newly
    have hcount : (u.ocr.engine sd).frame.revolve p = f := rfl
    have hcollecting' : (w.ocr.engine sd).collecting = true := by rw [hw.ocr]; exact hcollecting
    have hcount' : (w.ocr.engine sd).frame.revolve p = f := by rw [hw.ocr]; exact hcount
    have hgcm : w.gcm = u.gcm := hw.gcm
    obtain ⟨hdefs24, hconds24, hresults24, hmech24, hengine⟩ := (framesOk_iff u).1 hframes
    refine ⟨fun hin hr => revolution_says_goesOn hw ht hcollecting hcount hin hr, fun cause hend hcause => ?_, fun hin hr hpass => ?_⟩
    · rw [revolution_discards hcollecting' hcount' hend hcause] at ht
      have hdone := completed_tryStart ht
      have hd : discardsAfter sd w = d := by unfold discardsAfter; rw [hgcm]; rfl
      have hstale := discardAs_gcm htracking cause f
      rw [hgcm, hd] at hstale
      have hleaves := revolution_leaves_discarded hw hactive ht
      rw [hstarts, hfresh, Engine.discard_counted (Nat.succ_ne_zero _)] at hleaves
      refine ⟨hleaves, ?_, ?_, ?_, ?_, ?_, ?_, ?_, fun k hk h24 => ?_, fun k hk => ?_, fun h32 hnewly => ?_⟩
      · rw [hdone.cw, ← hw.cw]; simp
      · rw [hdone.lb, ← hw.lb]; simp
      · rw [hdone.ms, ← hw.ms]; simp
      · rw [hdone.gcm, hstale]; simp
      · rw [hdone.gcm, hstale]; cases sd <;> rfl
      · rw [hdone.gcm, hstale]; cases sd <;> rfl
      · rw [hdone.gcm, hstale]; simp [hconds24]
      · have hturns := discardAs_turnsStale htracking (by rw [hgcm]; exact hconds24) cause f (k := k) (by rw [hd]; exact hk.1)
          (by rw [hgcm]; exact hk.2) h24
        rw [hdone.gcm, hturns, hgcm]
      · rw [hdone.gcm, discardAs_staysAsItWas htracking cause f (by rw [hd, hgcm]; exact hk), hgcm]
      · have hnew : (staleNow sd w).length = newly := by
          rw [staleNow_eq htracking (by rw [hd]; exact h32), hgcm]
          rfl
        obtain ⟨hflag, hstaleLogs⟩ := discardAs_reports htracking cause f
          (List.ne_nil_of_length_pos (by rw [hnew]; exact hnewly))
        obtain ⟨rest, hrest⟩ := hdone.reported.logged
        have hall := hlogs.trans (hstaleLogs.trans hrest)
        rw [hnew] at hall
        exact ⟨fun q => hdone.reported.flags q _ (hflag q), hall.journals⟩
    · rw [revolution_evaluates hcollecting' hcount' hin hr hpass] at ht
      have hdone := completed_tryStart ht
      have hlines : LinesOrdered f.lines := (hengine sd).2
      have hseq : (evaluatedEngine sd f w).seq = waits.seq := by unfold evaluatedEngine; rw [hw.ocr]; rfl
      have hspeed' : (evaluatedEngine sd f w).vFrame = frameSpeed sd mean := rfl
      have hlb := hw.lb
      have hcw := hw.cw
      have hleaves := revolution_leaves_evaluated hw hactive ht
      rw [hstarts, hfresh] at hleaves
      obtain ⟨hmech, helec, hconfig⟩ := evaluateFrame_tables sd f w
      obtain ⟨hdropped, htaken⟩ := evaluateFrame_schedule sd f w
      have hsignals : (evaluation sd f w).2.pulls = signals := by
        rw [evaluation_pulls hlines, hseq, hgcm]
        rfl
      refine ⟨⟨frameSpeed sd mean, lineFrequency t.cw.mech, fun k => frameSpeed_fits, hleaves, fun l hl he => ?_⟩,
        fun k hk => ?_, ?_, ?_, fun hc => ?_, fun hc => ?_, fun l hl => ?_, fun k hk => ?_, fun hbad q => ?_, ?_, ?_, ?_,
        fun l hl he => ?_, fun k hk => ?_, ?_, fun h28 l hl he hchange => ?_, fun k h1 h2 hk => ?_, fun h => ?_, fun hm hg => ?_⟩
      · have hentry := evaluateFrame_mech sd f w hlines (by rw [hcw]; exact hmech24) hl he
        rw [← hdone.cw, hspeed'] at hentry
        have hfm : lineFrequency t.cw.mech l.line = mechFrequency sd l.kq (frameSpeed sd mean) := by
          simp [lineFrequency, hentry]
        rw [hfm]
        exact ⟨hentry, fun k hk hfits => mechFrequency_fits hk hfits⟩
      · rw [hdone.cw, evaluateFrame_mech_stands sd f w (fun l hl he hline => hk ⟨l, hl, hline, he⟩), hcw]
      · rw [hdone.cw, helec, hcw]
      · rw [hdone.cw, hconfig, hcw]
      · have hwatch := (evaluateFrame_evaluates sd f w hlines (by rw [hw.jobs]; exact hc)).congr (by simp) hw.reported hcw
          (by rw [hlb]) (by rw [hlb]) hdone.reported hdone.cw (by rw [hdone.gcm]) (by rw [hdone.lb])
        cases sd <;> exact hwatch
      · exact (evaluateFrame_takesOnly sd f w hlines (by rw [hw.jobs]; exact hc)).congr hw.reported hcw (by rw [hlb])
          hdone.reported hdone.cw (by rw [hdone.lb])
      · rw [hdone.results, evaluateFrame_result sd f w hlines (by rw [hw.ocr]; exact hresults24) hl, hseq, hw.ocr]
        rfl
      · rw [hdone.results, evaluateFrame_result_stands sd f w hk, hw.ocr]
      · exact hdone.reported.flags q _ (evaluateFrame_keepsFlag sd f w (resultsStored_badOrder sd f w hbad q))
      · rw [hdone.gcm, evaluateFrame_gcm, hgcm]; simp
      · rw [hdone.gcm, evaluateFrame_gcm, hgcm]; cases sd <;> rfl
      · rw [hdone.gcm, evaluateFrame_gcm, hgcm]; cases sd <;> rfl
      · rw [hdone.gcm, evaluateFrame_cond sd f w hlines (by rw [hgcm]; exact hconds24) hl he, hseq, hgcm]
        rfl
      · rw [hdone.gcm, evaluateFrame_cond_stands sd f w (fun l hl he hline => hk ⟨l, hl, hline, he⟩), hgcm]
      · obtain ⟨rest, hrest⟩ := logs_evaluateFrame sd f w
        obtain ⟨later, hlater⟩ := hdone.reported.logged
        have hall := hlogs.trans (hrest.trans hlater)
        rw [evaluation_entries hlines, hseq, hgcm, List.append_assoc, ← List.append_assoc] at hall
        exact hall.journalsFirst
      · have hsays := evaluateFrame_slot_says sd f w hlines (by rw [hlb]; exact h28) hl he
          (by rw [hseq, hgcm]; exact hchange)
        rw [hseq, hgcm, ← hdone.lb] at hsays
        exact hsays
      · rw [hdone.lb, evaluateFrame_slot_stands sd f w hlines h1 h2 (by rw [hseq, hgcm]; exact hk), hlb]
      · rw [hdone.ms, hdropped (by rw [hsignals, hw.jobs]; exact h), hw.ms]
      · obtain ⟨hitems, hsample, hposted⟩ := htaken (by rw [hw.jobs]; exact hm) (by rw [hsignals]; exact hg)
        rw [hsignals, hw.ms] at hitems
        rw [hw.ms] at hsample
        rw [hdone.ms]
        exact ⟨hitems, hsample, hposted⟩

end Sys2Proof.Machine

/-! PROOFS. One evaluation of a gear line (EvaluationMovesTheLevel). -/

namespace Sys2Proof.Machine

/-! ### The smoothed value (R45) -/

/-- A floored part of a step down, rounded toward minus infinity, stays between the step and nothing. -/
theorem ediv_step_down {x : Int} {k : Nat} (hk : 0 < k) (h : x ≤ 0) : x ≤ x / k ∧ x / k ≤ 0 := by
  have hk' : (1 : Int) ≤ k := by exact_mod_cast hk
  refine ⟨(Int.le_ediv_iff_mul_le (by omega)).2 ?_, Int.ediv_nonpos_of_nonpos_of_neg h (by omega)⟩
  calc x * k ≤ x * 1 := Int.mul_le_mul_of_nonpos_left h hk'
    _ = x := Int.mul_one x

/-- The step of R45 is never past its target, so it is never cut off at 0. -/
theorem smooth_spec (alpha e c : Nat) :
    (smooth alpha e c : Int) = e + ((c * 256 : Nat) - e : Int) / (2 ^ alpha : Nat) ∧
      min e (c * 256) ≤ smooth alpha e c ∧ smooth alpha e c ≤ max e (c * 256) := by
  unfold smooth
  rcases Nat.le_total e (c * 256) with hup | hdown
  · have hlow := Int.ediv_nonneg (a := ((c * 256 : Nat) : Int) - e) (by omega) (Int.natCast_nonneg (2 ^ alpha))
    have hhigh := Int.ediv_le_self (a := ((c * 256 : Nat) : Int) - e) (2 ^ alpha : Nat) (by omega)
    omega
  · obtain ⟨hlow, hhigh⟩ := ediv_step_down (x := ((c * 256 : Nat) : Int) - e) (Nat.two_pow_pos alpha) (by omega)
    omega

/-! ### The counts (R47, R48, R49) -/

/-- A count of evaluations at or above the threshold `on`, after an evaluation with E_code `code`. -/
def risen (ovr : Bool) (code on n : Nat) : Nat := if ovr = true ∨ on ≤ code then min 15 (n + 1) else 0

/-- A count of evaluations below the threshold `off`, after an evaluation with E_code `code`. -/
def fallen (ovr : Bool) (code off n : Nat) : Nat := if ovr = false ∧ code < off then min 15 (n + 1) else 0

theorem persist_alert (d : LineDef) (code : Nat) (ovr : Bool) (n : Nat) :
    persist (d.meets code ovr).alert n = risen ovr code d.alertOn n := by
  simp [persist, LineDef.meets, risen, satAdd]

theorem persist_danger (d : LineDef) (code : Nat) (ovr : Bool) (n : Nat) :
    persist (d.meets code ovr).danger n = risen ovr code d.dangerOn n := by
  simp [persist, LineDef.meets, risen, satAdd]

theorem persist_downAlert (d : LineDef) (code : Nat) (ovr : Bool) (n : Nat) :
    persist (d.meets code ovr).downAlert n = fallen ovr code d.alertOff n := by
  simp [persist, LineDef.meets, fallen, satAdd]

theorem persist_downDanger (d : LineDef) (code : Nat) (ovr : Bool) (n : Nat) :
    persist (d.meets code ovr).downDanger n = fallen ovr code d.dangerOff n := by
  simp [persist, LineDef.meets, fallen, satAdd]

/-! ### The judgement of each level (R48, R49, R50) -/

/-- What a judgement sets: the level and the three counts. -/
def Cond.standing (c : Cond) : Level × Nat × Nat × Nat := (c.level, c.alert, c.danger, c.down)

@[simp] theorem Cond.enter_standing (c : Cond) (lv : Level) : (c.enter lv).standing = (lv, 0, 0, 0) := rfl

theorem Cond.judge_e (d : LineDef) (ovr : Bool) (c : Cond) : (c.judge d ovr).e = c.e := by
  unfold Cond.judge Cond.enter; dsimp only; repeat' split
  all_goals rfl

theorem Cond.judge_normal (d : LineDef) (ovr : Bool) {c : Cond} (h : c.level = .normal) :
    (c.judge d ovr).standing =
      if d.kp ≤ risen ovr c.eCode d.dangerOn c.danger then (.danger, 0, 0, 0)
      else if d.kp ≤ risen ovr c.eCode d.alertOn c.alert then (.alert, 0, 0, 0)
      else (.normal, risen ovr c.eCode d.alertOn c.alert, risen ovr c.eCode d.dangerOn c.danger, 0) := by
  simp only [Cond.judge, h, persist_alert, persist_danger, apply_ite Cond.standing, Cond.enter_standing]
  rfl

theorem Cond.judge_alert (d : LineDef) (ovr : Bool) {c : Cond} (h : c.level = .alert) :
    (c.judge d ovr).standing =
      if d.kp ≤ risen ovr c.eCode d.dangerOn c.danger then (.danger, 0, 0, 0)
      else if d.kp ≤ fallen ovr c.eCode d.alertOff c.down then (.normal, 0, 0, 0)
      else (.alert, 0, risen ovr c.eCode d.dangerOn c.danger, fallen ovr c.eCode d.alertOff c.down) := by
  simp only [Cond.judge, h, persist_danger, persist_downAlert, apply_ite Cond.standing, Cond.enter_standing]
  rfl

theorem Cond.judge_danger (d : LineDef) (ovr : Bool) {c : Cond} (h : c.level = .danger) :
    (c.judge d ovr).standing =
      if d.kp ≤ fallen ovr c.eCode d.dangerOff c.down then (if d.alertOff ≤ c.eCode then .alert else .normal, 0, 0, 0)
      else (.danger, 0, 0, fallen ovr c.eCode d.dangerOff c.down) := by
  simp only [Cond.judge, h, persist_downDanger, apply_ite Cond.standing, Cond.enter_standing]
  rfl

/-! ### One evaluation (R44 to R50) -/

theorem Cond.smoothed_unrated (d : LineDef) (code : Nat) {c : Cond} (h : c.level = .unrated) :
    c.smoothed d code = { c.enter .normal with e := code * 256 } := if_pos h

theorem Cond.smoothed_rated (d : LineDef) (code : Nat) {c : Cond} (h : c.level ≠ .unrated) :
    c.smoothed d code = { c with e := smooth d.alpha c.e code } := if_neg h

theorem Cond.evaluate_e (d : LineDef) (code : Nat) (ovr : Bool) (seq : Nat) (c : Cond) :
    (c.evaluate d code ovr seq).e = (c.smoothed d code).e := Cond.judge_e d ovr _

theorem Cond.evaluate_standing (d : LineDef) (code : Nat) (ovr : Bool) (seq : Nat) (c : Cond) :
    (c.evaluate d code ovr seq).standing = ((c.smoothed d code).judge d ovr).standing := rfl

/-- The comparisons are on the E_code that the evaluation shows. -/
theorem Cond.smoothed_eCode_shown (d : LineDef) (code : Nat) (ovr : Bool) (seq : Nat) (c : Cond) :
    (c.smoothed d code).eCode = (c.evaluate d code ovr seq).e / 256 := by
  rw [Cond.evaluate_e]; rfl

/-- Settles O14: E is `smooth_spec`, and the rest is the judgement of the level that the smoothed line is in; an UNRATED line is smoothed to a
NORMAL one with clear counts. -/
theorem evaluationMovesTheLevel : Obligations.EvaluationMovesTheLevel := by
  unfold Obligations.EvaluationMovesTheLevel
  intro d code ovr seq c r code' rises falls alert danger
  have hstanding := Cond.evaluate_standing d code ovr seq c
  have hcode := Cond.smoothed_eCode_shown d code ovr seq c
  have he : r.e = (c.smoothed d code).e := Cond.evaluate_e d code ovr seq c
  refine ⟨rfl, rfl, fun hu => ?_, fun hr => ?_, fun hlow => ?_, fun halert => ?_, fun hdanger => ?_⟩
  · rw [he, Cond.smoothed_unrated d code hu]
  · rw [he, Cond.smoothed_rated d code hr]
    exact smooth_spec d.alpha c.e code
  · have hnormal : (c.smoothed d code).level = .normal := by
      rw [Cond.smoothed_level]; rcases hlow with h | h <;> simp [h]
    have hcounts : (c.smoothed d code).alert = alert ∧ (c.smoothed d code).danger = danger := by
      unfold Cond.smoothed alert danger; split <;> exact ⟨rfl, rfl⟩
    obtain ⟨ha, hg⟩ := hcounts
    have hjudged := Cond.judge_normal d ovr hnormal
    rw [← hstanding, hcode, ha, hg] at hjudged
    exact hjudged
  · have hrated := Cond.smoothed_rated d code (c := c) (by simp [halert])
    have hjudged := Cond.judge_alert d ovr (c := c.smoothed d code) (by rw [hrated]; exact halert)
    rw [← hstanding, hcode, hrated] at hjudged
    exact hjudged
  · have hrated := Cond.smoothed_rated d code (c := c) (by simp [hdanger])
    have hjudged := Cond.judge_danger d ovr (c := c.smoothed d code) (by rw [hrated]; exact hdanger)
    rw [← hstanding, hcode, hrated] at hjudged
    exact hjudged

end Sys2Proof.Machine

/-! PROOFS. Whole writes to a gear line definition (LineDefinitionWriteStoresTheOrder). -/

namespace Sys2Proof.Machine

/-! ### Parts of a word written whole (R189) -/

theorem bitsOf_eq_extractLsb (w : Word) (hi lo : Nat) : bitsOf w hi lo = (w.extractLsb hi lo).toNat := by
  rw [BitVec.extractLsb_toNat, Nat.shiftRight_eq_div_pow]
  rfl

theorem fieldHi_whole {α : Type} {ws : List Word} {n : Nat} (h : n < ws.length) (old new : α) :
    fieldHi (whole ws) n old new = new := by
  rw [fieldHi, maskedAt_whole h]
  rfl

theorem fieldLo_whole {α : Type} {ws : List Word} {n : Nat} (h : n < ws.length) (old new : α) :
    fieldLo (whole ws) n old new = new := by
  rw [fieldLo, maskedAt_whole h]
  rfl

/-! ### The two enumerations of a line definition (R42) -/

theorem channelOf_getD (n old : Nat) : (channelOf n).getD old = if n < 4 then n else old := by
  unfold channelOf; split <;> rfl

theorem channelOf_isNone (n : Nat) : (channelOf n).isNone = true ↔ 4 ≤ n := by
  simp [channelOf]

theorem sideOfCode_isNone (n : Nat) : (sideOfCode n).isNone = true ↔ 2 ≤ n := by
  match n with
  | 0 | 1 => simp [sideOfCode]
  | n + 2 => simp [sideOfCode]

/-! ### The definition a write leaves (R42, R43) -/

/-- The definition a write of ten whole words leaves. -/
theorem LineDef.write_whole {ws : List Word} (hl : ws.length = 10) (d : LineDef) :
    d.write (whole ws) =
      LineDef.order ⟨(wordAt ws 0).getLsbD 15, (sideOfCode ((wordAt ws 0).extractLsb 9 8).toNat).getD d.source,
        if ((wordAt ws 0).extractLsb 2 0).toNat < 4 then ((wordAt ws 0).extractLsb 2 0).toNat else d.channel,
        max 1 (min 16383 (wordAt ws 1).toNat), (wordAt ws 2).toNat, (wordAt ws 3).toNat, (wordAt ws 4).toNat,
        (wordAt ws 5).toNat, min 7 ((wordAt ws 6).extractLsb 15 8).toNat,
        max 1 (min 15 ((wordAt ws 6).extractLsb 7 0).toNat), min 100 ((wordAt ws 7).extractLsb 15 8).toNat,
        min 100 ((wordAt ws 7).extractLsb 7 0).toNat,
        if (wordAt ws 8).getLsbD 15 then some ((wordAt ws 8).extractLsb 4 0).toNat else none, (wordAt ws 9).toNat⟩ := by
  have himage : (lineDefImage d).length = 10 := rfl
  unfold LineDef.write
  simp (disch := omega) only [field_whole, fieldHi_whole, fieldLo_whole, numAt_overlay_whole, wordAt_overlay_whole,
    bitsOf_eq_extractLsb, channelOf_getD]
  rfl

/-- Such a write is bad exactly when one of the two enumerations is. -/
theorem LineDef.bad_whole {ws : List Word} (hl : ws.length = 10) (d : LineDef) :
    d.bad (whole ws) = true ↔ 4 ≤ ((wordAt ws 0).extractLsb 2 0).toNat ∨ 2 ≤ ((wordAt ws 0).extractLsb 9 8).toNat := by
  have himage : (lineDefImage d).length = 10 := rfl
  unfold LineDef.bad badEnum
  simp (disch := omega) only [maskedAt_whole, wordAt_overlay_whole, bitsOf_eq_extractLsb, Bool.true_and, Bool.or_eq_true,
    sideOfCode_isNone, channelOf_isNone]
  exact or_comm

/-! ### What the write of one definition leaves and hands the board (R51) -/

theorem writeLine_gcm (n : Nat) (ms : List MaskedWord) (s : State) :
    (writeLine n ms s).gcm = { s.gcm with defs := tmod s.gcm.defs n (LineDef.write ms) } := by
  simp [writeLine]

theorem writeLine_badValue {n : Nat} {ms : List MaskedWord} {s : State} (h : (tget s.gcm.defs n).bad ms = true) (p : PortId) :
    ((writeLine n ms s).rep.get p).hasFlag .badValue = true := by
  rw [writeLine, State.raiseIf, if_pos h]
  exact State.raise_self _ _ _

theorem linePosting_same (n : Nat) (d : LineDef) (lv : Level) : linePosting n d d lv = [] := by
  cases lv <;> simp [linePosting]

theorem linePosting_unposted {n : Nat} {d e : LineDef} {lv : Level} (ha : lv ≠ .alert) (hd : lv ≠ .danger) :
    linePosting n d e lv = [] := by
  cases lv with
  | unrated | normal => rfl
  | alert => exact absurd rfl ha
  | danger => exact absurd rfl hd

/-- The board is handed the part of the written line alone: no other line's cap changes. -/
theorem writePostings_writeLine {n : Nat} (hn : n < 24) (ms : List MaskedWord) (s : State) :
    writePostings s (writeLine n ms s) =
      linePosting n (tget s.gcm.defs n) (tget (writeLine n ms s).gcm.defs n) (tget s.gcm.conds n).level := by
  rw [← writePostings_of_line s _ hn]
  refine (List.filter_eq_self.2 fun c hc => decide_eq_true ?_).symm
  have hlines : c ∈ linePostings s (writeLine n ms s) := by simpa [writePostings] using hc
  rw [linePostings_eq, List.mem_flatMap] at hlines
  obtain ⟨m, -, hm⟩ := hlines
  by_cases hmn : m = n
  · exact hmn ▸ linePosting_slot hm
  · rw [writeLine_gcm, tget_tmod_other _ _ hmn, linePosting_same] at hm
    cases hm

/-- The posting of a changed cap is the one change of its slot. -/
theorem boardChange_linePosting_alert {n : Nat} {d e : LineDef} {t : State} (h : 4 + n < t.lb.slots.length)
    (hne : d.alertCap ≠ e.alertCap) :
    Posted (tget (boardChange (linePosting n d e .alert) t).lb.slots (4 + n)) e.alertCap .alert :=
  boardChange_posts h (by simp [linePosting, hne, levelPosting, glSlot])

theorem boardChange_linePosting_danger {n : Nat} {d e : LineDef} {t : State} (h : 4 + n < t.lb.slots.length)
    (hne : d.dangerCap ≠ e.dangerCap) :
    Posted (tget (boardChange (linePosting n d e .danger) t).lb.slots (4 + n)) e.dangerCap .danger :=
  boardChange_posts h (by simp [linePosting, hne, levelPosting, glSlot])

theorem linePosting_slotsElsewhere {n : Nat} {d e : LineDef} {lv : Level} {s t : State} (hlb : t.lb = s.lb) :
    SlotsElsewhere [4 + n] s (boardChange (linePosting n d e lv) t) := by
  intro k hk
  rw [boardChange_other _ _ k fun c hc hck => hk (List.mem_singleton.2 (hck.symm.trans (linePosting_slot hc))), hlb]

theorem boardChange_writeLine_onlyTouches (cs : List SlotChange) (n : Nat) (ms : List MaskedWord) (s : State) :
    OnlyTouches [.gcm, .lb, .ej, .rep, .pub] s (boardChange cs (writeLine n ms s)) := by
  simp [onlyTouches_iff]

/-- A whole write of a line definition on a port that is ready. -/
theorem exec_lineDefinitionWrite {dt : Nat} {p : PortId} {n : Nat} {ws : List Word} {s : State} (hn : n < 24)
    (hl : ws.length = 10) (hrole : (s.pi.get p).role = .farm) (hready : PortReady p s) :
    exec (.lineDefinitionWrite dt p n (whole ws)) s = .next
      (boardChange (linePosting n (tget s.gcm.defs n) (tget (writeLine n (whole ws) (s.advance dt)).gcm.defs n)
        (tget s.gcm.conds n).level) (writeLine n (whole ws) (s.advance dt))) := by
  have hm : mayWrite (s.pi.get p).role p 3 n = true := by rw [hrole]; rfl
  have hlength : ws.length = recordLength 3 n := by rw [hl]; exact (if_pos hn).symm
  have hexec := writeWhole_whole (s := s.advance dt) hready (show n < 25 by omega) hlength (by rintro rfl; cases hl) hm
  have hrecord : writeRecord p 3 n (whole ws) (s.advance dt) = writeLine n (whole ws) (s.advance dt) := if_pos hn
  rw [hrecord, writePostings_writeLine hn] at hexec
  exact congrArg Host.Outcome.next ((if_pos hn).trans hexec)

/-- Settles O41: the write reaches `writeLine`, whose definition is `LineDef.write_whole`; the board takes at most the one cap of its level. -/
theorem lineDefinitionWriteStoresTheOrder : Obligations.LineDefinitionWriteStoresTheOrder := by
  unfold Obligations.LineDefinitionWriteStoresTheOrder
  intro dt p n w0 kq alertOn alertOff dangerOn dangerOff w6 w7 w8 floor s u d lv on source channel bad e hrole hready hn
  let ws := [w0, kq, alertOn, alertOff, dangerOn, dangerOff, w6, w7, w8, floor]
  have hsource : (sideOfCode (w0.extractLsb 9 8).toNat).getD d.source = source := by
    unfold source
    generalize (w0.extractLsb 9 8).toNat = code
    match code with
    | 0 | 1 => rfl
    | _ + 2 => rfl
  have hwrite : d.write (whole ws) = e := by
    rw [LineDef.write_whole rfl]
    exact congrArg (fun x => LineDef.order ⟨_, x, _, _, _, _, _, _, _, _, _, _, _, _⟩) hsource
  have hgcm : (writeLine n (whole ws) u).gcm = { u.gcm with defs := u.gcm.defs.set n e } := by
    rw [writeLine_gcm, ← hwrite]
    rfl
  have hdef : n < u.gcm.defs.length → tget (writeLine n (whole ws) u).gcm.defs n = e := fun h => by
    rw [writeLine_gcm, tget_tmod_self _ _ _ h]
    exact hwrite
  have hlb : (writeLine n (whole ws) u).lb = u.lb := by simp
  have hexec : exec (.lineDefinitionWrite dt p n (whole ws)) s = .next
      (boardChange (linePosting n d (tget (writeLine n (whole ws) u).gcm.defs n) lv) (writeLine n (whole ws) u)) :=
    exec_lineDefinitionWrite hn rfl hrole hready
  refine ⟨_, hexec, boardChange_writeLine_onlyTouches _ _ _ _, ?_, fun hbad q => ?_, linePosting_slotsElsewhere hlb,
    fun ha hd => ?_, fun hlen hslots ha hne => ?_, fun hlen hslots hd hne => ?_⟩
  · simp only [boardChange_frame]
    exact hgcm
  · rw [boardChange_hasFlag]
    exact writeLine_badValue ((LineDef.bad_whole (ws := ws) rfl d).2 hbad) q
  · rw [linePosting_unposted ha hd, boardChange_nil, hlb]
  · rw [hdef hlen, ha]
    exact boardChange_linePosting_alert (by rw [hlb]; exact hslots) hne
  · rw [hdef hlen, hd]
    exact boardChange_linePosting_danger (by rw [hlb]; exact hslots) hne

end Sys2Proof.Machine

/-! PROOFS. The slots MAINT, COINC and GRID and their three posters: what each event of a poster makes of its slot, and the operations that leave
the posters and their slots as they stand. -/

namespace Sys2Proof.Machine

/-! ### What each poster's slot says (R79, R92, R161) -/

/-- The grid monitor's part of `OtherSlotsOk`: slot GRID stands as the conformance says, and a disabled monitor is CONFORMING with its loss timer
stopped (R79, R82). -/
def GridSlotOk (s : State) : Prop :=
  (s.jobs.grid = false → s.ghm.exceeding = false ∧ s.ghm.loss = none) ∧
    (s.ghm.exceeding = true → Posted (tget s.lb.slots 3) s.ghm.config.gridCap .exceeding) ∧
    (s.ghm.exceeding = false → (tget s.lb.slots 3).active = false)

/-- The watch's part: slot COINC stands as the live set says (R92). -/
def CoincSlotOk (s : State) : Prop :=
  (s.cw.liveLines ≠ [] → Posted (tget s.lb.slots 2) s.cw.config.coincCap .live) ∧
    (s.cw.liveLines = [] → (tget s.lb.slots 2).active = false)

/-- Slot MAINT as its last posting left it. -/
def MaintSlotSays (posted : Option Nat) (x : Slot) : Prop :=
  match posted with
  | some c => Posted x c .overdue
  | none => x.active = false

/-- What the schedule keeps of slot MAINT inside an event, before it is recomputed: the slot stands as last posted, and a disabled schedule has
posted nothing (R161, R168). -/
def MaintSlotDue (s : State) : Prop :=
  (s.jobs.maint = false → s.ms.posted = none) ∧ MaintSlotSays s.ms.posted (tget s.lb.slots 1)

/-- The schedule's part: what is posted is the least cap of the OVERDUE items (R161). -/
def MaintSlotOk (s : State) : Prop :=
  s.ms.posted = (if s.jobs.maint then maintCap s.ms.items else none) ∧ MaintSlotSays s.ms.posted (tget s.lb.slots 1)

theorem otherSlotsOk_iff (s : State) :
    OtherSlotsOk s ↔ s.lb.slots.length = 28 ∧ MaintSlotOk s ∧ CoincSlotOk s ∧ GridSlotOk s := by
  unfold OtherSlotsOk MaintSlotOk MaintSlotSays CoincSlotOk GridSlotOk
  constructor
  · rintro ⟨hlen, hposted, hsays, hlive, hdead, hgrid⟩
    exact ⟨hlen, ⟨hposted, by cases hp : s.ms.posted <;> simpa [hp] using hsays⟩, ⟨hlive, hdead⟩, hgrid⟩
  · rintro ⟨hlen, ⟨hposted, hsays⟩, ⟨hlive, hdead⟩, hgrid⟩
    exact ⟨hlen, hposted, by cases hp : s.ms.posted <;> simpa [hp] using hsays, hlive, hdead, hgrid⟩

theorem MaintSlotOk.due {s : State} (h : MaintSlotOk s) : MaintSlotDue s :=
  ⟨fun hoff => by rw [h.1, hoff]; rfl, h.2⟩

theorem GridSlotOk.congr {s t : State} (h : GridSlotOk s) (hgrid : t.jobs.grid = s.jobs.grid) (hghm : t.ghm = s.ghm)
    (hslot : tget t.lb.slots 3 = tget s.lb.slots 3) : GridSlotOk t := by
  unfold GridSlotOk
  rw [hgrid, hghm, hslot]
  exact h

theorem CoincSlotOk.congr {s t : State} (h : CoincSlotOk s) (hcw : t.cw = s.cw)
    (hslot : tget t.lb.slots 2 = tget s.lb.slots 2) : CoincSlotOk t := by
  unfold CoincSlotOk
  rw [hcw, hslot]
  exact h

theorem MaintSlotOk.congr {s t : State} (h : MaintSlotOk s) (hmaint : t.jobs.maint = s.jobs.maint) (hms : t.ms = s.ms)
    (hslot : tget t.lb.slots 1 = tget s.lb.slots 1) : MaintSlotOk t := by
  unfold MaintSlotOk
  rw [hmaint, hms, hslot]
  exact h

/-! ### What stands while no poster acts -/

/-- What the posters of slots MAINT, COINC and GRID say, and these slots, stand. -/
structure PostersStand (s t : State) : Prop where
  maint : t.jobs.maint = s.jobs.maint
  grid : t.jobs.grid = s.jobs.grid
  ms : t.ms = s.ms
  live : t.cw.liveLines = s.cw.liveLines
  coincCap : t.cw.config.coincCap = s.cw.config.coincCap
  exceeding : t.ghm.exceeding = s.ghm.exceeding
  loss : t.ghm.loss = s.ghm.loss
  gridCap : t.ghm.config.gridCap = s.ghm.config.gridCap
  slots : t.lb.slots.length = s.lb.slots.length
  slot : ∀ k, 0 < k → k < 4 → tget t.lb.slots k = tget s.lb.slots k

theorem PostersStand.refl (s : State) : PostersStand s s := ⟨rfl, rfl, rfl, rfl, rfl, rfl, rfl, rfl, rfl, fun _ _ _ => rfl⟩

theorem PostersStand.trans {s t u : State} (h : PostersStand s t) (h' : PostersStand t u) : PostersStand s u where
  maint := h'.maint.trans h.maint
  grid := h'.grid.trans h.grid
  ms := h'.ms.trans h.ms
  live := h'.live.trans h.live
  coincCap := h'.coincCap.trans h.coincCap
  exceeding := h'.exceeding.trans h.exceeding
  loss := h'.loss.trans h.loss
  gridCap := h'.gridCap.trans h.gridCap
  slots := h'.slots.trans h.slots
  slot k hk hk' := (h'.slot k hk hk').trans (h.slot k hk hk')

/-- An operation whose frame names the blocks of the posters. -/
theorem postersStand_of_frame {s t : State} (hmaint : t.jobs.maint = s.jobs.maint) (hgrid : t.jobs.grid = s.jobs.grid)
    (hms : t.ms = s.ms) (hcw : t.cw = s.cw) (hghm : t.ghm = s.ghm) (hlb : t.lb.slots = s.lb.slots) : PostersStand s t :=
  ⟨hmaint, hgrid, hms, by rw [hcw], by rw [hcw], by rw [hghm], by rw [hghm], by rw [hghm], by rw [hlb], fun _ _ _ => by rw [hlb]⟩

/-- An operation that leaves the jobs and the board besides. -/
theorem postersStand_of_blocks {s t : State} (hjobs : t.jobs = s.jobs) (hms : t.ms = s.ms) (hcw : t.cw = s.cw)
    (hghm : t.ghm = s.ghm) (hlb : t.lb = s.lb) : PostersStand s t :=
  postersStand_of_frame (by rw [hjobs]) (by rw [hjobs]) hms hcw hghm (by rw [hlb])

/-- A change of slots of other posters. -/
theorem postersStand_boardChange {cs : List SlotChange} (s : State) (hc : ∀ c ∈ cs, c.slot = 0 ∨ 4 ≤ c.slot) :
    PostersStand s (boardChange cs s) where
  maint := by simp
  grid := by simp
  ms := by simp
  live := by simp
  coincCap := by simp
  exceeding := by simp
  loss := by simp
  gridCap := by simp
  slots := by simp
  slot k _ _ := boardChange_other cs s k (fun c hm hk' => by have := hc c hm; omega)

section Standing

variable {s t : State} (h : PostersStand s t)
include h

theorem PostersStand.gridSlotOk (hs : GridSlotOk s) : GridSlotOk t := by
  unfold GridSlotOk
  rw [h.grid, h.exceeding, h.loss, h.gridCap, h.slot 3 (by decide) (by decide)]
  exact hs

theorem PostersStand.coincSlotOk (hs : CoincSlotOk s) : CoincSlotOk t := by
  unfold CoincSlotOk
  rw [h.live, h.coincCap, h.slot 2 (by decide) (by decide)]
  exact hs

theorem PostersStand.maintSlotOk (hs : MaintSlotOk s) : MaintSlotOk t := hs.congr h.maint h.ms (h.slot 1 (by decide) (by decide))

theorem PostersStand.otherSlotsOk (hs : OtherSlotsOk s) : OtherSlotsOk t := by
  obtain ⟨hlen, hmaint, hcoinc, hgrid⟩ := (otherSlotsOk_iff s).1 hs
  exact (otherSlotsOk_iff t).2 ⟨h.slots.trans hlen, h.maintSlotOk hmaint, h.coincSlotOk hcoinc, h.gridSlotOk hgrid⟩

end Standing

/-! ### Maintenance Schedule (R161, R164, R167, R168) -/

@[simp] theorem overItems_posted (f : Nat → Item → Item × List EntryBody) (s : State) :
    (overItems f s).ms.posted = s.ms.posted := by
  simp [overItems]

@[simp] theorem evaluateItems_posted (s : State) : (evaluateItems s).ms.posted = s.ms.posted := by
  unfold evaluateItems; split <;> simp

@[simp] theorem takeSample_posted (s : State) : (takeSample s).ms.posted = s.ms.posted := rfl

@[simp] theorem foldPulls_posted (gs : List Pull) (s : State) : (gs.foldl pullOne s).ms.posted = s.ms.posted := by
  induction gs generalizing s with
  | nil => rfl
  | cons g gs ih => rw [List.foldl_cons, ih]; simp [pullOne]

/-- Recomputing slot MAINT brings it to what the items say. -/
theorem recomputeMaint_maintSlotOk {s : State} (hlen : s.lb.slots.length = 28) (h : MaintSlotDue s) :
    MaintSlotOk (recomputeMaint s) := by
  obtain ⟨hoff, hsays⟩ := h
  cases hm : s.jobs.maint with
  | false =>
    have hsame : recomputeMaint s = s := if_neg (by simp [hm])
    rw [hsame]
    exact ⟨by simp [hm, hoff hm], hsays⟩
  | true =>
    refine ⟨by simp [recomputeMaint_ms hm, hm], ?_⟩
    unfold recomputeMaint
    rw [if_pos hm]
    cases hcap : maintCap s.ms.items with
    | none =>
      cases hp : s.ms.posted with
      | none => dsimp only; rw [hp] at hsays ⊢; exact hsays
      | some p =>
        simp only [boardChange_frame, State.setMs_ms]
        exact boardChange_withdraws (k := 1) (by simp [hlen]) (by simp [slotMaint])
    | some c =>
      dsimp only
      split
      next hp => rw [hp] at hsays ⊢; exact hsays
      next =>
        simp only [boardChange_frame, State.setMs_ms]
        exact boardChange_posts (k := 1) (by simp [hlen]) (by simp [slotMaint])

theorem scheduleEvent_parts (f : State → State) (s : State) :
    (scheduleEvent f s).lb = (recomputeMaint (f s)).lb ∧ (scheduleEvent f s).ms = (recomputeMaint (f s)).ms := by
  unfold scheduleEvent; dsimp only; split
  · exact ⟨rfl, rfl⟩
  · exact ⟨rfl, rfl⟩

/-- An event of the schedule that changes items alone, or enables the job, keeps the slots. -/
theorem scheduleEvent_otherSlotsOk {f : State → State} {s : State} (h : OtherSlotsOk s)
    (hmaint : (f s).jobs.maint = false → s.jobs.maint = false) (hgrid : (f s).jobs.grid = s.jobs.grid)
    (hposted : (f s).ms.posted = s.ms.posted) (hcw : (f s).cw = s.cw) (hghm : (f s).ghm = s.ghm) (hlb : (f s).lb = s.lb) :
    OtherSlotsOk (scheduleEvent f s) := by
  obtain ⟨hlen, hmaintOk, hcoincOk, hgridOk⟩ := (otherSlotsOk_iff s).1 h
  obtain ⟨hlb', hms'⟩ := scheduleEvent_parts f s
  obtain ⟨hlength, hslot⟩ := recomputeMaint_slots (f s)
  rw [hlb] at hlength hslot
  have hdue : MaintSlotDue (f s) := by
    refine ⟨fun hoff => hposted.trans (hmaintOk.due.1 (hmaint hoff)), ?_⟩
    rw [hposted, hlb]
    exact hmaintOk.2
  refine (otherSlotsOk_iff _).2 ⟨by rw [hlb', hlength, hlen], ?_, ?_, ?_⟩
  · have hok := recomputeMaint_maintSlotOk (by rw [hlb, hlen]) hdue
    unfold MaintSlotOk at hok ⊢
    simpa [hlb', hms'] using hok
  · exact hcoincOk.congr (by simpa using hcw) (by rw [hlb', hslot 2 (by decide)])
  · exact hgridOk.congr (by simpa using hgrid) (by simpa using hghm) (by rw [hlb', hslot 3 (by decide)])

theorem scheduleTick_otherSlotsOk {s : State} (h : OtherSlotsOk s) : OtherSlotsOk (scheduleTick s) :=
  scheduleEvent_otherSlotsOk h (by simp) (by simp) (by simp) (by simp) (by simp) (by simp)

theorem takePulls_otherSlotsOk (gs : List Pull) {s : State} (h : OtherSlotsOk s) : OtherSlotsOk (takePulls gs s) := by
  unfold takePulls; split
  · exact scheduleEvent_otherSlotsOk h (by simp) (by simp) (by simp) (by simp) (by simp) (by simp)
  · exact h

theorem itemDone_otherSlotsOk (n : Nat) {s : State} (h : OtherSlotsOk s) : OtherSlotsOk (itemDone n s).state := by
  unfold itemDone; split
  · exact h
  · split
    · exact h
    · split
      · exact scheduleEvent_otherSlotsOk h (by simp) (by simp) (by simp [finishItem, setPart]) (by simp) (by simp) (by simp)
      · exact h

theorem itemDefer_otherSlotsOk (n : Nat) {s : State} (h : OtherSlotsOk s) : OtherSlotsOk (itemDefer n s).state := by
  unfold itemDefer; dsimp only; repeat' split
  case h_2.isFalse.isFalse.isFalse =>
    exact scheduleEvent_otherSlotsOk h (by simp) (by simp) (by simp [postponeItem, setPart]) (by simp) (by simp) (by simp)
  all_goals exact h

theorem enableMaint_otherSlotsOk {s : State} (h : OtherSlotsOk s) : OtherSlotsOk (enableMaint s).state := by
  unfold enableMaint; split
  · exact h
  · split
    · rw [accept_state]
      exact scheduleEvent_otherSlotsOk h (by simp) (by simp) (by simp) (by simp) (by simp) (by simp)
    · exact h

/-- DISABLE MAINT withdraws what stood posted (R168). -/
theorem stopMaint_otherSlotsOk {s : State} (h : OtherSlotsOk s) : OtherSlotsOk (stopMaint s) := by
  obtain ⟨hlen, ⟨-, hsays⟩, hcoincOk, hgridOk⟩ := (otherSlotsOk_iff s).1 h
  have hother : ∀ k, k ≠ 1 → tget (stopMaint s).lb.slots k = tget s.lb.slots k := fun k hk => by
    simp only [stopMaint, startPublish_frame]
    rw [boardChange_other]
    · rfl
    · intro c hc
      split at hc
      · rw [List.mem_singleton.1 hc]; exact hk.symm
      · cases hc
  refine (otherSlotsOk_iff _).2 ⟨by simp [stopMaint, hlen], ⟨by simp [stopMaint], ?_⟩, ?_, ?_⟩
  · have hnone : (stopMaint s).ms.posted = none := by simp [stopMaint]
    rw [hnone]
    unfold stopMaint
    simp only [startPublish_frame]
    cases hp : s.ms.posted with
    | none => rw [hp] at hsays; exact hsays
    | some c => exact boardChange_withdraws (k := 1) (by simp [hlen]) (by simp [slotMaint])
  · exact hcoincOk.congr (by simp [stopMaint]) (hother 2 (by decide))
  · exact hgridOk.congr (by simp [stopMaint]) (by simp [stopMaint]) (hother 3 (by decide))

theorem disableMaint_otherSlotsOk {s : State} (h : OtherSlotsOk s) : OtherSlotsOk (disableMaint s).state := by
  unfold disableMaint; split
  · exact stopMaint_otherSlotsOk h
  · exact h

/-! ### Coincidence Watch (R92, R94 to R96) -/

/-- A change that reaches the watch and slot COINC alone. -/
theorem OtherSlotsOk.watch {s t : State} (h : OtherSlotsOk s) (hjobs : t.jobs.maint = s.jobs.maint ∧ t.jobs.grid = s.jobs.grid)
    (hms : t.ms = s.ms) (hghm : t.ghm = s.ghm) (hlen : t.lb.slots.length = s.lb.slots.length)
    (hslot : ∀ k, k ≠ 2 → tget t.lb.slots k = tget s.lb.slots k) (hcoinc : CoincSlotOk t) : OtherSlotsOk t := by
  obtain ⟨hlen', hmaintOk, -, hgridOk⟩ := (otherSlotsOk_iff s).1 h
  obtain ⟨hmaint, hgrid⟩ := hjobs
  refine (otherSlotsOk_iff t).2 ⟨hlen.trans hlen', ?_, hcoinc, ?_⟩
  · exact hmaintOk.congr hmaint hms (hslot 1 (by decide))
  · exact hgridOk.congr hgrid hghm (hslot 3 (by decide))

theorem OtherSlotsOk.coincSlot {s : State} (h : OtherSlotsOk s) : CoincSlotOk s := ((otherSlotsOk_iff s).1 h).2.2.1

theorem OtherSlotsOk.length {s : State} (h : OtherSlotsOk s) : s.lb.slots.length = 28 := h.1

/-- After its posting the slot says the new live set, where the cap in force is the one it was posted with. -/
theorem coincPosting_coincSlotOk {a b : Cw} {s : State} (hlen : s.lb.slots.length = 28) (hcap : b.config = a.config)
    (hlive : a.liveLines ≠ [] → Posted (tget s.lb.slots 2) a.config.coincCap .live)
    (hdead : a.liveLines = [] → (tget s.lb.slots 2).active = false) :
    (b.liveLines ≠ [] → Posted (tget (boardChange (coincPosting a b) s).lb.slots 2) b.config.coincCap .live) ∧
      (b.liveLines = [] → (tget (boardChange (coincPosting a b) s).lb.slots 2).active = false) := by
  obtain ⟨hpost, hwithdraw, hstand⟩ := coincPosting_says a b s
  by_cases ha : a.liveLines = [] <;> by_cases hb : b.liveLines = []
  · rw [hstand (by simp [ha, hb])]
    exact ⟨fun h => absurd hb h, fun _ => hdead ha⟩
  · exact ⟨fun _ => hpost ha hb (by omega), fun h => absurd h hb⟩
  · exact ⟨fun h => absurd hb h, fun _ => hwithdraw ha hb⟩
  · rw [hstand (by simp [ha, hb]), hcap]
    exact ⟨fun _ => hlive ha, fun h => absurd h hb⟩

theorem coincEvent_otherSlotsOk {cause : EvalCause} {f : Cw → Cw} {s : State} (h : OtherSlotsOk s)
    (hf : UpdatesTables f s.cw) : OtherSlotsOk (coincEvent cause f s) := by
  obtain ⟨hlive, hdead⟩ := h.coincSlot
  cases hj : s.jobs.coinc with
  | false =>
    have hcw := (coincEvent_takenOnly (cause := cause) hj hf).1
    refine PostersStand.otherSlotsOk ⟨by simp, by simp, by simp, by rw [hcw], by rw [hcw], by simp, by simp, by simp, ?_, fun k _ _ => ?_⟩ h
    · rw [coincEvent_off hj]; simp
    · have hnone : coincPosting s.cw (f s.cw).show = [] := by rw [hf]; simp [coincPosting, Cw.show]
      rw [coincEvent_off hj, hnone]
      rfl
  | true =>
    obtain ⟨hwcw, hwlb⟩ := watchEvaluated_frame cause f s
    have hconfig : (watchEvaluated cause f s).cw.config = s.cw.config := by rw [hwcw, hf]; rfl
    refine h.watch (by simp) (by simp) (by simp) (by rw [coincEvent_on hj]; simp) (fun k hk => coincEvent_slots _ _ _ hk) ?_
    unfold CoincSlotOk
    rw [coincEvent_on hj]
    simp only [startPublish_frame, boardChange_frame]
    exact coincPosting_coincSlotOk (by rw [hwlb]; exact h.length) hconfig (by rw [hwlb]; exact hlive) (by rw [hwlb]; exact hdead)

theorem coincTakeFrame_otherSlotsOk (sd : Side) (v : Nat) (ls : List ListedLine) {s : State} (h : OtherSlotsOk s) :
    OtherSlotsOk (coincTakeFrame sd v ls s) := coincEvent_otherSlotsOk h rfl

theorem coincTakeBlock_otherSlotsOk (slots : List Nat) {s : State} (h : OtherSlotsOk s) : OtherSlotsOk (coincTakeBlock slots s) :=
  coincEvent_otherSlotsOk h rfl

theorem boardChange_coinc_withdrawn {s : State} (h : s.lb.slots.length = 28) :
    (tget (boardChange [⟨slotCoinc, .withdraw⟩] s).lb.slots 2).active = false ∧
      ∀ k, k ≠ 2 → tget (boardChange [⟨slotCoinc, .withdraw⟩] s).lb.slots k = tget s.lb.slots k :=
  ⟨boardChange_withdraws (k := 2) (by omega) (by simp [slotCoinc]),
    fun k hk => boardChange_other _ s k (by simpa [slotCoinc] using hk.symm)⟩

theorem enableCoinc_otherSlotsOk {s : State} (h : OtherSlotsOk s) : OtherSlotsOk (enableCoinc s).state := by
  unfold enableCoinc; repeat' split
  · exact h
  · exact h
  · exact h
  · obtain ⟨hslot, hother⟩ := boardChange_coinc_withdrawn
      (s := (s.setCw { s.cw.cleared with count := 0 }).setJobs { s.jobs with coinc := true }) h.length
    exact h.watch (by simp) (by simp) (by simp) (by simp) hother ⟨fun hlive => absurd (by simp [Cw.cleared]) hlive, fun _ => hslot⟩

theorem disableCoinc_otherSlotsOk {s : State} (h : OtherSlotsOk s) : OtherSlotsOk (disableCoinc s).state := by
  unfold disableCoinc; split
  · obtain ⟨hslot, hother⟩ := boardChange_coinc_withdrawn (s := s.setCw { s.cw with liveLines := [], liveEntries := [] }) h.length
    refine h.watch (by simp) (by simp) (by simp) (by simp) (fun k hk => ?_)
      ⟨fun hlive => absurd (by simp [Cw.cleared, Cw.show]) hlive, fun _ => ?_⟩
    · simpa using hother k hk
    · simpa using hslot
  · exact h

theorem postersStand_clearCoincidence (s : State) : PostersStand s (clearCoincidence s).state := by
  unfold clearCoincidence; split
  · exact ⟨by simp, by simp, by simp, by simp [Cw.forget, Cw.show], by simp [Cw.forget, Cw.show], by simp, by simp, by simp,
      by simp, fun _ _ _ => by simp⟩
  · exact .refl s

end Sys2Proof.Machine

/-! PROOFS. Slot GRID and the conformance, and every other operation of a step as slots MAINT, COINC and GRID see it
(OtherSlotsFollowTheirPosters). -/

namespace Sys2Proof.Machine

/-! ### Grid Harmonic Monitor (R79, R81, R82) -/

/-- A change of the enabled monitor that leaves conformance and configuration. -/
theorem OtherSlotsOk.setGhm {s : State} (h : OtherSlotsOk s) (hg : s.jobs.grid = true) {x : Ghm}
    (hx : x.exceeding = s.ghm.exceeding ∧ x.config = s.ghm.config) : OtherSlotsOk (s.setGhm x) := by
  obtain ⟨hlen, hmaint, hcoinc, -, hpost, hclear⟩ := (otherSlotsOk_iff s).1 h
  obtain ⟨hexceeding, hconfig⟩ := hx
  refine (otherSlotsOk_iff _).2 ⟨hlen, hmaint, hcoinc, fun hoff => absurd (hg.symm.trans hoff) (by decide), ?_, ?_⟩
  · simpa [hexceeding, hconfig] using hpost
  · simpa [hexceeding] using hclear

theorem OtherSlotsOk.startPublish {s : State} (h : OtherSlotsOk s) (g : Nat) (recs : List Nat) (before : State) :
    OtherSlotsOk (startPublish g recs before s) :=
  (postersStand_of_blocks (s := s) rfl rfl rfl rfl rfl).otherSlotsOk h

theorem OtherSlotsOk.journalAll {s : State} (h : OtherSlotsOk s) (bs : List EntryBody) : OtherSlotsOk (s.journalAll bs) :=
  (postersStand_of_blocks (s := s) (by simp) (by simp) (by simp) (by simp) (by simp)).otherSlotsOk h

/-- A withdrawal leaves its slot inactive, in or past the table. -/
theorem boardChange_withdrawn (k : Nat) (s : State) : (tget (boardChange [⟨k, .withdraw⟩] s).lb.slots k).active = false := by
  by_cases hk : k < s.lb.slots.length
  · exact boardChange_withdraws hk (by simp)
  · rw [tget_past (by simpa using hk)]
    rfl

theorem conformancePosting_same {a b : Ghm} (h : a.exceeding = b.exceeding) : conformancePosting a b = [] := if_pos h

/-- The slot of the monitor after the posting of a block (R79). -/
theorem conformancePosting_says (a b : Ghm) (s : State) :
    (a.exceeding = false → b.exceeding = true → 3 < s.lb.slots.length →
        Posted (tget (boardChange (conformancePosting a b) s).lb.slots 3) b.config.gridCap .exceeding) ∧
      (a.exceeding = true → b.exceeding = false → (tget (boardChange (conformancePosting a b) s).lb.slots 3).active = false) ∧
      (∀ k, (a.exceeding ≠ b.exceeding → k ≠ 3) →
        tget (boardChange (conformancePosting a b) s).lb.slots k = tget s.lb.slots k) := by
  refine ⟨fun ha hb hk => ?_, fun ha hb => ?_, fun k hk => ?_⟩
  · have hpost : conformancePosting a b = [⟨3, .post b.config.gridCap .exceeding⟩] :=
      (if_neg (by simp [ha, hb])).trans (if_pos hb)
    rw [hpost]
    exact boardChange_posts hk (by simp)
  · have hpost : conformancePosting a b = [⟨3, .withdraw⟩] := (if_neg (by simp [ha, hb])).trans (if_neg (by simp [hb]))
    rw [hpost]
    exact boardChange_withdrawn 3 s
  · by_cases hsame : a.exceeding = b.exceeding
    · rw [conformancePosting_same hsame]
      rfl
    · exact boardChange_other _ _ _ fun c hc => by rw [conformancePosting_slot hc]; exact (hk hsame).symm

/-- A change of the enabled monitor's conformance, with its entry and its posting. -/
theorem conformed_otherSlotsOk {s : State} (h : OtherSlotsOk s) (hg : s.jobs.grid = true) {x : Ghm}
    (hx : x.config = s.ghm.config) (bs : List EntryBody) :
    OtherSlotsOk (boardChange (conformancePosting s.ghm x) ((s.setGhm x).journalAll bs)) := by
  obtain ⟨hlen, hmaint, hcoinc, -, hposted, hclear⟩ := (otherSlotsOk_iff s).1 h
  obtain ⟨hpost, hwithdraw, hstand⟩ := conformancePosting_says s.ghm x ((s.setGhm x).journalAll bs)
  simp only [State.journalAll_frame, State.setGhm_lb] at hpost hstand
  refine (otherSlotsOk_iff _).2 ⟨by simp [hlen], hmaint.congr (by simp) (by simp) (hstand 1 (by simp)),
    hcoinc.congr (by simp) (hstand 2 (by simp)), fun hoff => ?_, fun he => ?_, fun he => ?_⟩
  · simp [hg] at hoff
  all_goals
    simp only [boardChange_frame, State.journalAll_frame, State.setGhm_ghm] at he ⊢
    cases ha : s.ghm.exceeding
  · exact hpost ha he (by omega)
  · rw [hstand 3 (by simp [ha, he]), hx]
    exact hposted ha
  · rw [hstand 3 (by simp [ha, he])]
    exact hclear ha
  · exact hwithdraw ha he

@[simp] theorem Ghm.conform_config (shows : Bool) (g : Ghm) : (g.conform shows).config = g.config := by
  unfold Ghm.conform; dsimp only; repeat' split
  all_goals rfl

@[simp] theorem Ghm.validBlock_config (slots : List Nat) (g : Ghm) : (g.validBlock slots).config = g.config := by
  simp [Ghm.validBlock, Ghm.judgeBlock]

theorem evaluateBlock_otherSlotsOk {s : State} (h : OtherSlotsOk s) (hg : s.jobs.grid = true) : OtherSlotsOk (evaluateBlock s) := by
  unfold evaluateBlock; split
  · exact (h.setGhm hg ⟨rfl, rfl⟩).startPublish 6 blockRecords s
  · exact coincTakeBlock_otherSlotsOk _ ((conformed_otherSlotsOk h hg (by simp) _).startPublish _ _ _)

theorem tryBlock_otherSlotsOk {s : State} (h : OtherSlotsOk s) (hg : s.jobs.grid = true) : OtherSlotsOk (tryBlock s) := by
  unfold tryBlock; split
  · exact evaluateBlock_otherSlotsOk h hg
  · exact h

theorem windowEvaluated_otherSlotsOk {w : Window} {s : State} (h : OtherSlotsOk s) (hg : s.jobs.grid = true) :
    OtherSlotsOk (windowEvaluated w s) :=
  tryBlock_otherSlotsOk ((h.setGhm hg ⟨rfl, rfl⟩).startPublish 6 windowRecords s) hg

theorem windowDiscarded_otherSlotsOk {cause : WindowCause} {s : State} (h : OtherSlotsOk s) (hg : s.jobs.grid = true) :
    OtherSlotsOk (windowDiscarded cause s) := by
  unfold windowDiscarded; split
  · exact tryBlock_otherSlotsOk ((h.setGhm hg ⟨rfl, rfl⟩).startPublish 6 windowRecords s) hg
  · exact h

theorem countCycle_otherSlotsOk {s : State} (h : OtherSlotsOk s) (hg : s.jobs.grid = true) : OtherSlotsOk (countCycle s) := by
  unfold countCycle; dsimp only; split
  · exact h
  · split
    · exact h.setGhm hg ⟨rfl, rfl⟩
    · unfold completeWindow; split
      · exact windowDiscarded_otherSlotsOk h hg
      · exact windowEvaluated_otherSlotsOk h hg

/-- What closing positions leaves of the monitor: everything but the window and the outstanding position (R68, R70). -/
def Ghm.ClosesPositions (g g' : Ghm) : Prop := g' = { g with window := g'.window, outstanding := g'.outstanding }

theorem Ghm.closeOutstanding_closes (g : Ghm) : g.ClosesPositions g.closeOutstanding := by
  unfold Ghm.closeOutstanding; split <;> rfl

theorem Ghm.closeCycle_closes (g : Ghm) : g.ClosesPositions g.closeCycle := by
  have hfold : ∀ (is : List Nat) (x : Ghm), g.ClosesPositions x → g.ClosesPositions (is.foldl (fun g i => g.closePosition true i) x) := by
    intro is
    induction is with
    | nil => exact fun x hx => hx
    | cons i is ih => exact fun x hx => ih _ (by rw [Ghm.ClosesPositions] at hx ⊢; rw [hx]; rfl)
  exact hfold _ _ g.closeOutstanding_closes

theorem Ghm.ClosesPositions.frame {g g' : Ghm} (h : g.ClosesPositions g') :
    g'.exceeding = g.exceeding ∧ g'.config = g.config := by
  rw [h]; exact ⟨rfl, rfl⟩

theorem leaveLocked_otherSlotsOk {cause : WindowCause} {s : State} (h : OtherSlotsOk s) (hg : s.jobs.grid = true) :
    OtherSlotsOk (leaveLocked cause s) :=
  windowDiscarded_otherSlotsOk (h.setGhm hg s.ghm.closeOutstanding_closes.frame) hg

theorem Ghm.openWindow_frame (now : Nat) (g : Ghm) :
    (g.openWindow now).exceeding = g.exceeding ∧ (g.openWindow now).config = g.config := by
  unfold Ghm.openWindow; split <;> exact ⟨rfl, rfl⟩

theorem lockedEdge_otherSlotsOk {s : State} (h : OtherSlotsOk s) (hg : s.jobs.grid = true) : OtherSlotsOk (lockedEdge s) := by
  unfold lockedEdge; dsimp only; split
  · exact (countCycle_otherSlotsOk (h.setGhm hg s.ghm.closeCycle_closes.frame) hg).setGhm (by simpa using hg)
      (Ghm.openWindow_frame _ (Ghm.startCycle _ _))
  · exact h.setGhm hg (Ghm.openWindow_frame _ (Ghm.startCycle _ _))

theorem measuredEdge_otherSlotsOk (p : Nat) {s : State} (h : OtherSlotsOk s) (hg : s.jobs.grid = true) :
    OtherSlotsOk (measuredEdge p s) := by
  have hmeasured := h.setGhm hg (x := (s.ghm.measure p).refer s.now) ⟨rfl, rfl⟩
  have hreport : OtherSlotsOk (lockReport s.ghm.lock (s.ghm.measure p).lock p (s.setGhm ((s.ghm.measure p).refer s.now))) :=
    (postersStand_of_blocks (by simp) (by simp) (by simp) (by simp) (by simp)).otherSlotsOk hmeasured
  unfold measuredEdge; dsimp only; split
  · exact lockedEdge_otherSlotsOk hreport (by simpa using hg)
  · split
    · exact leaveLocked_otherSlotsOk hreport (by simpa using hg)
    · exact hreport

theorem takeZeroCross_otherSlotsOk {s : State} (h : OtherSlotsOk s) (hg : s.jobs.grid = true) : OtherSlotsOk (takeZeroCross s) := by
  unfold takeZeroCross; split
  · exact h.setGhm hg ⟨rfl, rfl⟩
  · split
    · exact measuredEdge_otherSlotsOk _ h hg
    · exact h.setGhm hg ⟨rfl, rfl⟩

theorem lossExpire_otherSlotsOk {s : State} (h : OtherSlotsOk s) (hg : s.jobs.grid = true) : OtherSlotsOk (lossExpire s) := by
  have hstopped := h.setGhm hg (x := { s.ghm with loss := none, edgeRef := none, valid := 0, lock := .unlocked }) ⟨rfl, rfl⟩
  have hreport : OtherSlotsOk (((s.setGhm { s.ghm with loss := none, edgeRef := none, valid := 0, lock := .unlocked }).raise
      .unlocked).journal (lockEntry s.ghm.lock .unlocked 0)) :=
    (postersStand_of_blocks (by simp) (by simp) (by simp) (by simp) (by simp)).otherSlotsOk hstopped
  unfold lossExpire; dsimp only; split
  · exact hstopped
  · split
    · exact leaveLocked_otherSlotsOk hreport (by simpa using hg)
    · exact hreport

/-- A running loss timer is that of an enabled monitor (R82). -/
theorem OtherSlotsOk.grid_of_loss {s : State} (h : OtherSlotsOk s) {d : Nat} (hd : s.ghm.loss = some d) : s.jobs.grid = true := by
  obtain ⟨-, -, -, hidle, -⟩ := (otherSlotsOk_iff s).1 h
  by_contra hoff
  rw [(hidle (by simpa using hoff)).2] at hd
  cases hd

theorem postersStand_takeGridFrame (ws : List LinkWord) (s : State) : PostersStand s (takeGridFrame ws s) := by
  have hset : ∀ x : Ghm, x.exceeding = s.ghm.exceeding → x.loss = s.ghm.loss → x.config = s.ghm.config →
      PostersStand s (s.setGhm x) := fun x hex hloss hconfig =>
    ⟨rfl, rfl, rfl, rfl, rfl, hex, hloss, congrArg GridConfig.gridCap hconfig, rfl, fun _ _ _ => rfl⟩
  have hdrop : PostersStand s (dropGridFrame s) :=
    (hset { s.ghm with droppedFrames := satAdd 65535 s.ghm.droppedFrames 1 } rfl rfl rfl).trans
      (postersStand_of_blocks rfl rfl rfl rfl rfl)
  unfold takeGridFrame; split
  · split
    · exact hset _ rfl rfl rfl
    · exact hdrop
  · exact hdrop

theorem postersStand_strobe (now : Nat) (x : StrobeGen) (s : State) : PostersStand s (s.setGhm (s.ghm.strobe now x)) := by
  have hcloses : s.ghm.closeOutstanding = _ := s.ghm.closeOutstanding_closes
  unfold Ghm.strobe
  rw [hcloses]
  exact ⟨rfl, rfl, rfl, rfl, rfl, rfl, rfl, rfl, rfl, fun _ _ _ => rfl⟩

/-- A disabled monitor is CONFORMING already, and ENABLE GRID leaves it so. -/
theorem enableGrid_otherSlotsOk {s : State} (h : OtherSlotsOk s) : OtherSlotsOk (enableGrid s).state := by
  unfold enableGrid
  cases hg : s.jobs.grid with
  | true => exact h
  | false =>
    obtain ⟨hlen, hmaint, hcoinc, hidle, -, hclear⟩ := (otherSlotsOk_iff s).1 h
    rw [if_neg (by decide)]
    split
    · exact h
    · exact (otherSlotsOk_iff _).2 ⟨hlen, hmaint, hcoinc, fun _ => ⟨rfl, rfl⟩, nofun, fun _ => hclear (hidle hg).1⟩

theorem Ghm.disable_idle (g : Ghm) : g.disable.exceeding = false ∧ g.disable.loss = none := by
  unfold Ghm.disable; split <;> exact ⟨rfl, rfl⟩

/-- The slots once DISABLE GRID has withdrawn what stood posted (R82). -/
theorem stopGrid_slots (s : State) :
    (stopGrid s).lb.slots.length = s.lb.slots.length ∧
      (∀ k, k ≠ 3 → tget (stopGrid s).lb.slots k = tget s.lb.slots k) ∧
      (s.ghm.exceeding = true → (tget (stopGrid s).lb.slots 3).active = false) ∧
      (s.ghm.exceeding = false → (stopGrid s).lb = s.lb) := by
  simp only [stopGrid, coincForgetGrid_frame, startPublish_frame]
  refine ⟨by simp, fun k hk => (boardChange_other _ _ _ fun c hc => ?_).trans (by simp), fun he => ?_, fun he => ?_⟩
  · split at hc
    · rw [List.mem_singleton.1 hc]; exact hk.symm
    · cases hc
  · rw [if_pos he]
    exact boardChange_withdrawn 3 _
  · rw [if_neg (by simp [he])]
    exact (State.journalAll_frame _ _).2.2.2.2.2.2.2.2.1

theorem stopGrid_ghm (s : State) : (stopGrid s).ghm = s.ghm.disable := by simp [stopGrid]

theorem stopGrid_watch (s : State) : (stopGrid s).cw = ({ s.cw with elec := none } : Cw).show := by
  simp [stopGrid, coincForgetGrid]

theorem disableGrid_otherSlotsOk {s : State} (h : OtherSlotsOk s) : OtherSlotsOk (disableGrid s).state := by
  unfold disableGrid; split
  · exact h
  · split
    · obtain ⟨hlen, hmaint, hcoinc, -, -, hclear⟩ := (otherSlotsOk_iff s).1 h
      obtain ⟨hlength, hother, hwithdraw, hstand⟩ := stopGrid_slots s
      have hidle := s.ghm.disable_idle
      have hghm : ((stopGrid s).setJobs { s.jobs with grid := false }).ghm = s.ghm.disable := stopGrid_ghm s
      rw [accept_state]
      refine (otherSlotsOk_iff _).2 ⟨hlength.trans hlen, hmaint.congr rfl (by simp) (hother 1 (by decide)), ?_, fun _ => hghm ▸ hidle,
        fun he => absurd (hidle.1.symm.trans (hghm ▸ he)) (by decide), fun _ => ?_⟩
      · unfold CoincSlotOk
        simp only [State.setJobs_cw, State.setJobs_lb, stopGrid_watch, hother 2 (by decide)]
        exact hcoinc
      · change (tget (stopGrid s).lb.slots 3).active = false
        cases he : s.ghm.exceeding with
        | true => exact hwithdraw he
        | false => rw [hstand he]; exact hclear he
    · exact h

end Sys2Proof.Machine

/-! PROOFS. Slots MAINT, COINC and GRID under every other operation of a step (OtherSlotsFollowTheirPosters). -/

namespace Sys2Proof.Machine

/-! ### Frames and gear lines (R51, R59, R85, R159) -/

/-- A completion hands the board changes of gear slots alone. -/
theorem takeLines_posting_slot {defs : List LineDef} {seq : Nat} {ls : List ListedLine} {conds : List Cond} {c : SlotChange}
    (h : c ∈ (takeLines defs seq ls conds).2.postings) : 4 ≤ c.slot := by
  induction ls using List.reverseRecOn with
  | nil => cases h
  | append_singleton ls l ih =>
    rw [takeLines_snoc, takeLine_eq rfl] at h
    rcases List.mem_append.1 h with hls | hl
    · exact ih hls
    · rw [l.postings_slot hl]
      exact Nat.le_add_right _ _

theorem evaluateFrame_otherSlotsOk (sd : Side) (f : Frame) {s : State} (h : OtherSlotsOk s) : OtherSlotsOk (evaluateFrame sd f s) := by
  have hstored : PostersStand s (gcmEvaluated sd (evaluatedEngine sd f s).seq f.listed (resultsStored sd f s)) :=
    postersStand_of_blocks (by simp) (by simp) (by simp) (by simp [resultsStored]) (by simp)
  have hjudged : PostersStand s (linesJudged sd f s) :=
    hstored.trans (postersStand_boardChange _ fun c hc => .inr (takeLines_posting_slot hc))
  rw [evaluateFrame_eq]
  exact (coincTakeFrame_otherSlotsOk _ _ _ (takePulls_otherSlotsOk _ (hjudged.otherSlotsOk h))).startPublish _ _ _

theorem postersStand_tryStart (sd : Side) (v : Nat) (s : State) : PostersStand s (tryStart sd v s) :=
  postersStand_of_blocks (by simp) (by simp) (by simp) (by simp) (by simp)

theorem postersStand_discardAs (sd : Side) (cause : DiscardCause) (f : Frame) (s : State) : PostersStand s (discardAs sd cause f s) :=
  postersStand_of_blocks (by simp) (by simp) (by simp) (by simp) (by simp)

theorem revolutionToFrames_otherSlotsOk (sd : Side) (p v : Nat) {s : State} (h : OtherSlotsOk s) :
    OtherSlotsOk (revolutionToFrames sd p v s) := by
  have hended : ∀ cause f, OtherSlotsOk (tryStart sd v (discardAs sd cause f s)) := fun cause f =>
    ((postersStand_discardAs sd cause f s).trans (postersStand_tryStart sd v _)).otherSlotsOk h
  unfold revolutionToFrames; dsimp only; split
  · exact (postersStand_tryStart sd v s).otherSlotsOk h
  · split
    · exact hended _ _
    · split
      · split
        · exact hended _ _
        · exact (postersStand_tryStart sd v _).otherSlotsOk (evaluateFrame_otherSlotsOk _ _ h)
      · exact (postersStand_of_blocks (by simp) (by simp) (by simp) (by simp) (by simp)).otherSlotsOk h

theorem postersStand_stopGear (s : State) : PostersStand s (stopGear s) := by
  have hcw : (stopGear s).cw.liveLines = s.cw.liveLines ∧ (stopGear s).cw.config = s.cw.config := by
    obtain ⟨-, -, hcw, -⟩ := stopGear_lines s
    rw [hcw]
    exact ⟨rfl, rfl⟩
  exact ⟨by simp, by simp, by simp, hcw.1, congrArg WatchConfig.coincCap hcw.2, by simp, by simp, by simp, stopGear_slots_length s,
    fun k _ hk => stopGear_leaves fun n _ _ => by omega⟩

/-! ### Shaft lines (R4 to R14) -/

theorem revolutionEvent_otherSlotsOk (sd : Side) (p v : Nat) {s : State} (h : OtherSlotsOk s) :
    OtherSlotsOk (revolutionEvent sd p v s) := by
  refine (postersStand_of_blocks ?_ ?_ ?_ ?_ ?_).otherSlotsOk (revolutionToFrames_otherSlotsOk sd p v h)
  all_goals unfold revolutionEvent; cases sd <;> simp

theorem forwardIndex_otherSlotsOk (sd : Side) {s : State} (h : OtherSlotsOk s) : OtherSlotsOk (forwardIndex sd s) := by
  by_cases hslip : IsSlip sd s
  · rw [forwardIndex_slip hslip]
    exact (postersStand_of_blocks (by simp) (by simp) (by simp) (by simp) (by simp)).otherSlotsOk h
  · rw [forwardIndex_noSlip hslip]
    split
    · rw [closePeriod_eq]
      exact revolutionEvent_otherSlotsOk _ _ _ ((postersStand_of_blocks (by simp [periodClosed]) (by simp [periodClosed])
        (by simp [periodClosed]) (by simp [periodClosed]) (by simp [periodClosed])).otherSlotsOk h)
    · exact (postersStand_of_blocks rfl rfl rfl rfl rfl).otherSlotsOk h

/-- An operation keeps the slots of the three posters as they say. -/
def KeepsOtherSlots (f : State → State) : Prop := ∀ s, OtherSlotsOk s → OtherSlotsOk (f s)

theorem keepsOtherSlots_of_blocks {f : State → State} (hjobs : ∀ s, (f s).jobs = s.jobs) (hms : ∀ s, (f s).ms = s.ms)
    (hcw : ∀ s, (f s).cw = s.cw) (hghm : ∀ s, (f s).ghm = s.ghm) (hlb : ∀ s, (f s).lb = s.lb) : KeepsOtherSlots f :=
  fun s h => (postersStand_of_blocks (hjobs s) (hms s) (hcw s) (hghm s) (hlb s)).otherSlotsOk h

theorem takeIndex_keepsOtherSlots (level : Bool) : KeepsOtherSlots (takeIndex level) := by
  intro s h
  unfold takeIndex; repeat' split
  · exact (postersStand_of_blocks (by simp) (by simp) (by simp) (by simp) (by simp)).otherSlotsOk h
  · exact forwardIndex_otherSlotsOk _ h
  · exact h

theorem takeLsIndex_keepsOtherSlots (level : Bool) : KeepsOtherSlots (takeLsIndex level) := by
  intro s h
  unfold takeLsIndex; split
  · exact forwardIndex_otherSlotsOk _ h
  · exact h

/-- What follows an edge of any line of the shaft unit keeps the slots. -/
theorem edgeMeaning_keepsOtherSlots (l : SauLine) (level : Bool) : KeepsOtherSlots (edgeMeaning l level) := by
  cases l with
  | a | b | t =>
    exact keepsOtherSlots_of_blocks (by simp [edgeMeaning]) (by simp [edgeMeaning]) (by simp [edgeMeaning])
      (by simp [edgeMeaning]) (by simp [edgeMeaning])
  | z => exact takeIndex_keepsOtherSlots level
  | lsz => exact takeLsIndex_keepsOtherSlots level

theorem onEdge_otherSlotsOk (l : SauLine) (level : Bool) {f : State → State} (hf : KeepsOtherSlots f) {s : State}
    (h : OtherSlotsOk s) : OtherSlotsOk (onEdge l level f s) := by
  have hset : ∀ x : Sau, OtherSlotsOk (s.setSau x) := fun x => (postersStand_of_blocks rfl rfl rfl rfl rfl).otherSlotsOk h
  unfold onEdge; dsimp only; split
  · exact hf _ (hset _)
  · exact hset _

/-! ### Limit Board, Icing Detector and the clock (R104, R112, R128, R131, R137) -/

theorem postersStand_boardTick (s : State) : PostersStand s (boardTick s) := by
  have hslots : (boardTick s).lb.slots = s.lb.slots := by
    unfold boardTick; split
    · rfl
    · split
      · simp [ackExpire]
      · rfl
  exact postersStand_of_frame (by simp) (by simp) (by simp) (by simp) (by simp) hslots

theorem postersStand_ackCap (g : Nat) (s : State) : PostersStand s (ackCap g s).state := by
  have hslots : (ackCap g s).state.lb.slots = s.lb.slots := by
    unfold ackCap; split
    · rw [accept_state]
      unfold acknowledge; dsimp only; split
      · rfl
      · simp [Lb.acknowledged]
    · rfl
  exact postersStand_of_frame (by simp) (by simp) (by simp) (by simp) (by simp) hslots

/-- The posting of an icing state, after a change that the other posters do not see. -/
theorem postersStand_icingPosting {s t : State} (h : PostersStand s t) (c : IcingConfig) (st : IcingState) :
    PostersStand s (boardChange [icingPosting c st] t) :=
  h.trans (postersStand_boardChange t fun x hx => .inl (by rw [List.mem_singleton.1 hx, icingPosting_slot]; rfl))

theorem PostersStand.startPublish {s t : State} (h : PostersStand s t) (g : Nat) (recs : List Nat) (before : State) :
    PostersStand s (startPublish g recs before t) := h.trans (postersStand_of_blocks rfl rfl rfl rfl rfl)

theorem postersStand_icingChange (st : IcingState) (value : Int) (f : Icd → Icd) (s : State) :
    PostersStand s (icingChange st value f s) :=
  (postersStand_icingPosting (postersStand_of_blocks (by simp) (by simp) (by simp) (by simp) (by simp)) _ _).startPublish _ _ _

theorem postersStand_setIcd (x : Icd) (s : State) : PostersStand s (s.setIcd x) := postersStand_of_blocks rfl rfl rfl rfl rfl

theorem postersStand_intervalTick (s : State) : PostersStand s (intervalTick s) := by
  unfold intervalTick; split
  · split
    · unfold closeInterval; dsimp only; split
      · exact (postersStand_setIcd _ s).startPublish 8 [1] s
      · exact postersStand_icingChange _ _ _ s
    · exact postersStand_setIcd _ s
  · exact .refl s

theorem postersStand_thawTick (before : Option Nat) (s : State) : PostersStand s (thawTick before s) := by
  unfold thawTick; split
  · split
    · unfold thawExpire; split
      · exact postersStand_icingChange _ _ _ s
      · exact postersStand_setIcd _ s
    · exact postersStand_setIcd _ s
  · exact .refl s

theorem postersStand_icingTick (s : State) : PostersStand s (icingTick s) :=
  ((postersStand_of_blocks (by simp) (by simp) (by simp) (by simp) (by simp)).trans (postersStand_intervalTick _)).trans
    (postersStand_thawTick _ _)

theorem postersStand_enableIcing (s : State) : PostersStand s (enableIcing s).state := by
  unfold enableIcing; repeat' split
  · exact .refl s
  · exact .refl s
  · rw [accept_state]
    exact (postersStand_icingPosting (postersStand_of_frame (by simp) (by simp) (by simp) (by simp) (by simp) (by simp)) _ _).startPublish
      _ _ _

theorem postersStand_disableIcing (s : State) : PostersStand s (disableIcing s).state := by
  unfold disableIcing; split
  · rw [accept_state]
    exact (postersStand_icingPosting (postersStand_of_frame (by simp) (by simp) (by simp) (by simp) (by simp) (by simp)) _ _).startPublish
      _ _ _
  · exact .refl s

theorem postersStand_icingReport (s : State) : PostersStand s (icingReport s).state := by
  unfold icingReport; split
  · exact .refl s
  · exact .refl s
  · exact postersStand_icingChange _ _ _ s

theorem postersStand_icingRelease (s : State) : PostersStand s (icingRelease s).state := by
  unfold icingRelease; repeat' split
  · exact .refl s
  · exact postersStand_icingChange _ _ _ s
  · exact .refl s

theorem handTick_keepsOtherSlots (order : TickOrder) : KeepsOtherSlots (handTick order) := by
  intro s h
  have hms : KeepsOtherSlots scheduleTick := fun _ => scheduleTick_otherSlotsOk
  have hlb : KeepsOtherSlots boardTick := fun s => (postersStand_boardTick s).otherSlotsOk
  have hicd : KeepsOtherSlots icingTick := fun s => (postersStand_icingTick s).otherSlotsOk
  cases order with
  | icdLbMs => exact hms _ (hlb _ (hicd _ h))
  | icdMsLb => exact hlb _ (hms _ (hicd _ h))
  | lbIcdMs => exact hms _ (hicd _ (hlb _ h))
  | lbMsIcd => exact hicd _ (hms _ (hlb _ h))
  | msIcdLb => exact hlb _ (hicd _ (hms _ h))
  | msLbIcd => exact hicd _ (hlb _ (hms _ h))

theorem issueTick_keepsOtherSlots (order : TickOrder) : KeepsOtherSlots (issueTick order) := fun _ h =>
  handTick_keepsOtherSlots order _ ((postersStand_of_blocks (by simp) (by simp) (by simp) (by simp) (by simp)).otherSlotsOk h)

theorem phaseTick_keepsOtherSlots (order : TickOrder) : KeepsOtherSlots (phaseTick order) := fun _ h =>
  issueTick_keepsOtherSlots order _ ((postersStand_of_blocks rfl rfl rfl rfl rfl).otherSlotsOk h)

theorem alignTick_keepsOtherSlots (order : TickOrder) : KeepsOtherSlots (alignTick order) := by
  intro s h
  have hzero : OtherSlotsOk (zeroPhase s) := (postersStand_of_blocks rfl rfl rfl rfl rfl).otherSlotsOk h
  unfold alignTick; split
  · exact issueTick_keepsOtherSlots order _ hzero
  · exact hzero

theorem takePps_keepsOtherSlots (order : TickOrder) : KeepsOtherSlots (takePps order) := by
  intro s h
  have haccept : OtherSlotsOk (s.setCc (s.cc.acceptPps s.now)) := (postersStand_of_blocks rfl rfl rfl rfl rfl).otherSlotsOk h
  have halign := alignTick_keepsOtherSlots order _ haccept
  unfold takePps; dsimp only; split
  · exact (postersStand_of_blocks (by simp) (by simp) (by simp) (by simp) (by simp)).otherSlotsOk halign
  · split
    · exact halign
    · exact haccept

/-! ### Written records (R79, R84, R154, R189) -/

/-- What a written record can change of the three posters: the configurations of watch and monitor, and what the schedule has not taken. -/
structure Reconfigures (s t : State) : Prop where
  jobs : t.jobs = s.jobs
  posted : t.ms.posted = s.ms.posted
  maintCap : maintCap t.ms.items = maintCap s.ms.items
  cw : t.cw = { s.cw with config := t.cw.config }
  ghm : t.ghm = { s.ghm with config := t.ghm.config }
  slots : t.lb.slots = s.lb.slots

theorem Reconfigures.refl (s : State) : Reconfigures s s := ⟨rfl, rfl, rfl, rfl, rfl, rfl⟩

theorem Reconfigures.trans {s t u : State} (h : Reconfigures s t) (h' : Reconfigures t u) : Reconfigures s u where
  jobs := h'.jobs.trans h.jobs
  posted := h'.posted.trans h.posted
  maintCap := h'.maintCap.trans h.maintCap
  cw := by rw [h'.cw, h.cw]
  ghm := by rw [h'.ghm, h.ghm]
  slots := h'.slots.trans h.slots

theorem reconfigures_of_blocks {s t : State} (hjobs : t.jobs = s.jobs) (hms : t.ms = s.ms) (hcw : t.cw = s.cw)
    (hghm : t.ghm = s.ghm) (hlb : t.lb.slots = s.lb.slots) : Reconfigures s t :=
  ⟨hjobs, by rw [hms], by rw [hms], by rw [hcw], by rw [hghm], hlb⟩

/-- The least cap asks of an item its state part and its definition in force alone. -/
theorem maintCap_tmod (xs : List Item) (n : Nat) {f : Item → Item} (hpart : ∀ x, (f x).part = x.part)
    (hforce : ∀ x, (f x).inForce = x.inForce) : maintCap (tmod xs n f) = maintCap xs := by
  have hsees : ∀ ys : List Item, maintCap ys = (ys.map (fun x => (x.overdue, x.inForce.cap))).foldl (fun a x =>
      if x.1 && x.2 < 100 then some (match a with | some c => min c x.2 | none => x.2) else a) none := fun ys => by
    rw [List.foldl_map]; rfl
  have hmap : (tmod xs n f).map (fun x => (x.overdue, x.inForce.cap)) = xs.map (fun x => (x.overdue, x.inForce.cap)) := by
    refine List.ext_getElem (by simp) fun k h _ => ?_
    have hk : k < xs.length := by simpa using h
    simp only [tmod, List.getElem_map, List.getElem_set]
    split
    next hn => subst hn; simp [Item.overdue, hpart, hforce, tget_eq xs n hk]
    next => rfl
  rw [hsees, hsees, hmap]

theorem reconfigures_writeItem (n : Nat) (ms : List MaskedWord) (s : State) : Reconfigures s (writeItem n ms s) where
  jobs := by simp
  posted := by simp [writeItem]
  maintCap := by simp [writeItem]; exact maintCap_tmod _ _ (fun _ => rfl) (fun _ => rfl)
  cw := by simp
  ghm := by simp
  slots := by simp

theorem reconfigures_writeRecord (p : PortId) (g r : Nat) (ms : List MaskedWord) (s : State) :
    Reconfigures s (writeRecord p g r ms s) := by
  unfold writeRecord; repeat' split
  case h_3 => exact ⟨by simp, by simp, by simp, by simp, by simp [writeGrid], by simp⟩
  case h_4.isTrue => exact ⟨by simp, by simp, by simp, by simp [writeWatch], by simp, by simp⟩
  case h_7.isTrue => exact reconfigures_of_blocks rfl rfl rfl rfl rfl
  case h_10.isTrue => exact reconfigures_writeItem r ms s
  case h_10.isFalse.isTrue => exact ⟨rfl, rfl, rfl, rfl, rfl, rfl⟩
  all_goals exact reconfigures_of_blocks (by simp) (by simp) (by simp) (by simp) (by simp)

theorem reconfigures_applyRecords (p : PortId) (g : Nat) (buf : List BufferWord) (rs : List Nat) (s : State) :
    Reconfigures s (rs.foldl (applyRecord p g buf) s) := by
  induction rs generalizing s with
  | nil => exact .refl s
  | cons r rs ih =>
    refine Reconfigures.trans ?_ (ih _)
    unfold applyRecord; dsimp only; split
    · exact reconfigures_writeRecord _ _ _ _ _
    · exact .refl s

/-- Of what a write hands the board the parts of the three posters: a changed cap whose slot stands posted (R79, R84). -/
theorem writePostings_of_posters (s t : State) :
    (writePostings s t).filter (fun c => c.slot = 1) = [] ∧
      (writePostings s t).filter (fun c => c.slot = 2) =
        (if s.cw.liveLines ≠ [] ∧ s.cw.config.coincCap ≠ t.cw.config.coincCap then
          [⟨2, .post t.cw.config.coincCap .live⟩] else []) ∧
      (writePostings s t).filter (fun c => c.slot = 3) =
        (if s.ghm.exceeding ∧ s.ghm.config.gridCap ≠ t.ghm.config.gridCap then
          [⟨3, .post t.ghm.config.gridCap .exceeding⟩] else []) := by
  have hlines : ∀ k, k < 4 → (linePostings s t).filter (fun c => c.slot = k) = [] := by
    intro k hk
    rw [List.filter_eq_nil_iff]
    intro c hc
    rw [linePostings_eq] at hc
    obtain ⟨n, -, hn⟩ := List.mem_flatMap.1 hc
    have := linePosting_slot hn
    simp; omega
  have hone : ∀ (b : Prop) [Decidable b] (j k cap : Nat) (code : SlotCode),
      (if b then [(⟨j, .post cap code⟩ : SlotChange)] else []).filter (fun c => c.slot = k) =
        if j = k then (if b then [⟨j, .post cap code⟩] else []) else [] := by
    intro b _ j k cap code
    by_cases hb : b <;> by_cases hj : j = k <;> simp [hb, hj]
  unfold writePostings
  simp only [List.filter_append, hone, hlines 1 (by decide), hlines 2 (by decide), hlines 3 (by decide)]
  exact ⟨rfl, by simp [slotGrid, slotCoinc, slotIcing], by simp [slotGrid, slotCoinc, slotIcing]⟩

/-- A slot that a write posts again where its cap changes stands posted with the new cap. -/
theorem boardChange_reposted {cs : List SlotChange} {s : State} {k old new : Nat} {code : SlotCode} {b : Prop} [Decidable b]
    (h : k < s.lb.slots.length) (hc : cs.filter (fun c => c.slot = k) = if b ∧ old ≠ new then [⟨k, .post new code⟩] else [])
    (hs : b → Posted (tget s.lb.slots k) old code) (hb : b) : Posted (tget (boardChange cs s).lb.slots k) new code := by
  by_cases hcap : old = new
  · rw [if_neg (by simp [hcap])] at hc
    rw [boardChange_unnamed _ hc, ← hcap]
    exact hs hb
  · rw [if_pos ⟨hb, hcap⟩] at hc
    exact boardChange_posts h hc

theorem completeWrite_otherSlotsOk (p : PortId) (g : Nat) (buf : List BufferWord) {s : State} (h : OtherSlotsOk s) :
    OtherSlotsOk (completeWrite p g buf s) := by
  obtain ⟨t, ht⟩ : ∃ t, ((List.range (recordCount g)).filter (fun r => buf.any (·.record = r))).foldl (applyRecord p g buf) s = t :=
    ⟨_, rfl⟩
  have hr : Reconfigures s t := ht ▸ reconfigures_applyRecords p g buf _ s
  have hwrite : completeWrite p g buf s = boardChange (writePostings s t) t := by rw [← ht]; rfl
  obtain ⟨hlen, ⟨hposted, hsays⟩, ⟨hlive, hdead⟩, hidle, hexceeds, hconforms⟩ := (otherSlotsOk_iff s).1 h
  obtain ⟨hmaintPost, hcoincPost, hgridPost⟩ := writePostings_of_posters s t
  have hlb : ∀ k, tget t.lb.slots k = tget s.lb.slots k := fun k => by rw [hr.slots]
  have hlength : t.lb.slots.length = 28 := by rw [hr.slots, hlen]
  have hcwLive : t.cw.liveLines = s.cw.liveLines := by rw [hr.cw]
  have hghmSame : t.ghm.exceeding = s.ghm.exceeding ∧ t.ghm.loss = s.ghm.loss := by rw [hr.ghm]; exact ⟨rfl, rfl⟩
  rw [hwrite]
  refine (otherSlotsOk_iff _).2 ⟨by simp [hlength], ⟨?_, ?_⟩, ⟨fun hl => ?_, fun hl => ?_⟩, ?_, fun he => ?_, fun he => ?_⟩
  · simpa [hr.posted, hr.jobs, hr.maintCap] using hposted
  · rw [boardChange_unnamed _ hmaintPost, hlb]
    simpa [hr.posted] using hsays
  · simp only [boardChange_frame, hcwLive] at hl ⊢
    exact boardChange_reposted (by omega) hcoincPost (by simpa only [hlb] using hlive) hl
  · simp only [boardChange_frame, hcwLive] at hl
    rw [boardChange_unnamed _ (by rw [hcoincPost]; simp [hl]), hlb]
    exact hdead hl
  · simpa [hr.jobs, hghmSame] using hidle
  · simp only [boardChange_frame, hghmSame.1] at he ⊢
    exact boardChange_reposted (by omega) hgridPost (by simpa only [hlb] using hexceeds) he
  · simp only [boardChange_frame, hghmSame.1] at he
    rw [boardChange_unnamed _ (by rw [hgridPost]; simp [he]), hlb]
    exact hconforms he

theorem writeWhole_otherSlotsOk (p : PortId) (g r : Nat) (ws : List MaskedWord) {s : State} (h : OtherSlotsOk s) :
    OtherSlotsOk (writeWhole p g r ws s) := by
  unfold writeWhole; dsimp only; repeat' split
  · exact h
  · exact completeWrite_otherSlotsOk _ _ _ h
  · exact (postersStand_of_blocks rfl rfl rfl rfl rfl).otherSlotsOk h
  · exact h

theorem completeTransaction_otherSlotsOk (p : PortId) {s : State} (h : OtherSlotsOk s) : OtherSlotsOk (completeTransaction p s) := by
  have hclosed : OtherSlotsOk (s.setPort p (s.pi.get p).close) := (postersStand_of_blocks rfl rfl rfl rfl rfl).otherSlotsOk h
  unfold completeTransaction; dsimp only; split
  · split
    · exact completeWrite_otherSlotsOk _ _ _ hclosed
    · exact hclosed
  · exact hclosed

/-! ### Commands -/

theorem postersStand_enableShaft (s : State) : PostersStand s (enableShaft s).state := by
  unfold enableShaft; repeat' split
  · exact .refl s
  · exact postersStand_of_frame (by simp) (by simp) (by simp) (by simp) (by simp) (by simp)
  · exact .refl s

theorem postersStand_disableShaft (s : State) : PostersStand s (disableShaft s).state := by
  unfold disableShaft; repeat' split
  · exact .refl s
  · exact postersStand_of_frame (by simp) (by simp) (by simp) (by simp) (by simp) (by simp)
  · exact .refl s

theorem postersStand_enableGear (s : State) : PostersStand s (enableGear s).state := by
  unfold enableGear; repeat' split
  · exact .refl s
  · exact .refl s
  · exact postersStand_of_frame rfl rfl rfl rfl rfl rfl
  · exact .refl s

theorem postersStand_disableGear (s : State) : PostersStand s (disableGear s).state := by
  unfold disableGear; repeat' split
  · exact .refl s
  · exact (postersStand_stopGear s).trans (postersStand_of_frame (by simp) (by simp) rfl rfl rfl rfl)
  · exact .refl s

theorem postersStand_learnBaseline (s : State) : PostersStand s (learnBaseline s).state := by
  unfold learnBaseline; split
  · exact .refl s
  · exact postersStand_of_blocks (by simp) (by simp) (by simp) (by simp) (by simp)

theorem ownerAnswer_keepsOtherSlots (p : PortId) (arg : Word) (c : Command) :
    KeepsOtherSlots (fun s => (ownerAnswer p arg c s).state) := by
  intro s h
  dsimp only
  cases c with
  | enable j =>
    cases j with
    | shaft => exact (postersStand_enableShaft s).otherSlotsOk h
    | gear => exact (postersStand_enableGear s).otherSlotsOk h
    | grid => exact enableGrid_otherSlotsOk h
    | coinc => exact enableCoinc_otherSlotsOk h
    | icing => exact (postersStand_enableIcing s).otherSlotsOk h
    | maint => exact enableMaint_otherSlotsOk h
  | disable j =>
    cases j with
    | shaft => exact (postersStand_disableShaft s).otherSlotsOk h
    | gear => exact (postersStand_disableGear s).otherSlotsOk h
    | grid => exact disableGrid_otherSlotsOk h
    | coinc => exact disableCoinc_otherSlotsOk h
    | icing => exact (postersStand_disableIcing s).otherSlotsOk h
    | maint => exact disableMaint_otherSlotsOk h
  | clearCoincidence => exact (postersStand_clearCoincidence s).otherSlotsOk h
  | icingReport => exact (postersStand_icingReport s).otherSlotsOk h
  | icingRelease => exact (postersStand_icingRelease s).otherSlotsOk h
  | learnBaseline => exact (postersStand_learnBaseline s).otherSlotsOk h
  | ackCap => exact (postersStand_ackCap _ s).otherSlotsOk h
  | itemDone => exact itemDone_otherSlotsOk _ h
  | itemDefer => exact itemDefer_otherSlotsOk _ h
  | restartRequest | clockArm | counterRestore | journalAdvance | attnMask =>
    exact (postersStand_of_blocks (by simp [ownerAnswer]) (by simp [ownerAnswer]) (by simp [ownerAnswer]) (by simp [ownerAnswer])
      (by simp [ownerAnswer])).otherSlotsOk h

theorem takeControl_otherSlotsOk {p : PortId} {canonical : Word} {ok : Word → Bool} {arg : Word} {body : State → Reply} {s : State}
    (h : OtherSlotsOk s) (hbody : OtherSlotsOk (body s).state) : OtherSlotsOk (takeControl p canonical ok arg body s) := by
  unfold takeControl; split
  · exact h
  · exact (postersStand_of_blocks (by simp) (by simp) (by simp) (by simp) (by simp)).otherSlotsOk hbody

theorem giveCommand_otherSlotsOk (p : PortId) (arg : Word) (c : Command) {s : State} (h : OtherSlotsOk s) :
    OtherSlotsOk (giveCommand c p arg (ownerAnswer p arg c) s) := by
  refine takeControl_otherSlotsOk h ?_
  unfold permitted; split
  · exact ownerAnswer_keepsOtherSlots p arg c s h
  · exact h

/-! ### A step -/

/-- Every command leaves the three slots as their posters say. -/
theorem exec_otherSlotsOk {c : Instr} {s t : State} (h : OtherSlotsOk s) (he : exec c s = .next t) : OtherSlotsOk t := by
  have hdone : ∀ {t'}, OtherSlotsOk t' → .next t' = exec c s → OtherSlotsOk t := by
    intro t' ht' he'
    obtain rfl : t' = t := by rw [he] at he'; injection he'
    exact ht'
  have hafter : ∀ dt, OtherSlotsOk (s.advance dt) := fun dt => (postersStand_of_blocks rfl rfl rfl rfl rfl).otherSlotsOk h
  have hstands : ∀ {dt t'}, PostersStand (s.advance dt) t' → .next t' = exec c s → OtherSlotsOk t := fun hp =>
    hdone (hp.otherSlotsOk (hafter _))
  have htick : ∀ (b : Prop) [Decidable b] (order : TickOrder), OtherSlotsOk (if b then phaseTick order s else s) := by
    intro b _ order
    split
    · exact phaseTick_keepsOtherSlots order s h
    · exact h
  have hedge : ∀ l dt level, c = edgeOf l dt level → OtherSlotsOk t := fun l dt level hc =>
    hdone (onEdge_otherSlotsOk l level (edgeMeaning_keepsOtherSlots l level) (hafter dt)) (by rw [hc, exec_edgeOf])
  cases hc : controlOf c with
  | some k => exact hdone (giveCommand_otherSlotsOk _ _ _ (hafter k.dt)) (exec_control hc s).symm
  | none =>
    cases c with
    | encoderEdge dt line level =>
      cases line with
      | a => exact hedge .a dt level rfl
      | b => exact hedge .b dt level rfl
    | indexEdge dt level => exact hedge .z dt level rfl
    | toothEdge dt level => exact hedge .t dt level rfl
    | lsIndexEdge dt level => exact hedge .lsz dt level rfl
    | standstillTimerExpiry sd =>
      cases hd : (s.sau.side sd).standstill with
      | none => exact hdone h (by simp only [exec, execStandstillTimerExpiry, hd])
      | some d =>
        exact hstands (dt := d - s.now) (t' := standstillExpire sd (s.advanceTo d))
          (postersStand_of_blocks (by simp) (by simp) (by simp) (by simp) (by simp))
          (by simp only [exec, execStandstillTimerExpiry, hd])
    | linkTimerExpiry =>
      cases hd : s.ocr.link.timer with
      | none => exact hdone h (by simp only [exec, execLinkTimerExpiry, hd])
      | some d =>
        exact hstands (dt := d - s.now) (t' := linkExpire (s.advanceTo d))
          (postersStand_of_blocks (by simp) (by simp) (by simp) (by simp) (by simp))
          (by simp only [exec, execLinkTimerExpiry, hd])
    | lossTimerExpiry =>
      cases hd : s.ghm.loss with
      | none => exact hdone h (by simp only [exec, execLossTimerExpiry, hd])
      | some d =>
        exact hdone (lossExpire_otherSlotsOk (hafter (d - s.now)) (h.grid_of_loss hd))
          (by simp only [exec, execLossTimerExpiry, hd]; rfl)
    | strobe =>
      cases hx : s.ghm.gen with
      | none => exact hdone h (by simp only [exec, execStrobe, hx])
      | some x =>
        cases hd : x.due with
        | none => exact hdone h (by simp only [exec, execStrobe, hx, hd])
        | some d =>
          exact hstands (dt := d - s.now) (postersStand_strobe (s.advanceTo d).now x (s.advanceTo d))
            (by simp only [exec, execStrobe, hx, hd])
    | clockSetDeadline =>
      cases ha : s.cc.armed with
      | none => exact hdone h (by simp only [exec, execClockSetDeadline, ha])
      | some a =>
        exact hstands (dt := a.deadline - s.now) (t' := abandonClock (s.advanceTo a.deadline))
          (postersStand_of_blocks (by simp) (by simp) (by simp) (by simp) (by simp))
          (by simp only [exec, execClockSetDeadline, ha])
    | gzxEdge dt rising =>
      refine hdone (t' := if rising ∧ (s.advance dt).jobs.grid then takeZeroCross (s.advance dt) else s.advance dt) ?_ rfl
      split
      next hg => exact takeZeroCross_otherSlotsOk (hafter dt) hg.2
      next => exact hafter dt
    | gridFrame dt words =>
      refine hstands (dt := dt) ?_ rfl
      split
      · exact postersStand_takeGridFrame _ _
      · exact .refl _
    | ppsEdge dt rising order =>
      refine hdone (t' := _) ?_ rfl
      split
      · split
        · exact (postersStand_of_blocks rfl rfl rfl rfl rfl).otherSlotsOk (hafter dt)
        · exact takePps_keepsOtherSlots order _ (hafter dt)
      · exact hafter dt
    | secondTick order => exact hdone (phaseTick_keepsOtherSlots order s h) rfl
    | ackTimerExpiry order | thawTimerExpiry order | operatingRecordStale order | intervalClose order =>
      exact hdone (htick _ order) rfl
    | sampleSet dt | publishComplete dt | transactionStart dt | transactionHeader dt | headerWord dt | fillerWord dt
    | readDataWord dt | writeDataWord dt | commandWord dt | portReset dt | portResetRelease dt =>
      exact hstands (dt := dt) (postersStand_of_blocks (by simp) (by simp) (by simp) (by simp) (by simp)) rfl
    | recordWrite dt p => exact hdone (completeTransaction_otherSlotsOk p (hafter dt)) rfl
    | operatingArrival dt | statusWrite dt | shaftConfigurationWrite dt | gridConfigurationWrite dt | watchConfigurationWrite dt
    | icingConfigurationWrite dt => exact hdone (writeWhole_otherSlotsOk _ _ _ _ (hafter dt)) rfl
    | lineDefinitionWrite dt p n ws =>
      refine hdone (t' := if n < 24 then writeWhole p 3 n ws (s.advance dt) else s.advance dt) ?_ rfl
      split
      · exact writeWhole_otherSlotsOk _ _ _ _ (hafter dt)
      · exact hafter dt
    | itemDefinitionWrite dt p n ws =>
      refine hdone (t' := if n < 32 then writeWhole p 13 n ws (s.advance dt) else s.advance dt) ?_ rfl
      split
      · exact writeWhole_otherSlotsOk _ _ _ _ (hafter dt)
      · exact hafter dt
    | unknownCommand dt p command arg =>
      refine hdone (t' := takeUnknown p command arg (s.advance dt)) ?_ rfl
      unfold takeUnknown; split
      · exact takeControl_otherSlotsOk (hafter dt) (hafter dt)
      · exact hafter dt
    | invalidJobCode dt p enable job arg =>
      refine hdone (t' := takeNoJob p enable job arg (s.advance dt)) ?_ rfl
      unfold takeNoJob; split
      · exact takeControl_otherSlotsOk (hafter dt) (hafter dt)
      · exact hafter dt
    | partReset a b d =>
      exact hdone (t' := partReset a b d s) ((postersStand_of_blocks (s := State.reset) rfl rfl rfl rfl rfl).otherSlotsOk reset_otherSlotsOk) rfl
    | _ => exact absurd hc (nofun)

/-- Settles O51: each command of the queue keeps the slots of the three posters. -/
theorem otherSlotsFollowTheirPosters : Obligations.OtherSlotsFollowTheirPosters := by
  intro s t h hstep
  unfold step at hstep
  split at hstep
  · injection hstep with hstep
    exact hstep ▸ h
  next c rest _ =>
    exact exec_otherSlotsOk ((postersStand_of_blocks (t := { s with pending := rest }) rfl rfl rfl rfl rfl).otherSlotsOk h) hstep

end Sys2Proof.Machine

/-! PROOFS. Strobes, grid frames and the commands of the GRID job (StrobesShareOutThePeriod, GridFrameAnswersTheStrobe, GridJobCommands). -/

namespace Sys2Proof.Machine

/-! ### Strobes (R67, R69) -/

theorem exec_strobe_none {s : State} (h : ∀ x, s.ghm.gen = some x → x.due = none) : exec .strobe s = .next s := by
  cases hx : s.ghm.gen with
  | none => simp only [exec, execStrobe, hx]
  | some x => simp only [exec, execStrobe, hx, h x hx]

theorem exec_strobe_due {s : State} {x : StrobeGen} {d : Nat} (hx : s.ghm.gen = some x) (hd : x.due = some d) :
    exec .strobe s = .next ((s.advanceTo d).setGhm ((s.advanceTo d).ghm.strobe (s.advanceTo d).now x)) := by
  simp only [exec, execStrobe, hx, hd]

theorem Ghm.closeOutstanding_none {g : Ghm} (h : g.outstanding = none) : g.closeOutstanding = g := by
  simp only [Ghm.closeOutstanding, h]

theorem Ghm.closeOutstanding_some {g : Ghm} {i : Nat} (h : g.outstanding = some i) :
    g.closeOutstanding = { g with window := g.window.map (Window.close g.samples true i), outstanding := none } := by
  simp only [Ghm.closeOutstanding, h]
  rfl

theorem Ghm.closeOutstanding_idle {g : Ghm} (h : g.window = none) : g.closeOutstanding.window = none := by
  unfold Ghm.closeOutstanding; split <;> simp [Ghm.closePosition, h]

/-- What a strobe leaves beside window, generator and outstanding position. -/
theorem Ghm.strobe_eq (now : Nat) (x : StrobeGen) (g : Ghm) :
    g.strobe now x = { g with
      window := g.closeOutstanding.window, gen := some (x.issue now), outstanding := some x.next, strobes := g.strobes + 1 } := by
  have hcloses : g.closeOutstanding = _ := g.closeOutstanding_closes
  unfold Ghm.strobe
  rw [hcloses]

/-- Of `n` intervals the first `r` are one tick longer. -/
theorem sum_intervals (b r n : Nat) (h : r ≤ n) :
    ((List.range n).map (fun i => if i + 1 ≤ r then b + 1 else b)).sum = n * b + r := by
  induction n generalizing r with
  | zero => simp [Nat.le_zero.1 h]
  | succ n ih =>
    rw [List.range_succ, List.map_append, List.sum_append, List.map_singleton, List.sum_singleton, Nat.succ_mul]
    by_cases hr : r = n + 1
    · have hall : (List.range n).map (fun i => if i + 1 ≤ r then b + 1 else b) =
          (List.range n).map (fun i => if i + 1 ≤ n then b + 1 else b) :=
        List.map_congr_left fun i hi => by have := List.mem_range.1 hi; rw [if_pos (by omega), if_pos (by omega)]
      rw [hall, ih n le_rfl, if_pos (by omega)]
      omega
    · rw [ih r (by omega), if_neg (by omega)]
      omega

/-- Settles O18: a strobe closes what is outstanding and issues the next, and P = 128 × (P / 128) + P mod 128. -/
theorem strobesShareOutThePeriod : Obligations.StrobesShareOutThePeriod := by
  unfold Obligations.StrobesShareOutThePeriod
  refine ⟨fun s => exec_strobe_none, fun s x d hx hd => ?_, fun P next due => ?_⟩
  · intro u
    have hexec : exec .strobe s = .next (u.setGhm (u.ghm.strobe u.now x)) := exec_strobe_due hx hd
    refine ⟨_, hexec, by simp [onlyTouches_iff], ?_⟩
    rw [State.setGhm_ghm, Ghm.strobe_eq]
    refine ⟨rfl, rfl, rfl, fun hnone => ?_, fun hidle => u.ghm.closeOutstanding_idle hidle, fun i w hi hw => ?_⟩
    · change u.ghm.closeOutstanding.window = _
      rw [Ghm.closeOutstanding_none hnone]
    · change u.ghm.closeOutstanding.window = _
      rw [Ghm.closeOutstanding_some hi]
      dsimp only
      rw [hw]
      rfl
  · have hsum := sum_intervals (P / 128) (P % 128) 127 (by omega)
    unfold StrobeGen.interval
    dsimp only
    rw [hsum]
    omega

/-! ### Grid frames (R69, R70, R72) -/

/-- The table index of the statements is that of the model (R72, R32). -/
theorem gridIndex_eq (h p : Nat) : gridIndex h p = 2 * h * p % 256 := by
  have hphase : p * (512 * h) = 256 * (2 * h * p) := by ring
  unfold gridIndex tableIndex
  rw [hphase, show (65536 : Nat) = 256 * 256 from rfl, Nat.mul_mod_mul_left, Nat.mul_div_cancel_left _ (by decide)]

/-- One sample in one slot of the sums (R34, R72). -/
theorem IQ.add_gridIndex (a : IQ) (x : Int) (h p : Nat) :
    a.add x (gridIndex h p) =
      ⟨a.i + x * cosTable (2 * h * p % 256), a.q + x * cosTable ((2 * h * p + 192) % 256)⟩ := by
  rw [gridIndex_eq]
  unfold IQ.add sinTable
  rw [Nat.mod_add_mod]

theorem addSlots_eq (slots : List Nat) (p : Nat) :
    addSlots slots p = fun x a => List.zipWith (fun h (y : IQ) => if h = 0 then y
      else ⟨y.i + x * cosTable (2 * h * p % 256), y.q + x * cosTable ((2 * h * p + 192) % 256)⟩) slots a := by
  funext x a
  simp only [addSlots, IQ.add_gridIndex]

theorem burstSamples_eq {ws : List LinkWord} (h : ws.length = 6) :
    (List.range 6).map (burstSample ws) = ws.map (fun w => w.sample.toInt) := by
  refine List.ext_getElem (by simp [h]) fun k hk _ => ?_
  have hlen : k < ws.length := by simpa [h] using hk
  simp [burstSample, List.getD, hlen]

theorem takeGridFrame_dropped {ws : List LinkWord} {s : State} (h : burstGood 6 ws = false ∨ s.ghm.outstanding = none) :
    takeGridFrame ws s = dropGridFrame s := by
  unfold takeGridFrame
  split
  next i hi =>
    refine if_neg ?_
    rcases h with h | h
    · simp [h]
    · rw [hi] at h; cases h
  next => rfl

theorem takeGridFrame_good {ws : List LinkWord} {s : State} {i : Nat} (h : burstGood 6 ws = true)
    (hi : s.ghm.outstanding = some i) : takeGridFrame ws s = s.setGhm (s.ghm.takeFrame ws i) := by
  unfold takeGridFrame
  rw [hi]
  exact if_pos h

/-- Settles O19: a good burst that is awaited closes its position, any other is dropped. -/
theorem gridFrameAnswersTheStrobe : Obligations.GridFrameAnswersTheStrobe := by
  unfold Obligations.GridFrameAnswersTheStrobe
  intro dt words s u good
  have hgood : burstGood 6 words = true ↔ good := burstGood_iff 6 words
  have hexec : exec (.gridFrame dt words) s = .next (if u.jobs.grid then takeGridFrame words u else u) := rfl
  refine ⟨fun hg => ?_, fun hg hbad => ?_, fun hg hb i hi => ?_⟩
  · rw [hexec, if_neg (by simp [hg])]
  · have hdrop : burstGood 6 words = false ∨ u.ghm.outstanding = none := hbad.imp_left fun hb => by simpa [← hgood] using hb
    rw [hexec, if_pos hg, takeGridFrame_dropped hdrop]
    rfl
  · rw [hexec, if_pos hg, takeGridFrame_good (hgood.2 hb) hi]
    unfold Ghm.takeFrame Ghm.closePosition Window.close
    simp only [burstSamples_eq hb.1, addSlots_eq]
    rfl

/-! ### ENABLE GRID and DISABLE GRID (R81, R82, R86) -/

theorem enableGrid_accepts {s : State} (h : s.jobs.grid = false) (hh : ∃ n ∈ s.ghm.config.h, n ≠ 0) :
    enableGrid s = accept ((s.setGhm s.ghm.enable).setJobs { s.jobs with grid := true }) := by
  unfold enableGrid
  rw [if_neg (by simp [h]), if_neg (by simpa using hh)]

theorem disableGrid_accepts {s : State} (hc : s.jobs.coinc = false) (h : s.jobs.grid = true) :
    disableGrid s = accept ((stopGrid s).setJobs { s.jobs with grid := false }) :=
  (if_neg (by simp [hc])).trans (if_pos h)

/-- Without a snapshot every entry shows 0 (log entry 43). -/
theorem Cw.show_forgotten (c : Cw) :
    ({ c with elec := none } : Cw).show = { c with elec := none, entryHigh := List.replicate 8 0 } := by
  simp [Cw.show, List.map_const']

theorem boardChange_lb_congr {s t : State} (cs : List SlotChange) (hlb : t.lb = s.lb) (hcc : t.cc = s.cc) :
    (boardChange cs t).lb = (boardChange cs s).lb := by
  rw [boardChange_lb, boardChange_lb, hlb, hcc]

theorem stopGrid_withdraws {s : State} (h : s.ghm.exceeding = true) :
    (stopGrid s).lb = (boardChange [⟨3, .withdraw⟩] s).lb := by
  simp only [stopGrid, coincForgetGrid_frame, startPublish_frame]
  rw [if_pos h]
  exact boardChange_lb_congr _ (by simp) (by simp)

/-- The roles that may give the commands of the GRID job (R193). -/
theorem mem_givers_grid {r : Role} (h : r ≠ .observer) : r ∈ [Role.turbine, .converter, .farm] := by
  cases r <;> simp at h ⊢

/-- Settles O20: both commands leave the monitor as `Ghm.enable` says; DISABLE GRID first ends a COLLECTING window. -/
theorem gridJobCommands : Obligations.GridJobCommands := by
  unfold Obligations.GridJobCommands
  intro dt p arg raw s u idle
  refine ⟨fun hr hd h hh => ?_, fun hr hd hc h => ?_⟩
  · have hexec := exec_delivered (i := .enableGrid dt p arg) (k := ⟨dt, p, .enable .grid, arg⟩) rfl hd (mem_givers_grid hr)
    dsimp only [ownerAnswer] at hexec
    rw [enableGrid_accepts h hh] at hexec
    exact hexec
  · have hexec := exec_delivered (i := .disableGrid dt p arg) (k := ⟨dt, p, .disable .grid, arg⟩) rfl hd (mem_givers_grid hr)
    dsimp only [ownerAnswer] at hexec
    rw [disableGrid_accepts hc h] at hexec
    obtain ⟨-, hother, hwithdraw, hstand⟩ := stopGrid_slots u
    refine ⟨_, hexec, by simp [onlyTouches_iff], rfl, fun hw => ?_, fun w hw => ?_, hwithdraw, stopGrid_withdraws, hstand,
      fun k hk => hother k (by simpa using hk), ?_, ?_⟩
    · simp only [writeResult_frame, accept_state, State.setJobs_ghm, stopGrid_ghm]
      exact if_neg (by simp [hw])
    · simp only [writeResult_frame, accept_state, State.setJobs_ghm, stopGrid_ghm]
      exact if_pos (by simp [hw])
    · simp only [writeResult_frame, accept_state, State.setJobs_cw, stopGrid_watch]
      exact Cw.show_forgotten u.cw
    · exact State.answered_pi_congr (by simp)

end Sys2Proof.Machine

/-! PROOFS. What the end of a window or a block announces and leaves of the grid monitor, and the loss timer (LossTimerUnlocks). -/

namespace Sys2Proof.Machine

/-! ### Announcements (R172, R175) -/

/-- From `s` to `t` at most `n` entries are appended, and no flag is cleared. -/
structure Announces (n : Nat) (s t : State) : Prop where
  logs : ∃ bs, bs.length ≤ n ∧ Logs bs s t
  flags : ∀ p f, (s.rep.get p).hasFlag f = true → (t.rep.get p).hasFlag f = true

theorem Announces.trans {n m : Nat} {s t u : State} (h : Announces n s t) (h' : Announces m t u) : Announces (n + m) s u where
  logs := by
    obtain ⟨bs, hbs, hlogs⟩ := h.logs
    obtain ⟨cs, hcs, hlogs'⟩ := h'.logs
    exact ⟨bs ++ cs, by rw [List.length_append]; omega, hlogs.trans hlogs'⟩
  flags p f hf := h'.flags p f (h.flags p f hf)

theorem Announces.mono {n m : Nat} {s t : State} (h : Announces n s t) (hnm : n ≤ m) : Announces m s t :=
  ⟨h.logs.imp fun _ ⟨hbs, hlogs⟩ => ⟨hbs.trans hnm, hlogs⟩, h.flags⟩

theorem announces_of_eq {s t : State} (hej : t.ej = s.ej) (hcc : t.cc = s.cc) (hrep : t.rep = s.rep) : Announces 0 s t :=
  ⟨⟨[], le_rfl, logs_nil hej hcc⟩, fun p f hf => by rw [hrep]; exact hf⟩

theorem announces_journalAll (bs : List EntryBody) (s : State) : Announces bs.length s (s.journalAll bs) :=
  ⟨⟨bs, le_rfl, logs_journalAll bs s⟩, fun p f hf => by simpa using hf⟩

theorem announces_startPublish (g : Nat) (recs : List Nat) (before s : State) : Announces 0 s (startPublish g recs before s) :=
  announces_of_eq rfl rfl rfl

theorem announces_boardChange (cs : List SlotChange) (s : State) : Announces 1 s (boardChange cs s) where
  logs := by
    unfold boardChange; dsimp only; split
    · exact ⟨[], by simp, logs_nil rfl rfl⟩
    · refine ⟨boardEntry s.lb _, ?_, Logs.congr_left (Logs.congr (logs_journalAll _ (s.setLb _)) rfl rfl) rfl rfl⟩
      unfold boardEntry; split <;> simp
  flags p f hf := by simpa using hf

theorem announces_latchReport (before : Cw) (s : State) : Announces 1 s (latchReport before s) where
  logs := by
    unfold latchReport; split
    · exact ⟨[coincEntry s.cw], le_rfl, (logs_journal (coincEntry s.cw) s).congr (by simp [coincEntry]) (by simp)⟩
    · exact ⟨[], by simp, logs_nil rfl rfl⟩
  flags p f hf := latchReport_keepsFlag before s p f hf

theorem announces_coincEvent (cause : EvalCause) (f : Cw → Cw) (s : State) : Announces 2 s (coincEvent cause f s) := by
  have htaken : ∀ x : Cw, Announces 0 s (s.setCw x) := fun x => announces_of_eq rfl rfl rfl
  cases hj : s.jobs.coinc with
  | true =>
    rw [coincEvent_on hj]
    exact (((htaken _).trans (announces_latchReport _ _)).trans (announces_boardChange _ _)).trans (announces_startPublish _ _ _ _)
  | false =>
    rw [coincEvent_off hj]
    exact (((htaken _).trans (announces_boardChange _ _)).trans (announces_startPublish _ _ _ _)).mono (Nat.le_succ _)

/-- The state in which a VALID block reaches the watch: judged, its change of conformance journalled and posted, published. -/
def blockConformed (slots : List Nat) (s : State) : State :=
  let g := s.ghm.validBlock slots
  startPublish 6 blockRecords s
    (boardChange (conformancePosting s.ghm g) ((s.setGhm g).journalAll (conformanceReport s.ghm g)))

theorem evaluateBlock_valid {s : State} (h : 8 ≤ s.ghm.block.nValid) :
    evaluateBlock s = coincTakeBlock (s.ghm.block.slots.getD (List.replicate 16 0))
      (blockConformed (s.ghm.block.slots.getD (List.replicate 16 0)) s) :=
  if_neg (Nat.not_lt.mpr h)

theorem evaluateBlock_invalid {s : State} (h : s.ghm.block.nValid < 8) :
    evaluateBlock s = startPublish 6 blockRecords s (s.setGhm s.ghm.invalidBlock) :=
  if_pos h

theorem conformanceReport_length (a b : Ghm) : (conformanceReport a b).length ≤ 1 := by
  unfold conformanceReport; split <;> simp

theorem announces_blockConformed (slots : List Nat) (s : State) : Announces 2 s (blockConformed slots s) := by
  let g := s.ghm.validBlock slots
  let reported := (s.setGhm g).journalAll (conformanceReport s.ghm g)
  have hset : Announces 0 s (s.setGhm g) := announces_of_eq rfl rfl rfl
  have hreport : Announces 1 (s.setGhm g) reported := (announces_journalAll _ _).mono (conformanceReport_length _ _)
  have hboard : Announces 1 reported (boardChange (conformancePosting s.ghm g) reported) := announces_boardChange _ _
  exact ((hset.trans hreport).trans hboard).trans (announces_startPublish 6 blockRecords s _)

/-- The end of a block makes at most the CONFORMANCE entry, the COINC entry and a BOARD entry for each of two slots. -/
theorem announces_tryBlock (s : State) : Announces 4 s (tryBlock s) := by
  unfold tryBlock; split
  · rcases Nat.lt_or_ge s.ghm.block.nValid 8 with hn | hn
    · have hinvalid : Announces 0 s (evaluateBlock s) := by rw [evaluateBlock_invalid hn]; exact announces_of_eq rfl rfl rfl
      exact hinvalid.mono (Nat.zero_le 4)
    · rw [evaluateBlock_valid hn]
      exact (announces_blockConformed _ s).trans (announces_coincEvent _ _ _)
  · have hsame : Announces 0 s s := announces_of_eq rfl rfl rfl
    exact hsame.mono (Nat.zero_le 4)

theorem announces_windowEvaluated (w : Window) (s : State) : Announces 4 s (windowEvaluated w s) := by
  have hset : ∀ g, Announces 0 s (startPublish 6 windowRecords s (s.setGhm g)) := fun g => announces_of_eq rfl rfl rfl
  exact ((hset _).trans (announces_tryBlock _)).mono (by decide)

theorem announces_windowDiscarded (cause : WindowCause) (s : State) : Announces 4 s (windowDiscarded cause s) := by
  have hset : ∀ g, Announces 0 s (startPublish 6 windowRecords s (s.setGhm g)) := fun g => announces_of_eq rfl rfl rfl
  unfold windowDiscarded; split
  · exact ((hset _).trans (announces_tryBlock _)).mono (by decide)
  · exact (announces_of_eq rfl rfl rfl).mono (by decide)

theorem announces_leaveLocked (cause : WindowCause) (s : State) : Announces 4 s (leaveLocked cause s) := by
  have hset : Announces 0 s (s.setGhm { s.ghm.closeOutstanding with gen := none }) := announces_of_eq rfl rfl rfl
  exact (hset.trans (announces_windowDiscarded cause _)).mono (by decide)

theorem announces_countCycle (s : State) : Announces 4 s (countCycle s) := by
  unfold countCycle; dsimp only; split
  · exact (announces_of_eq rfl rfl rfl).mono (by decide)
  · split
    · have hcounted : ∀ g, Announces 0 s (s.setGhm g) := fun g => announces_of_eq rfl rfl rfl
      exact (hcounted _).mono (Nat.zero_le 4)
    · unfold completeWindow; split
      · exact announces_windowDiscarded _ s
      · exact announces_windowEvaluated _ s

theorem announces_lockedEdge (s : State) : Announces 4 s (lockedEdge s) := by
  have hset : ∀ (t : State) (g : Ghm), Announces 0 t (t.setGhm g) := fun t g => announces_of_eq rfl rfl rfl
  unfold lockedEdge; dsimp only; split
  · exact (((hset s _).trans (announces_countCycle _)).trans (hset _ _)).mono (by decide)
  · exact (hset s _).mono (Nat.zero_le 4)

/-! ### The end of a block, as the monitor sees it (R76 to R79) -/

/-- The monitor once a block that has its fifteen completions is evaluated (R76). -/
def Ghm.endBlock (g : Ghm) : Ghm :=
  if 15 ≤ g.block.count then
    if g.block.nValid < 8 then g.invalidBlock else g.validBlock (g.block.slots.getD (List.replicate 16 0))
  else g

theorem tryBlock_ghm (s : State) : (tryBlock s).ghm = s.ghm.endBlock := by
  unfold tryBlock evaluateBlock Ghm.endBlock; dsimp only
  split
  · split <;> simp
  · rfl

theorem windowDiscarded_ghm {cause : WindowCause} {s : State} (h : s.ghm.window.isSome = true) :
    (windowDiscarded cause s).ghm = ({ s.ghm.discardWindow cause with block := s.ghm.block.countOne } : Ghm).endBlock := by
  unfold windowDiscarded
  rw [if_pos h, tryBlock_ghm]
  rfl

theorem windowDiscarded_idle {cause : WindowCause} {s : State} (h : s.ghm.window = none) : windowDiscarded cause s = s :=
  if_neg (by simp [h])

theorem windowEvaluated_ghm (w : Window) (s : State) :
    (windowEvaluated w s).ghm =
      ({ s.ghm.evaluateWindow s.now w with
        block := s.ghm.block.takeWindow w.slots (s.ghm.evaluateWindow s.now w).chan } : Ghm).endBlock := by
  unfold windowEvaluated
  rw [tryBlock_ghm]
  rfl

/-- The evaluation of a block changes its results, the conformance and the block under way alone. -/
def Ghm.BlockEnds (g g' : Ghm) : Prop :=
  g' = { g with
    block := g'.block, blockSeq := g'.blockSeq, blockOutcome := g'.blockOutcome, blockChan := g'.blockChan,
    thdMarks := g'.thdMarks, exceeded := g'.exceeded, exceeding := g'.exceeding, exceedCount := g'.exceedCount,
    clearCount := g'.clearCount }

theorem Ghm.endBlock_ends (g : Ghm) : g.BlockEnds g.endBlock := by
  unfold Ghm.BlockEnds Ghm.endBlock
  split
  · split
    · rfl
    · unfold Ghm.validBlock Ghm.conform Ghm.judgeBlock; dsimp only; repeat' split
      all_goals rfl
  · rfl

/-! ### Leaving LOCKED (R66, R68) -/

@[simp] theorem Ghm.closeOutstanding_outstanding (g : Ghm) : g.closeOutstanding.outstanding = none := by
  unfold Ghm.closeOutstanding; split
  · rfl
  · assumption

theorem Ghm.closeOutstanding_isSome (g : Ghm) : g.closeOutstanding.window.isSome = g.window.isSome := by
  unfold Ghm.closeOutstanding; split <;> simp [Ghm.closePosition]

/-- A monitor that has left LOCKED: no generator, no outstanding position, no window, and the end of the window it was in; a block that this ends
is evaluated. -/
structure Ghm.Unlocks (cause : WindowCause) (g g' : Ghm) : Prop where
  gen : g'.gen = none
  outstanding : g'.outstanding = none
  window : g'.window = none
  lock : g'.lock = g.lock
  edgeRef : g'.edgeRef = g.edgeRef
  loss : g'.loss = g.loss
  measured : g'.measured = g.measured
  held : g'.held = g.held
  valid : g'.valid = g.valid
  chan : g'.chan = g.chan
  discarded : g.window.isSome = true → g'.windowSeq = (g.windowSeq + 1) % 65536 ∧ g'.outcome = .discarded ∧ g'.cause = cause

theorem leaveLocked_unlocks (cause : WindowCause) (s : State) : s.ghm.Unlocks cause (leaveLocked cause s).ghm := by
  have hcloses : s.ghm.closeOutstanding = _ := s.ghm.closeOutstanding_closes
  have hsome := s.ghm.closeOutstanding_isSome
  have hnone := s.ghm.closeOutstanding_outstanding
  unfold leaveLocked
  cases hw : s.ghm.closeOutstanding.window with
  | none =>
    rw [hw] at hsome
    rw [windowDiscarded_idle hw, State.setGhm_ghm]
    exact ⟨rfl, hnone, hw, by rw [hcloses], by rw [hcloses], by rw [hcloses], by rw [hcloses], by rw [hcloses], by rw [hcloses],
      by rw [hcloses], fun h => absurd (hsome.trans h) (by decide)⟩
  | some w =>
    rw [windowDiscarded_ghm (by simp [hw]), State.setGhm_ghm, hcloses]
    rw [(Ghm.endBlock_ends _ : _ = _)]
    exact ⟨rfl, hnone, rfl, rfl, rfl, rfl, rfl, rfl, rfl, rfl, fun _ => ⟨rfl, rfl, rfl⟩⟩

/-! ### The loss timer (R65, R66) -/

/-- The monitor as the expiry of its loss timer leaves it, before LOCKED is left. -/
def Ghm.lost (g : Ghm) : Ghm := { g with loss := none, edgeRef := none, valid := 0, lock := .unlocked }

/-- The loss reported: flag and LOCK entry. -/
def lossReported (s : State) : State := ((s.setGhm s.ghm.lost).raise .unlocked).journal (lockEntry s.ghm.lock .unlocked 0)

theorem lossExpire_unlocked {s : State} (h : s.ghm.lock = .unlocked) :
    lossExpire s = s.setGhm { s.ghm with loss := none, edgeRef := none, valid := 0 } := by
  refine (if_pos h).trans ?_
  rw [← h]

theorem lossExpire_locked {s : State} (h : s.ghm.lock = .locked) : lossExpire s = leaveLocked .unlocked (lossReported s) :=
  (if_neg (by simp [h])).trans (if_pos h)

theorem lossExpire_freqOut {s : State} (h : s.ghm.lock = .freqOut) : lossExpire s = lossReported s :=
  (if_neg (by simp [h])).trans (if_neg (by simp [h]))

@[simp] theorem lossReported_ghm (s : State) : (lossReported s).ghm = s.ghm.lost := by simp [lossReported]

theorem logs_lossReported (s : State) : Logs [lockEntry s.ghm.lock .unlocked 0] s (lossReported s) :=
  (logs_journal _ (State.raise (s.setGhm s.ghm.lost) .unlocked)).congr_left rfl rfl

/-- The flag of an expiry and its LOCK entry, after which at most four others follow. -/
theorem lossReported_announced {s t : State} (h : Announces 4 (lossReported s) t) :
    FlagInEveryCopy .unlocked t ∧
      ∃ e ∈ t.ej.ring, e.seq = s.ej.next ∧ e.source = .ghm ∧ e.kind = .lock ∧ e.fromState = some s.ghm.lock.code ∧
        e.toState = some LockState.unlocked.code ∧ e.value = 0 := by
  obtain ⟨bs, hbs, hlogs⟩ := h.logs
  exact ⟨fun p => h.flags p _ (by simp [lossReported]), _,
    Logs.mem (first := []) ((logs_lossReported s).trans hlogs) (by simp; omega), rfl, rfl, rfl, rfl, rfl, rfl⟩

/-- Settles O17, by the lock state that the expiry finds. -/
theorem lossTimerUnlocks : Obligations.LossTimerUnlocks := by
  unfold Obligations.LossTimerUnlocks
  intro s d hd u
  have hexec : exec .lossTimerExpiry s = .next (lossExpire u) := by simp only [exec, execLossTimerExpiry, hd, u]
  refine ⟨lossExpire u, hexec, by simp [onlyTouches_iff], ?_⟩
  cases hlock : u.ghm.lock with
  | unlocked =>
    rw [lossExpire_unlocked hlock]
    exact ⟨rfl, rfl, rfl, hlock, rfl, fun _ => rfl, fun h => absurd rfl h, nofun, nofun⟩
  | freqOut =>
    rw [lossExpire_freqOut hlock]
    have hsaid := lossReported_announced ((announces_of_eq (s := lossReported u) rfl rfl rfl).mono (by decide))
    rw [hlock] at hsaid
    rw [lossReported_ghm]
    exact ⟨rfl, rfl, rfl, rfl, rfl, nofun, fun _ => hsaid, nofun, nofun⟩
  | locked =>
    rw [lossExpire_locked hlock]
    have hsaid := lossReported_announced (announces_leaveLocked .unlocked (lossReported u))
    rw [hlock] at hsaid
    have hleft := leaveLocked_unlocks .unlocked (lossReported u)
    rw [lossReported_ghm] at hleft
    exact ⟨hleft.loss, hleft.edgeRef, hleft.valid, hleft.lock, hleft.held, nofun, fun _ => hsaid,
      fun _ => ⟨hleft.gen, hleft.outstanding, hleft.window⟩, fun w _ hw => hleft.discarded (by simp [Ghm.lost, hw])⟩

end Sys2Proof.Machine

/-! PROOFS. A zero-cross edge: the period, the lock machine, its reports, and the cycle that starts (ZeroCrossMeasuresAndLocks). -/

namespace Sys2Proof.Machine

/-! ### The edge (R63) -/

theorem exec_gzxEdge (dt : Nat) (rising : Bool) (s : State) :
    exec (.gzxEdge dt rising) s =
      .next (if rising ∧ (s.advance dt).jobs.grid then takeZeroCross (s.advance dt) else s.advance dt) := rfl

theorem exec_gzxEdge_taken {dt : Nat} {s : State} (h : (s.advance dt).jobs.grid = true) :
    exec (.gzxEdge dt true) s = .next (takeZeroCross (s.advance dt)) := by
  rw [exec_gzxEdge, if_pos ⟨rfl, h⟩]

theorem takeZeroCross_first {s : State} (h : s.ghm.edgeRef = none) : takeZeroCross s = s.setGhm (s.ghm.refer s.now) := by
  simp [takeZeroCross, Ghm.heldOff, h]

theorem takeZeroCross_heldOff {s : State} {r : Nat} (h : s.ghm.edgeRef = some r) (hr : s.now < r + 200000) :
    takeZeroCross s = s.setGhm { s.ghm with ignored := min 65535 (s.ghm.ignored + 1) } :=
  if_pos (by simp [Ghm.heldOff, h, hr])

theorem takeZeroCross_measures {s : State} {r : Nat} (h : s.ghm.edgeRef = some r) (hr : r + 200000 ≤ s.now) :
    takeZeroCross s = measuredEdge (s.now - r) s := by
  refine (if_neg (by simp [Ghm.heldOff, h, hr])).trans ?_
  rw [h]

/-! ### Period and lock (R63, R64, R66) -/

theorem LockState.next_eq (valid : Bool) (count : Nat) (l : LockState) : l.next valid count = lockTable l valid count := by
  cases l <;> cases valid <;> rfl

theorem lockTable_locked {l : LockState} {valid : Bool} {count : Nat} (h : lockTable l valid count = .locked) : valid = true := by
  cases valid with
  | true => rfl
  | false => cases l <;> cases h

theorem Ghm.measure_eq (p : Nat) (g : Ghm) :
    let valid := decide (615385 ≤ p ∧ p ≤ 888888)
    let count := if valid then min 2 (g.valid + 1) else 0
    g.measure p = { g with
      measured := p, held := if valid then p else g.held, valid := count, lock := lockTable g.lock valid count } := by
  intro valid count
  have hvalid : periodValid p = valid := by simp [periodValid, valid]
  simp only [Ghm.measure, hvalid, LockState.next_eq]
  rfl

/-- The edge measured, referred to and reported; the lock state has changed, the running cycle has not. -/
def edgeReported (p : Nat) (s : State) : State :=
  lockReport s.ghm.lock (s.ghm.measure p).lock p (s.setGhm ((s.ghm.measure p).refer s.now))

@[simp] theorem edgeReported_ghm (p : Nat) (s : State) : (edgeReported p s).ghm = (s.ghm.measure p).refer s.now := by
  simp [edgeReported]

theorem measuredEdge_locked {p : Nat} {s : State} (h : (s.ghm.measure p).lock = .locked) :
    measuredEdge p s = lockedEdge (edgeReported p s) :=
  if_pos ((congrArg Ghm.lock (edgeReported_ghm p s)).trans h)

theorem edgeReported_lock_ne {p : Nat} {s : State} (h : (s.ghm.measure p).lock ≠ .locked) : (edgeReported p s).ghm.lock ≠ .locked := by
  rw [edgeReported_ghm]; exact h

theorem measuredEdge_left {p : Nat} {s : State} (h : (s.ghm.measure p).lock ≠ .locked) (hs : s.ghm.lock = .locked) :
    measuredEdge p s = leaveLocked .freqOut (edgeReported p s) :=
  (if_neg (edgeReported_lock_ne h)).trans (if_pos hs)

theorem measuredEdge_unlocked {p : Nat} {s : State} (h : (s.ghm.measure p).lock ≠ .locked) (hs : s.ghm.lock ≠ .locked) :
    measuredEdge p s = edgeReported p s :=
  (if_neg (edgeReported_lock_ne h)).trans (if_neg hs)

theorem edgeReported_same {p : Nat} {s : State} (h : (s.ghm.measure p).lock = s.ghm.lock) :
    edgeReported p s = s.setGhm ((s.ghm.measure p).refer s.now) :=
  if_pos h.symm

theorem edgeReported_changed {p : Nat} {s : State} (h : (s.ghm.measure p).lock ≠ s.ghm.lock) :
    edgeReported p s = ((s.setGhm ((s.ghm.measure p).refer s.now)).raiseIf ((s.ghm.measure p).lock = .freqOut) .freqOut).journal
      (lockEntry s.ghm.lock (s.ghm.measure p).lock p) :=
  if_neg (Ne.symm h)

theorem announces_measuredEdge (p : Nat) (s : State) : Announces 4 (edgeReported p s) (measuredEdge p s) := by
  by_cases h : (s.ghm.measure p).lock = .locked
  · rw [measuredEdge_locked h]; exact announces_lockedEdge _
  · by_cases hs : s.ghm.lock = .locked
    · rw [measuredEdge_left h hs]; exact announces_leaveLocked _ _
    · have hsame : Announces 0 (edgeReported p s) (edgeReported p s) := announces_of_eq rfl rfl rfl
      rw [measuredEdge_unlocked h hs]
      exact hsame.mono (Nat.zero_le 4)

/-- A change of lock state has its LOCK entry, and its flag when it is to FREQ_OUT (R66). -/
theorem measuredEdge_announced {p : Nat} {s : State} (h : (s.ghm.measure p).lock ≠ s.ghm.lock) :
    ((s.ghm.measure p).lock = .freqOut → FlagInEveryCopy .freqOut (measuredEdge p s)) ∧
      ∃ e ∈ (measuredEdge p s).ej.ring, e.seq = s.ej.next ∧ e.source = .ghm ∧ e.kind = .lock ∧
        e.fromState = some s.ghm.lock.code ∧ e.toState = some (s.ghm.measure p).lock.code := by
  have hannounces := announces_measuredEdge p s
  obtain ⟨bs, hbs, hlogs⟩ := hannounces.logs
  have hentry : Logs [lockEntry s.ghm.lock (s.ghm.measure p).lock p] s (edgeReported p s) := by
    rw [edgeReported_changed h]
    exact (logs_journal _ _).congr_left (by simp) (by simp)
  refine ⟨fun hfreq q => hannounces.flags q _ ?_, _, Logs.mem (first := []) (hentry.trans hlogs) (by simp; omega), rfl, rfl, rfl, rfl, rfl⟩
  rw [edgeReported_changed h, hfreq]
  simp [State.raiseIf]

/-! ### A closed cycle and the one that starts (R67, R68, R71, R73) -/

/-- What the end of a cycle, with the window and the block it may complete, leaves of the monitor. -/
def Ghm.CountsCycle (g g' : Ghm) : Prop :=
  g' = { g with
    outstanding := g'.outstanding, window := g'.window, windowSeq := g'.windowSeq, outcome := g'.outcome,
    degraded := g'.degraded, cause := g'.cause, lastSlots := g'.lastSlots, lastMissing := g'.lastMissing, chan := g'.chan,
    pWin := g'.pWin, fWin := g'.fWin, block := g'.block, blockSeq := g'.blockSeq, blockOutcome := g'.blockOutcome,
    blockChan := g'.blockChan, thdMarks := g'.thdMarks, exceeded := g'.exceeded, exceeding := g'.exceeding,
    exceedCount := g'.exceedCount, clearCount := g'.clearCount }

theorem Ghm.CountsCycle.refl (g : Ghm) : g.CountsCycle g := rfl

theorem Ghm.CountsCycle.trans {g g' g'' : Ghm} (h : g.CountsCycle g') (h' : g'.CountsCycle g'') : g.CountsCycle g'' := by
  unfold Ghm.CountsCycle at h h' ⊢
  rw [h', h]

theorem Ghm.ClosesPositions.countsCycle {g g' : Ghm} (h : g.ClosesPositions g') : g.CountsCycle g' := by
  unfold Ghm.ClosesPositions at h
  rw [h]
  rfl

theorem Ghm.BlockEnds.countsCycle {g g' : Ghm} (h : g.BlockEnds g') : g.CountsCycle g' := by
  unfold Ghm.BlockEnds at h
  rw [h]
  rfl

theorem countCycle_countsCycle (s : State) : s.ghm.CountsCycle (countCycle s).ghm := by
  unfold countCycle; dsimp only; split
  · exact .refl _
  next w hw =>
    split
    · rfl
    · unfold completeWindow; split
      · rw [windowDiscarded_ghm (by simp [hw])]
        have hdiscarded : s.ghm.CountsCycle { s.ghm.discardWindow .missing with block := s.ghm.block.countOne } := rfl
        exact hdiscarded.trans (Ghm.endBlock_ends _).countsCycle
      · rw [windowEvaluated_ghm]
        have hevaluated : ∀ (y : Window) (b : Block), s.ghm.CountsCycle { s.ghm.evaluateWindow s.now y with block := b } := fun _ _ => rfl
        exact (hevaluated _ _).trans (Ghm.endBlock_ends _).countsCycle

/-- The window that an edge finds, or the one it starts. -/
theorem Ghm.startCycle_openWindow (now : Nat) (g : Ghm) :
    (g.startCycle now).openWindow now = { g with
      gen := some ⟨g.held, g.held / 128, g.held % 128, 1,
        some (now + (if 1 ≤ g.held % 128 then g.held / 128 + 1 else g.held / 128))⟩
      outstanding := some 0
      strobes := g.strobes + 1
      window := some (g.window.getD (startWindow now g.config)) } := by
  unfold Ghm.openWindow Ghm.startCycle
  dsimp only
  split
  next w hw => rw [hw]; rfl
  next hw => rw [hw]; rfl

/-- The state before an edge starts its cycle: the running cycle, if any, is closed and counted. -/
def cycleClosed (s : State) : State := if s.ghm.gen.isSome then countCycle (s.setGhm s.ghm.closeCycle) else s

theorem lockedEdge_eq (s : State) :
    lockedEdge s = (cycleClosed s).setGhm (((cycleClosed s).ghm.startCycle s.now).openWindow s.now) := by
  have hnow : (cycleClosed s).now = s.now := by unfold cycleClosed; split <;> simp
  rw [← hnow]
  rfl

theorem cycleClosed_countsCycle (s : State) : s.ghm.CountsCycle (cycleClosed s).ghm := by
  unfold cycleClosed; split
  · exact s.ghm.closeCycle_closes.countsCycle.trans (countCycle_countsCycle _)
  · exact .refl _

theorem Ghm.closeCycle_idle {g : Ghm} (h : g.window = none) : g.closeCycle.window = none := by
  have hfold : ∀ (is : List Nat) (x : Ghm), x.window = none → (is.foldl (fun g i => g.closePosition true i) x).window = none := by
    intro is
    induction is with
    | nil => exact fun x hx => hx
    | cons i is ih => exact fun x hx => ih _ (by simp [Ghm.closePosition, hx])
  exact hfold _ _ (Ghm.closeOutstanding_idle h)

theorem countCycle_idle {s : State} (h : s.ghm.window = none) : countCycle s = s := by
  unfold countCycle
  rw [h]

theorem cycleClosed_idle {s : State} (h : s.ghm.window = none) : (cycleClosed s).ghm.window = none := by
  unfold cycleClosed; split
  · rw [countCycle_idle (Ghm.closeCycle_idle h)]
    exact Ghm.closeCycle_idle h
  · exact h

/-- The period, the lock state, the reference and the loss timer stand. -/
structure Ghm.KeepsPeriod (g g' : Ghm) : Prop where
  measured : g'.measured = g.measured
  held : g'.held = g.held
  valid : g'.valid = g.valid
  lock : g'.lock = g.lock
  edgeRef : g'.edgeRef = g.edgeRef
  loss : g'.loss = g.loss

theorem Ghm.KeepsPeriod.refl (g : Ghm) : g.KeepsPeriod g := ⟨rfl, rfl, rfl, rfl, rfl, rfl⟩

theorem Ghm.Unlocks.keepsPeriod {cause : WindowCause} {g g' : Ghm} (h : g.Unlocks cause g') : g.KeepsPeriod g' :=
  ⟨h.measured, h.held, h.valid, h.lock, h.edgeRef, h.loss⟩

/-- What an edge that is LOCKED leaves of what its period made of the monitor `g`. -/
structure Ghm.RunsCycle (now : Nat) (g g' : Ghm) : Prop extends g.KeepsPeriod g' where
  gen : g'.gen = some ⟨g.held, g.held / 128, g.held % 128, 1,
    some (now + (if 1 ≤ g.held % 128 then g.held / 128 + 1 else g.held / 128))⟩
  outstanding : g'.outstanding = some 0
  collecting : g'.window.isSome = true
  window : g.window = none → g'.window = some (startWindow now g.config)

theorem lockedEdge_runsCycle (s : State) : s.ghm.RunsCycle s.now (lockedEdge s).ghm := by
  have hidle := cycleClosed_idle (s := s)
  have hcounts := cycleClosed_countsCycle s
  rw [lockedEdge_eq, State.setGhm_ghm, Ghm.startCycle_openWindow]
  generalize (cycleClosed s).ghm = x at hidle hcounts
  unfold Ghm.CountsCycle at hcounts
  rw [hcounts]
  exact ⟨⟨rfl, rfl, rfl, rfl, rfl, rfl⟩, rfl, rfl, rfl, fun h => by rw [hidle h]; rfl⟩

/-- The monitor after an edge that measures `p` and is LOCKED. -/
theorem measuredEdge_runsCycle {p : Nat} {s : State} (h : (s.ghm.measure p).lock = .locked) :
    ((s.ghm.measure p).refer s.now).RunsCycle s.now (measuredEdge p s).ghm := by
  have hruns := lockedEdge_runsCycle (edgeReported p s)
  rw [edgeReported_ghm] at hruns
  rw [measuredEdge_locked h]
  simpa [edgeReported] using hruns

/-- The monitor after an edge that measures `p` and leaves LOCKED. -/
theorem measuredEdge_unlocks {p : Nat} {s : State} (h : (s.ghm.measure p).lock ≠ .locked) (hs : s.ghm.lock = .locked) :
    ((s.ghm.measure p).refer s.now).Unlocks .freqOut (measuredEdge p s).ghm := by
  rw [measuredEdge_left h hs, ← edgeReported_ghm]
  exact leaveLocked_unlocks .freqOut _

theorem measuredEdge_keepsPeriod (p : Nat) (s : State) : ((s.ghm.measure p).refer s.now).KeepsPeriod (measuredEdge p s).ghm := by
  by_cases h : (s.ghm.measure p).lock = .locked
  · exact (measuredEdge_runsCycle h).toKeepsPeriod
  · by_cases hs : s.ghm.lock = .locked
    · exact (measuredEdge_unlocks h hs).keepsPeriod
    · rw [measuredEdge_unlocked h hs, edgeReported_ghm]
      exact .refl _

end Sys2Proof.Machine

/-! PROOFS. The results of a window and of a block in the words of the statements: codes, THD, aggregates, exceedances, conformance
(ZeroCrossMeasuresAndLocks). -/

namespace Sys2Proof.Machine

/-! ### Tables -/

theorem tget_zipWith {α β γ : Type} [Inhabited α] [Inhabited β] [Inhabited γ] (f : α → β → γ) {xs : List α} {ys : List β} {k : Nat}
    (hx : k < xs.length) (hy : k < ys.length) : tget (List.zipWith f xs ys) k = f (tget xs k) (tget ys k) := by
  rw [tget_eq _ k (by simp [hx, hy]), tget_eq xs k hx, tget_eq ys k hy, List.getElem_zipWith]

theorem tget_map_range {α : Type} [Inhabited α] (f : Nat → α) {n k : Nat} (h : k < n) : tget ((List.range n).map f) k = f k := by
  rw [tget_eq _ k (by simpa using h)]
  simp

/-! ### THD (R74) -/

theorem foldl_enabled_squares (xs : List (Nat × Nat)) (a : Nat) :
    xs.foldl (fun a x => if x.1 = 0 then a else a + x.2 * x.2) a = a + (xs.map (fun x => if x.1 = 0 then 0 else x.2 ^ 2)).sum := by
  induction xs generalizing a with
  | nil => rfl
  | cons x xs ih =>
    rw [List.foldl_cons, ih, List.map_cons, List.sum_cons]
    split <;> ring

theorem sum_map_filter {α : Type} (p : α → Bool) (f : α → Nat) (xs : List α) :
    ((xs.filter p).map f).sum = (xs.map (fun x => if p x then f x else 0)).sum := by
  induction xs with
  | nil => rfl
  | cons x xs ih => by_cases h : p x <;> simp [h, ih]

theorem drop_zip {slots codes : List Nat} (hs : slots.length = 16) (hc : codes.length = 16) :
    (List.zip slots codes).drop 1 = (List.range 15).map (fun k => (tget slots (k + 1), tget codes (k + 1))) := by
  refine List.ext_getElem (by simp [hs, hc]) fun k hk _ => ?_
  have hk' : k < 15 := by simpa [hs, hc] using hk
  have hslot : tget slots (k + 1) = slots[k + 1] := tget_eq _ _ (by omega)
  have hcode : tget codes (k + 1) = codes[k + 1] := tget_eq _ _ (by omega)
  simp [hslot, hcode]

/-- The sum of squares over the enabled slots 1..15 of a full slot list. -/
theorem harmonicSum_eq {slots codes : List Nat} (hs : slots.length = 16) (hc : codes.length = 16) :
    harmonicSum slots codes =
      (((List.range 16).filter (fun k => k ≠ 0 ∧ tget slots k ≠ 0)).map (fun k => tget codes k ^ 2)).sum := by
  unfold harmonicSum
  rw [foldl_enabled_squares, drop_zip hs hc, sum_map_filter, List.range_succ_eq_map (n := 15)]
  simp [Function.comp_def, ite_not]

theorem thdOf_eq (floor old : Nat) {slots codes : List Nat} (hs : slots.length = 16) (hc : codes.length = 16) :
    thdOf floor old slots codes = thdFrom floor old slots codes := by
  unfold thdOf thdFrom
  rw [harmonicSum_eq hs hc]

/-! ### Channels of a window and of a block (R73, R74, R77) -/

/-- An enabled slot has the code and the mark of its sums over 1280 positions, a disabled one neither (log entry 54). -/
theorem windowCodes_windowMarks {slots : List Nat} {acc : List IQ} {k : Nat} (hs : k < slots.length) (ha : k < acc.length) :
    (tget (windowCodes slots acc) k, tget (windowMarks slots acc) k) =
      if tget slots k = 0 then (0, false) else codeOf 1280 (tget acc k).i (tget acc k).q := by
  unfold windowCodes windowMarks
  rw [tget_zipWith _ hs ha, tget_zipWith _ hs ha, codeOf_eq]
  split <;> rfl

theorem channelWindow_thd {g : Ghm} {w : Window} {n : Nat} (hs : w.slots.length = 16) (ha : (tget w.acc n).length = 16) :
    ((g.channelWindow w n).thd, (g.channelWindow w n).noFund) =
      thdFrom (g.config.fundFloor n) (tget g.chan n).thd w.slots (g.channelWindow w n).codes :=
  thdOf_eq _ _ hs (by simp [windowCodes, hs, ha])

theorem channelBlock_thd {g : Ghm} {slots : List Nat} {n : Nat} (hs : slots.length = 16) (ha : (tget g.block.sums n).length = 16) :
    ((g.channelBlock slots n).thd, (g.channelBlock slots n).noFund) =
      thdFrom (g.config.fundFloor n) (tget g.blockChan n).thd slots (g.channelBlock slots n).aggs :=
  thdOf_eq _ _ hs (by simp [aggregates, hs, ha])

/-! ### Exceedances (R78) -/

/-- A slot is exceeded when one of the six channels is above the limit of its group. -/
theorem slotExceeded_iff (c : GridConfig) (slots : List Nat) (f : Nat → ChannelBlock) (k : Nat) :
    slotExceeded c slots ((List.range 6).map f) k = true ↔ k ≠ 0 ∧ tget slots k ≠ 0 ∧
      ∃ m, m < 6 ∧ tget (if m < 3 then c.limitV else c.limitI) (k - 1) < tget (tget ((List.range 6).map f) m).aggs k := by
  have hsix : ∀ P : Nat → Prop, (∃ m, m < 6 ∧ P m) ↔ (P 0 ∨ P 1 ∨ P 2) ∨ P 3 ∨ P 4 ∨ P 5 := fun P => by
    constructor
    · rintro ⟨m, hm, h⟩
      interval_cases m <;> simp [h]
    · rintro ((h | h | h) | h | h | h)
      exacts [⟨0, by omega, h⟩, ⟨1, by omega, h⟩, ⟨2, by omega, h⟩, ⟨3, by omega, h⟩, ⟨4, by omega, h⟩, ⟨5, by omega, h⟩]
  have hrange : (List.range 6).map f = [f 0, f 1, f 2, f 3, f 4, f 5] := rfl
  rw [hsix, hrange]
  simp [slotExceeded, tget, and_assoc]

theorem exceedances_eq (slots thd : List Bool) : exceedances slots thd = slots.count true + thd.count true := by
  have hcount : ∀ xs : List Bool, xs.countP id = xs.count true := fun xs => List.countP_congr fun b _ => by cases b <;> simp
  unfold exceedances
  rw [hcount, hcount]

theorem exceedances_pos (slots thd : List Bool) : 0 < exceedances slots thd ↔ true ∈ slots ∨ true ∈ thd := by
  rw [exceedances_eq, ← List.count_pos_iff, ← List.count_pos_iff]
  omega

/-! ### Conformance (R79) -/

/-- The counts of a block that shows an exceedance or not, and the turn they may bring. -/
theorem Ghm.conform_eq (shows : Bool) (g : Ghm) :
    let ups := if g.exceeding = false ∧ shows = true then min 20 (g.exceedCount + 1) else 0
    let downs := if g.exceeding = true ∧ shows = false then min 20 (g.clearCount + 1) else 0
    let turns := if g.exceeding then g.config.kg ≤ downs else g.config.kg ≤ ups
    g.conform shows = { g with
      exceeding := if turns then !g.exceeding else g.exceeding
      exceedCount := if turns then 0 else ups
      clearCount := if turns then 0 else downs } := by
  unfold Ghm.conform satAdd
  generalize min 20 (g.exceedCount + 1) = up
  generalize min 20 (g.clearCount + 1) = down
  cases he : g.exceeding with
  | false => cases shows <;> simp <;> split <;> simp_all
  | true => cases shows <;> simp <;> split <;> simp_all

end Sys2Proof.Machine

/-! PROOFS. The edge that closes a cycle of a COLLECTING window: positions, window, block, conformance and the watch
(ZeroCrossMeasuresAndLocks). -/

namespace Sys2Proof.Machine

/-! ### The positions an edge closes (R68, R70) -/

/-- Positions that close as missing, one after the other. -/
def Window.closeMissing (samples : List Int) (is : List Nat) (w : Window) : Window :=
  is.foldl (fun y i => Window.close samples true i y) w

theorem Window.closeMissing_cycles (samples : List Int) (is : List Nat) (w : Window) :
    (w.closeMissing samples is).cycles = w.cycles := by
  induction is generalizing w with
  | nil => rfl
  | cons i is ih => exact ih (Window.close samples true i w)

theorem Ghm.foldl_closePosition {g : Ghm} {w : Window} (hw : g.window = some w) (is : List Nat) :
    is.foldl (fun g i => g.closePosition true i) g = { g with window := some (w.closeMissing g.samples is) } := by
  induction is generalizing g w with
  | nil => simp [Window.closeMissing, ← hw]
  | cons i is ih => exact ih (g := g.closePosition true i) (by simp [Ghm.closePosition, hw])

/-- The positions an edge still has to close: the outstanding one and those not issued. -/
def Ghm.openPositions (gen : StrobeGen) (g : Ghm) : List Nat :=
  g.outstanding.toList ++ (List.range (128 - gen.next)).map (gen.next + ·)

theorem Ghm.closeCycle_collecting {g : Ghm} {gen : StrobeGen} {w : Window} (hgen : g.gen = some gen) (hw : g.window = some w) :
    g.closeCycle = { g with window := some (w.closeMissing g.samples (g.openPositions gen)), outstanding := none } := by
  have hopen : unstrobed g = (List.range (128 - gen.next)).map (gen.next + ·) := by simp only [unstrobed, hgen]
  unfold Ghm.closeCycle Ghm.openPositions
  rw [hopen]
  cases ho : g.outstanding with
  | none =>
    rw [Ghm.closeOutstanding_none ho, Ghm.foldl_closePosition hw]
    simp [ho]
  | some i =>
    rw [Ghm.closeOutstanding_some ho, hw, Option.map_some, Ghm.foldl_closePosition rfl]
    rfl

/-! ### An edge that stays LOCKED (R63, R64) -/

/-- The monitor as an edge of a valid period leaves a LOCKED one, before its cycle is closed. -/
def Ghm.relock (now p : Nat) (g : Ghm) : Ghm :=
  { g with measured := p, held := p, valid := min 2 (g.valid + 1), edgeRef := some now, loss := some (now + 2000000) }

theorem measuredEdge_relocks {p : Nat} {s : State} (hp : 615385 ≤ p ∧ p ≤ 888888) (hs : s.ghm.lock = .locked) :
    measuredEdge p s = lockedEdge (s.setGhm (s.ghm.relock s.now p)) := by
  have hmeasure : (s.ghm.measure p).refer s.now = s.ghm.relock s.now p := by
    rw [Ghm.measure_eq p s.ghm, decide_eq_true hp]
    simp only [Ghm.refer, Ghm.relock, hs, lockTable, if_true]
  have hlock : (s.ghm.measure p).lock = .locked := by rw [Ghm.measure_eq, decide_eq_true hp, hs]; rfl
  rw [measuredEdge_locked hlock, edgeReported_same (hlock.trans hs.symm), hmeasure]

/-! ### The completion of a window (R73 to R76) -/

/-- The monitor once the tenth cycle of window `w` has completed it, before the block. -/
def Ghm.completeWindow (now : Nat) (w : Window) (g : Ghm) : Ghm :=
  if 32 < w.missing then { g.discardWindow .missing with block := g.block.countOne }
  else { g.evaluateWindow now w with block := g.block.takeWindow w.slots (g.evaluateWindow now w).chan }

/-- The state in which the completion of a window reaches the block. -/
def windowCompleted (w : Window) (s : State) : State :=
  startPublish 6 windowRecords s (s.setGhm (s.ghm.completeWindow s.now w))

theorem completeWindow_eq {w : Window} {s : State} (h : s.ghm.window.isSome = true) :
    completeWindow w s = tryBlock (windowCompleted w s) := by
  unfold completeWindow windowCompleted Ghm.completeWindow
  split
  · exact if_pos h
  · rfl

/-- A completed window takes the monitor `g` to `k`. -/
structure Ghm.Completes (now : Nat) (w : Window) (g k : Ghm) : Prop where
  frame : k = { g with
    window := none, windowSeq := (g.windowSeq + 1) % 65536, outcome := k.outcome, degraded := k.degraded, cause := k.cause,
    lastSlots := k.lastSlots, lastMissing := k.lastMissing, chan := k.chan, pWin := k.pWin, fWin := k.fWin, block := k.block }
  discarded : 32 < w.missing → k.outcome = .discarded ∧ k.cause = .missing ∧ k.chan = g.chan ∧ k.pWin = g.pWin ∧ k.fWin = g.fWin
  evaluated : w.missing ≤ 32 → k.outcome = .evaluated ∧ k.cause = .none ∧ k.degraded = decide (1 ≤ w.missing) ∧
    k.lastSlots = w.slots ∧ k.lastMissing = w.missing ∧ k.pWin = (now - w.start) / 10 ∧
    k.fWin = 640000000 / ((now - w.start) / 10) ∧ k.chan = (List.range 6).map (g.channelWindow w)

theorem Ghm.completeWindow_completes (now : Nat) (w : Window) (g : Ghm) : g.Completes now w (g.completeWindow now w) := by
  unfold Ghm.completeWindow
  split
  next h => exact ⟨rfl, fun _ => ⟨rfl, rfl, rfl, rfl, rfl⟩, fun h' => absurd h (Nat.not_lt.mpr h')⟩
  next h => exact ⟨rfl, fun h' => absurd h' h, fun _ => ⟨rfl, rfl, rfl, rfl, rfl, rfl, rfl, rfl⟩⟩

/-- The block counts every completion, and takes an EVALUATED one of its own slot list (R76). -/
theorem Ghm.completeWindow_block (now : Nat) (w : Window) (g : Ghm) :
    let own := g.block.slots.getD w.slots
    let takes := w.missing ≤ 32 ∧ own = w.slots
    (g.completeWindow now w).block =
      ⟨g.block.count + 1, if takes then g.block.nValid + 1 else g.block.nValid, if takes then some own else g.block.slots,
        if takes then List.zipWith (fun (x : ChannelWindow) zs => List.zipWith (fun h (z : Nat × Nat) =>
            if h = 0 then z.2 else z.2 + z.1 * z.1) w.slots (List.zip x.codes zs)) (g.completeWindow now w).chan g.block.sums
          else g.block.sums⟩ := by
  intro own takes
  unfold Ghm.completeWindow
  by_cases hm : 32 < w.missing
  · have htakes : ¬takes := fun h => absurd h.1 (Nat.not_le.mpr hm)
    rw [if_pos hm, if_neg htakes, if_neg htakes, if_neg htakes]
    rfl
  · rw [if_neg hm]
    by_cases ho : own = w.slots
    · have htakes : takes := ⟨Nat.not_lt.mp hm, ho⟩
      rw [if_pos htakes, if_pos htakes, if_pos htakes]
      exact if_pos ho
    · have htakes : ¬takes := fun h => ho h.2
      rw [if_neg htakes, if_neg htakes, if_neg htakes]
      exact if_neg ho

/-! ### The end of a block (R76 to R80, R86) -/

theorem tryBlock_early {s : State} (h : s.ghm.block.count < 15) : tryBlock s = s := if_neg (Nat.not_le.mpr h)

theorem tryBlock_invalid {s : State} (h : 15 ≤ s.ghm.block.count) (hn : s.ghm.block.nValid < 8) :
    tryBlock s = startPublish 6 blockRecords s (s.setGhm s.ghm.invalidBlock) :=
  (if_pos h).trans (evaluateBlock_invalid hn)

theorem tryBlock_valid {s : State} {own : List Nat} (h : 15 ≤ s.ghm.block.count) (hn : 8 ≤ s.ghm.block.nValid)
    (hown : s.ghm.block.slots = some own) : tryBlock s = coincTakeBlock own (blockConformed own s) := by
  refine (if_pos h).trans ((evaluateBlock_valid hn).trans ?_)
  rw [hown]
  rfl

@[simp] theorem blockConformed_ghm (own : List Nat) (s : State) : (blockConformed own s).ghm = s.ghm.validBlock own := by
  simp [blockConformed]

theorem Ghm.validBlock_eq (own : List Nat) (g : Ghm) :
    let chan := (List.range 6).map (g.channelBlock own)
    let exceeded := (List.range 16).map (slotExceeded g.config own chan)
    let marks := (List.range 6).map (thdMark g.config chan g.thdMarks)
    let shows := decide (true ∈ exceeded ∨ true ∈ marks)
    let ups := if g.exceeding = false ∧ shows = true then min 20 (g.exceedCount + 1) else 0
    let downs := if g.exceeding = true ∧ shows = false then min 20 (g.clearCount + 1) else 0
    let turns := if g.exceeding then g.config.kg ≤ downs else g.config.kg ≤ ups
    g.validBlock own = { g with
      blockChan := chan, exceeded := exceeded, thdMarks := marks, blockOutcome := .valid, blockSeq := (g.blockSeq + 1) % 65536
      block := .empty
      exceeding := if turns then !g.exceeding else g.exceeding
      exceedCount := if turns then 0 else ups
      clearCount := if turns then 0 else downs } := by
  intro chan exceeded marks shows ups downs turns
  have hshows : decide (0 < exceedances exceeded marks) = shows := decide_eq_decide.2 (exceedances_pos _ _)
  change (g.judgeBlock own).conform (decide (0 < exceedances exceeded marks)) = _
  rw [hshows, Ghm.conform_eq]
  rfl

theorem blockConformed_reported (own : List Nat) (s : State) : Reported s (blockConformed own s) := by
  let g := s.ghm.validBlock own
  let reported := (s.setGhm g).journalAll (conformanceReport s.ghm g)
  have hset : Reported s (s.setGhm g) := reported_of_eq rfl rfl rfl rfl
  have hreport : Reported (s.setGhm g) reported := reported_journalAll _ _
  have hboard : Reported reported (boardChange (conformancePosting s.ghm g) reported) := reported_boardChange _ _
  exact ((hset.trans hreport).trans hboard).trans (reported_of_eq rfl rfl rfl rfl)

/-- A change of conformance makes the first entry of the block (R79, R80). -/
theorem logs_blockConformed {own : List Nat} {s : State} (h : s.ghm.exceeding ≠ (s.ghm.validBlock own).exceeding) :
    ∃ rest, Logs (conformanceEntry s.ghm.exceeding (s.ghm.validBlock own).exceeding
      (exceedances (s.ghm.validBlock own).exceeded (s.ghm.validBlock own).thdMarks) :: rest) s (blockConformed own s) := by
  let g := s.ghm.validBlock own
  let entry := conformanceEntry s.ghm.exceeding g.exceeding (exceedances g.exceeded g.thdMarks)
  have hreport : conformanceReport s.ghm g = [entry] := if_neg h
  have hentry : Logs [entry] s ((s.setGhm g).journalAll (conformanceReport s.ghm g)) := by
    rw [hreport]
    exact (logs_journalAll [entry] (s.setGhm g)).congr_left rfl rfl
  obtain ⟨rest, hrest⟩ := (logged_refl ((s.setGhm g).journalAll (conformanceReport s.ghm g))).boardChange (conformancePosting s.ghm g)
  exact ⟨rest, (hentry.trans hrest).congr rfl rfl⟩

/-- What a VALID block of the monitor `g` with slot list `own` leaves of board, journal and watch, between the states `s` and `t` of its
event. -/
structure BlockHandedOn (own : List Nat) (g : Ghm) (s t : State) : Prop where
  ghm : t.ghm = g.validBlock own
  stands : g.exceeding = (g.validBlock own).exceeding → ∀ k, k ≠ 2 → tget t.lb.slots k = tget s.lb.slots k
  elsewhere : ∀ k, k ≠ 2 → k ≠ 3 → tget t.lb.slots k = tget s.lb.slots k
  posted : g.exceeding = false → (g.validBlock own).exceeding = true → 3 < s.lb.slots.length →
    Posted (tget t.lb.slots 3) g.config.gridCap .exceeding
  withdrawn : g.exceeding = true → (g.validBlock own).exceeding = false → (tget t.lb.slots 3).active = false
  logs : g.exceeding ≠ (g.validBlock own).exceeding →
    ∃ rest, Logs (conformanceEntry g.exceeding (g.validBlock own).exceeding
      (exceedances (g.validBlock own).exceeded (g.validBlock own).thdMarks) :: rest) s t
  mech : t.cw.mech = s.cw.mech
  config : t.cw.config = s.cw.config
  elec : t.cw.elec = some (snapshotOf (g.validBlock own) own)
  evaluated : s.jobs.coinc = true → Evaluated .grid s t
  taken : s.jobs.coinc = false → TakenOnly s t

theorem coincTakeBlock_handedOn (own : List Nat) (s : State) :
    BlockHandedOn own s.ghm s (coincTakeBlock own (blockConformed own s)) := by
  let f : Cw → Cw := fun c => { c with elec := some (snapshotOf (blockConformed own s).ghm own) }
  let j := s.ghm.validBlock own
  let reported := (s.setGhm j).journalAll (conformanceReport s.ghm j)
  have hreported : reported.lb = s.lb := by simp [reported]
  have hcw : (blockConformed own s).cw = s.cw := by simp [blockConformed]
  have hslot : ∀ k, k ≠ 2 →
      tget (coincTakeBlock own (blockConformed own s)).lb.slots k = tget (boardChange (conformancePosting s.ghm j) reported).lb.slots k :=
    fun k hk => coincEvent_slots .grid f (blockConformed own s) hk
  obtain ⟨hpost, hwithdraw, hstand⟩ := conformancePosting_says s.ghm j reported
  rw [hreported] at hpost hstand
  have hslot2 : tget (blockConformed own s).lb.slots 2 = tget s.lb.slots 2 := hstand 2 (by simp)
  have hlength : (blockConformed own s).lb.slots.length = s.lb.slots.length := by simp [blockConformed]
  obtain ⟨hmech, helec, hconfig⟩ := coincEvent_tables .grid f (blockConformed own s)
  have hevent := blockConformed_reported own s
  refine ⟨by simp [coincTakeBlock], fun h k hk => ?_, fun k hk hk' => ?_, fun ha hb hl => ?_, fun ha hb => ?_, fun h => ?_, ?_, ?_, ?_,
    fun hj => ?_, fun hj => ?_⟩
  · exact (hslot k hk).trans (hstand k fun hne => absurd h hne)
  · exact (hslot k hk).trans (hstand k fun _ => hk')
  · have hposted := hpost ha hb hl
    rw [Ghm.validBlock_config, ← hslot 3 (by decide)] at hposted
    exact hposted
  · rw [hslot 3 (by decide)]
    exact hwithdraw ha hb
  · obtain ⟨rest, hrest⟩ := logs_blockConformed h
    obtain ⟨bs, -, hbs⟩ := (announces_coincEvent .grid f (blockConformed own s)).logs
    exact ⟨rest ++ bs, hrest.trans hbs⟩
  · rw [← hcw]
    exact hmech
  · rw [← hcw]
    exact hconfig
  · rw [← blockConformed_ghm]
    exact helec
  · have hevaluated : Evaluated .grid (blockConformed own s) (coincTakeBlock own (blockConformed own s)) :=
      coincEvent_evaluated (by simpa [blockConformed] using hj) rfl
    exact hevaluated.congr (by simp [coincTakeBlock]) hevent hcw hlength hslot2 (.refl _) rfl rfl rfl
  · have htaken : TakenOnly (blockConformed own s) (coincTakeBlock own (blockConformed own s)) :=
      coincEvent_takenOnly (by simpa [blockConformed] using hj) rfl
    exact htaken.congr hevent hcw hslot2 (.refl _) rfl rfl

/-- The same seen from a state that monitor and publishing alone set apart. -/
theorem BlockHandedOn.congr_left {own : List Nat} {g : Ghm} {s s' t : State} (h : BlockHandedOn own g s t) (hlb : s.lb = s'.lb)
    (hcw : s.cw = s'.cw) (hej : s.ej = s'.ej) (hcc : s.cc = s'.cc) (hrep : s.rep = s'.rep) (hjobs : s.jobs = s'.jobs)
    (htcc : t.cc = s.cc) : BlockHandedOn own g s' t := by
  obtain ⟨hghm, hstands, helsewhere, hposted, hwithdrawn, hlogs, hmech, hconfig, helec, hevaluated, htaken⟩ := h
  have hreported : Reported s' s := reported_of_eq hej (by rw [hcc]) (by rw [hcc]) hrep
  rw [hlb] at hstands helsewhere hposted
  rw [hcw] at hmech hconfig
  rw [hjobs] at hevaluated htaken
  refine ⟨hghm, hstands, helsewhere, hposted, hwithdrawn, fun hne => ?_, hmech, hconfig, helec, fun hj => ?_, fun hj => ?_⟩
  · obtain ⟨rest, hrest⟩ := hlogs hne
    exact ⟨rest, hrest.congr_left hej hcc⟩
  · exact (hevaluated hj).congr htcc hreported hcw (by rw [hlb]) (by rw [hlb]) (.refl _) rfl rfl rfl
  · exact (htaken hj).congr hreported hcw (by rw [hlb]) (.refl _) rfl rfl

/-- What a turn of the conformance brings (R79, R80). -/
theorem BlockHandedOn.turns {own : List Nat} {g : Ghm} {s t : State} (h : BlockHandedOn own g s t)
    (hturned : (g.validBlock own).exceeding = !g.exceeding) :
    SlotsElsewhere [2, 3] s t ∧
      JournalsFirst [conformanceEntry g.exceeding (!g.exceeding)
        ((g.validBlock own).exceeded.count true + (g.validBlock own).thdMarks.count true)] s t ∧
      (g.exceeding = false → 3 < s.lb.slots.length → Posted (tget t.lb.slots 3) g.config.gridCap .exceeding) ∧
      (g.exceeding = true → (tget t.lb.slots 3).active = false) := by
  refine ⟨fun k hk => ?_, ?_, fun he => h.posted he (by rw [hturned, he]; rfl), fun he => h.withdrawn he (by rw [hturned, he]; rfl)⟩
  · simp only [List.mem_cons, List.not_mem_nil, or_false, not_or] at hk
    exact h.elsewhere k hk.1 hk.2
  · obtain ⟨rest, hrest⟩ := h.logs (by rw [hturned]; simp)
    rw [exceedances_eq, hturned] at hrest
    exact hrest.journalsFirst

end Sys2Proof.Machine

/-! PROOFS. What a zero-cross edge does, as a whole (ZeroCrossMeasuresAndLocks). -/

namespace Sys2Proof.Machine

/-! ### An edge that closes a cycle and stays LOCKED (R67, R68, R73) -/

/-- The monitor with the cycle of window `w` closed by an edge of a valid period, before the cycle is counted. -/
def Ghm.lapped (now p : Nat) (gen : StrobeGen) (w : Window) (g : Ghm) : Ghm :=
  { g.relock now p with window := some (w.closeMissing g.samples (g.openPositions gen)), outstanding := none }

/-- The state that counts the closed cycle starts the next. -/
def cycleStarted (now : Nat) (s : State) : State :=
  s.setGhm { s.ghm with
    gen := some ⟨s.ghm.held, s.ghm.held / 128, s.ghm.held % 128, 1,
      some (now + (if 1 ≤ s.ghm.held % 128 then s.ghm.held / 128 + 1 else s.ghm.held / 128))⟩
    outstanding := some 0
    strobes := s.ghm.strobes + 1
    window := some (s.ghm.window.getD (startWindow now s.ghm.config)) }

theorem measuredEdge_laps {p : Nat} {gen : StrobeGen} {w : Window} {s : State} (hp : 615385 ≤ p ∧ p ≤ 888888)
    (hs : s.ghm.lock = .locked) (hgen : s.ghm.gen = some gen) (hw : s.ghm.window = some w) :
    measuredEdge p s = cycleStarted s.now (countCycle (s.setGhm (s.ghm.lapped s.now p gen w))) := by
  have hclosed : cycleClosed (s.setGhm (s.ghm.relock s.now p)) = countCycle (s.setGhm (s.ghm.lapped s.now p gen w)) := by
    refine (if_pos (by simp [Ghm.relock, hgen])).trans ?_
    rw [State.setGhm_ghm, Ghm.closeCycle_collecting (g := s.ghm.relock s.now p) hgen hw]
    rfl
  rw [measuredEdge_relocks hp hs, lockedEdge_eq, hclosed, Ghm.startCycle_openWindow]
  rfl

theorem countCycle_counts {w : Window} {n : Nat} {s : State} (hw : s.ghm.window = some w) (hn : w.cycles = n) (h : n + 1 < 10) :
    countCycle s = s.setGhm { s.ghm with window := some { w with cycles := n + 1 } } := by
  subst hn
  unfold countCycle
  rw [hw]
  exact if_pos h

theorem countCycle_completes {w : Window} {n : Nat} {s : State} (hw : s.ghm.window = some w) (hn : w.cycles = n) (h : 10 ≤ n + 1) :
    countCycle s = tryBlock (windowCompleted { w with cycles := n + 1 } s) := by
  subst hn
  rw [← completeWindow_eq (by simp [hw])]
  unfold countCycle
  rw [hw]
  exact if_neg (Nat.not_lt.mpr h)

/-! ### What stands at the completion of a window or a block -/

/-- The results of the last window stand. -/
structure Ghm.KeepsWindow (g g' : Ghm) : Prop where
  window : g'.window = g.window
  windowSeq : g'.windowSeq = g.windowSeq
  outcome : g'.outcome = g.outcome
  degraded : g'.degraded = g.degraded
  cause : g'.cause = g.cause
  lastSlots : g'.lastSlots = g.lastSlots
  lastMissing : g'.lastMissing = g.lastMissing
  chan : g'.chan = g.chan
  pWin : g'.pWin = g.pWin
  fWin : g'.fWin = g.fWin

theorem Ghm.BlockEnds.keepsWindow {g g' : Ghm} (h : g.BlockEnds g') : g.KeepsWindow g' := by
  unfold Ghm.BlockEnds at h
  rw [h]
  exact ⟨rfl, rfl, rfl, rfl, rfl, rfl, rfl, rfl, rfl, rfl⟩

/-- The results of the last VALID block, its marks and the conformance stand. -/
structure Ghm.KeepsBlock (g g' : Ghm) : Prop where
  blockChan : g'.blockChan = g.blockChan
  exceeded : g'.exceeded = g.exceeded
  thdMarks : g'.thdMarks = g.thdMarks
  exceeding : g'.exceeding = g.exceeding
  exceedCount : g'.exceedCount = g.exceedCount
  clearCount : g'.clearCount = g.clearCount

theorem Ghm.Completes.keepsBlock {now : Nat} {w : Window} {g k : Ghm} (h : g.Completes now w k) : g.KeepsBlock k := by
  rw [h.frame]
  exact ⟨rfl, rfl, rfl, rfl, rfl, rfl⟩

theorem Ghm.invalidBlock_keepsBlock (g : Ghm) : g.KeepsBlock g.invalidBlock := ⟨rfl, rfl, rfl, rfl, rfl, rfl⟩

theorem Ghm.KeepsBlock.trans {g g' g'' : Ghm} (h : g.KeepsBlock g') (h' : g'.KeepsBlock g'') : g.KeepsBlock g'' :=
  ⟨h'.blockChan.trans h.blockChan, h'.exceeded.trans h.exceeded, h'.thdMarks.trans h.thdMarks, h'.exceeding.trans h.exceeding,
    h'.exceedCount.trans h.exceedCount, h'.clearCount.trans h.clearCount⟩

/-- A completed window leaves the configuration and what the monitor says of the last block. -/
theorem Ghm.Completes.blockFrame {now : Nat} {w : Window} {g k : Ghm} (h : g.Completes now w k) :
    k.config = g.config ∧ k.blockSeq = g.blockSeq ∧ k.blockOutcome = g.blockOutcome := by
  rw [h.frame]
  exact ⟨rfl, rfl, rfl⟩

theorem Ghm.Completes.closed {now : Nat} {w : Window} {g k : Ghm} (h : g.Completes now w k) :
    k.window = none ∧ k.windowSeq = (g.windowSeq + 1) % 65536 := by
  rw [h.frame]
  exact ⟨rfl, rfl⟩

theorem Ghm.Completes.channel {now : Nat} {w : Window} {g k : Ghm} (h : g.Completes now w k) (hm : w.missing ≤ 32) {n : Nat}
    (hn : n < 6) : tget k.chan n = g.channelWindow w n := by
  obtain ⟨-, -, -, -, -, -, -, hchan⟩ := h.evaluated hm
  rw [hchan, tget_map_range _ hn]

/-- Codes, marks, THD and NO_FUND of one channel of an EVALUATED window with a full slot list. -/
theorem Ghm.Completes.channel_says {now : Nat} {w : Window} {g k : Ghm} (h : g.Completes now w k) (hm : w.missing ≤ 32) {n : Nat}
    (hn : n < 6) (hs : w.slots.length = 16) (ha : (tget w.acc n).length = 16) :
    let z := tget k.chan n
    (∀ i, i < 16 → (tget z.codes i, tget z.overRange i) =
      if tget w.slots i = 0 then (0, false) else codeOf 1280 (tget (tget w.acc n) i).i (tget (tget w.acc n) i).q) ∧
    (z.thd, z.noFund) = thdFrom (g.config.fundFloor n) (tget g.chan n).thd w.slots z.codes := by
  intro z
  have hz : z = g.channelWindow w n := h.channel hm hn
  rw [hz]
  exact ⟨fun i hi => windowCodes_windowMarks (hs ▸ hi) (ha ▸ hi), channelWindow_thd hs ha⟩

/-! ### The results of a VALID block (R77 to R79) -/

/-- The judgement of a VALID block with slot list `own` takes the monitor `g` to `j`. -/
structure Ghm.Judges (own : List Nat) (g j : Ghm) : Prop where
  blockOutcome : j.blockOutcome = .valid
  blockSeq : j.blockSeq = (g.blockSeq + 1) % 65536
  block : j.block = .empty
  blockChan : j.blockChan = (List.range 6).map (g.channelBlock own)
  exceeded : j.exceeded = (List.range 16).map (slotExceeded g.config own j.blockChan)
  thdMarks : j.thdMarks = (List.range 6).map (thdMark g.config j.blockChan g.thdMarks)

theorem Ghm.validBlock_judges (own : List Nat) (g : Ghm) : g.Judges own (g.validBlock own) := by
  rw [Ghm.validBlock_eq]
  exact ⟨rfl, rfl, rfl, rfl, rfl, rfl⟩

theorem Ghm.validBlock_conforms (own : List Nat) (g : Ghm) :
    let j := g.validBlock own
    let shows := decide (true ∈ j.exceeded ∨ true ∈ j.thdMarks)
    let ups := if g.exceeding = false ∧ shows = true then min 20 (g.exceedCount + 1) else 0
    let downs := if g.exceeding = true ∧ shows = false then min 20 (g.clearCount + 1) else 0
    let turns := if g.exceeding then g.config.kg ≤ downs else g.config.kg ≤ ups
    j.exceeding = (if turns then !g.exceeding else g.exceeding) ∧ j.exceedCount = (if turns then 0 else ups) ∧
      j.clearCount = (if turns then 0 else downs) := by
  rw [Ghm.validBlock_eq]
  exact ⟨rfl, rfl, rfl⟩

/-- An evaluated block is counted, and the next one starts empty (R76, R77). -/
theorem Ghm.endBlock_fifteen {g : Ghm} (h : 15 ≤ g.block.count) :
    g.endBlock.block = .empty ∧ g.endBlock.blockSeq = (g.blockSeq + 1) % 65536 := by
  unfold Ghm.endBlock
  rw [if_pos h]
  split
  · exact ⟨rfl, rfl⟩
  · have hjudges := g.validBlock_judges (g.block.slots.getD (List.replicate 16 0))
    exact ⟨hjudges.block, hjudges.blockSeq⟩

theorem Ghm.Judges.channel {own : List Nat} {g j : Ghm} (h : g.Judges own j) {n : Nat} (hn : n < 6) :
    tget j.blockChan n = g.channelBlock own n := by
  rw [h.blockChan, tget_map_range _ hn]

theorem Ghm.Judges.mark {own : List Nat} {g j : Ghm} (h : g.Judges own j) {n : Nat} (hn : n < 6) :
    tget j.thdMarks n = if (tget j.blockChan n).noFund then tget g.thdMarks n
      else decide ((if n < 3 then g.config.thdLimitV else g.config.thdLimitI) < (tget j.blockChan n).thd) := by
  rw [h.thdMarks, tget_map_range _ hn]
  rfl

/-- Aggregates, THD and mark of one channel of a VALID block, from the sums of its `n` windows. -/
theorem Ghm.Judges.channel_says {own : List Nat} {g j : Ghm} (h : g.Judges own j) (hown : own.length = 16) {i : Nat} (hi : i < 6)
    (hsums : (tget g.block.sums i).length = 16) :
    let z := tget j.blockChan i
    z.aggs = aggregates own g.block.nValid (tget g.block.sums i) ∧
      (z.thd, z.noFund) = thdFrom (g.config.fundFloor i) (tget g.blockChan i).thd own z.aggs ∧
      tget j.thdMarks i = if z.noFund then tget g.thdMarks i
        else decide ((if i < 3 then g.config.thdLimitV else g.config.thdLimitI) < z.thd) := by
  intro z
  have hz : z = g.channelBlock own i := h.channel hi
  refine ⟨by rw [hz]; rfl, ?_, h.mark hi⟩
  rw [hz]
  exact channelBlock_thd hown hsums

theorem Ghm.Judges.exceeded_iff {own : List Nat} {g j : Ghm} (h : g.Judges own j) {n : Nat} (hn : n < 16) :
    tget j.exceeded n = true ↔ n ≠ 0 ∧ tget own n ≠ 0 ∧
      ∃ m, m < 6 ∧ tget (if m < 3 then g.config.limitV else g.config.limitI) (n - 1) < tget (tget j.blockChan m).aggs n := by
  rw [h.exceeded, tget_map_range _ hn, h.blockChan]
  exact slotExceeded_iff _ _ _ _

/-- Settles O16. An edge that measures is `measuredEdge`, whose period and cycle are said above; an edge that closes a cycle of a COLLECTING
window counts it, the tenth completes the window, and the fifteenth completion ends the block. -/
theorem zeroCrossMeasuresAndLocks : Obligations.ZeroCrossMeasuresAndLocks := by
  unfold Obligations.ZeroCrossMeasuresAndLocks
  refine ⟨fun dt rising s => ?_, fun dt r gen w s => ?_⟩
  · intro u g
    have hexec : exec (.gzxEdge dt rising) s = .next (if rising ∧ u.jobs.grid then takeZeroCross u else u) := exec_gzxEdge dt rising s
    refine ⟨fun h => by rw [hexec, if_neg h], fun hr hg r he hnow => ?_, fun hr hg he => ?_, fun hr hg r he hnow => ?_⟩
    · rw [hexec, if_pos ⟨hr, hg⟩, takeZeroCross_heldOff he hnow]
    · rw [hexec, if_pos ⟨hr, hg⟩, takeZeroCross_first he]
      rfl
    · intro p valid count lock
      have hmeasure : g.measure p = { g with
        measured := p, held := if valid then p else g.held, valid := count, lock := lock } := g.measure_eq p
      have hkeeps := measuredEdge_keepsPeriod p u
      have hruns := measuredEdge_runsCycle (p := p) (s := u)
      have hunlocks := measuredEdge_unlocks (p := p) (s := u)
      have hannounced := measuredEdge_announced (p := p) (s := u)
      rw [hmeasure] at hkeeps hruns hunlocks hannounced
      refine ⟨measuredEdge p u, by rw [hexec, if_pos ⟨hr, hg⟩, takeZeroCross_measures he hnow], by simp [onlyTouches_iff],
        hkeeps.measured, hkeeps.held, hkeeps.valid, hkeeps.lock, hkeeps.edgeRef, hkeeps.loss, fun hl => ?_,
        fun hl hw => (hruns hl).window hw, fun hl hs => ?_, fun hl hs => ?_, fun hl => (hannounced hl).2⟩
      · have hheld : (if valid then p else g.held) = p := if_pos (lockTable_locked hl)
        have hgen := (hruns hl).gen
        dsimp only [Ghm.refer] at hgen
        rw [hheld] at hgen
        exact ⟨hgen, (hruns hl).outstanding, (hruns hl).collecting⟩
      · have hleft := hunlocks hl hs
        exact ⟨hleft.gen, hleft.outstanding, hleft.window, hleft.chan, hleft.discarded⟩
      · exact (hannounced (hl.trans_ne (Ne.symm hs))).1 hl
  · intro u g hg he hlo hhi hlock hgen hw opens y b c
    let x := g.lapped u.now (u.now - r) gen w
    obtain ⟨d, hcounted⟩ : ∃ d, d = countCycle (u.setGhm x) := ⟨_, rfl⟩
    have hedge : exec (.gzxEdge dt true) s = .next (measuredEdge (u.now - r) u) := by
      rw [exec_gzxEdge_taken hg, takeZeroCross_measures he (by omega)]
    have ht : measuredEdge (u.now - r) u = cycleStarted u.now d := by
      rw [hcounted]
      exact measuredEdge_laps (by omega) hlock hgen hw
    have hx : x.window = some y := rfl
    have hcycles : y.cycles = w.cycles := Window.closeMissing_cycles _ _ _
    have hcounts : x.CountsCycle d.ghm := by
      rw [hcounted]
      exact countCycle_countsCycle (u.setGhm x)
    have hconfig : d.ghm.config = c := by rw [(hcounts : _ = _)]; rfl
    refine ⟨cycleStarted u.now d, by rw [hedge, ht], by rw [← ht]; simp [onlyTouches_iff], hconfig, fun h => ?_, fun h => ?_⟩
    · have hd : d = _ := hcounted.trans (countCycle_counts (s := u.setGhm x) hx hcycles h)
      rw [hd]
      exact ⟨rfl, rfl, rfl, rfl⟩
    · -- The tenth cycle: `k` is the monitor with the window completed, before the block.
      let y' : Window := { y with cycles := w.cycles + 1 }
      let v := windowCompleted y' (u.setGhm x)
      let k := x.completeWindow u.now y'
      have hd : d = tryBlock v := hcounted.trans (countCycle_completes (s := u.setGhm x) hx hcycles h)
      have hk : x.Completes u.now y' k := x.completeWindow_completes u.now y'
      have hkblock : k.block = _ := x.completeWindow_block u.now y'
      have hkeeps : k.KeepsWindow d.ghm := by
        rw [hd, tryBlock_ghm]
        exact (Ghm.endBlock_ends k).keepsWindow
      refine ⟨?_, hkeeps.windowSeq.trans hk.closed.2, fun hm => ?_, fun hm => ?_, ?_⟩
      · change some (d.ghm.window.getD (startWindow u.now d.ghm.config)) = _
        rw [hkeeps.window, hk.closed.1, hconfig]
        rfl
      · obtain ⟨houtcome, hcause, hchan, hp, hf⟩ := hk.discarded hm
        exact ⟨hkeeps.outcome.trans houtcome, hkeeps.cause.trans hcause, hkeeps.chan.trans hchan, hkeeps.pWin.trans hp,
          hkeeps.fWin.trans hf⟩
      · obtain ⟨houtcome, hcause, hdegraded, hslots, hmissing, hp, hf, hchan⟩ := hk.evaluated hm
        refine ⟨hkeeps.outcome.trans houtcome, hkeeps.cause.trans hcause, hkeeps.degraded.trans hdegraded,
          hkeeps.lastSlots.trans hslots, hkeeps.lastMissing.trans hmissing, hkeeps.pWin.trans hp, hkeeps.fWin.trans hf,
          (congrArg List.length (hkeeps.chan.trans hchan)).trans (by simp), fun n hn => ?_⟩
        have hchannel := hk.channel_says hm hn
        rw [← hkeeps.chan] at hchannel
        exact ⟨fun hs ha => (hchannel hs ha).1, fun hs ha => (hchannel hs ha).2⟩
      · intro own takes n sums held empty
        have hchan : (cycleStarted u.now d).ghm.chan = k.chan := hkeeps.chan
        have hblock : k.block = ⟨b.count + 1, n, if takes then some own else b.slots, sums⟩ := by
          refine hkblock.trans ?_
          simp only [sums, hchan]
          rfl
        have hcount : k.block.count = b.count + 1 := congrArg Block.count hblock
        have hvalid : k.block.nValid = n := congrArg Block.nValid hblock
        have hslots : k.block.slots = if takes then some own else b.slots := congrArg Block.slots hblock
        have hsums : k.block.sums = sums := congrArg Block.sums hblock
        have hstill : x.KeepsBlock k := hk.keepsBlock
        obtain ⟨hkconfig, hkseq, hkoutcome⟩ := hk.blockFrame
        have hholds : x.KeepsBlock d.ghm → d.cw = u.cw → d.lb = u.lb → d.ej = u.ej → held := fun hkb hcw hlb hej =>
          ⟨hkb.blockChan, hkb.exceeded, hkb.thdMarks, hkb.exceeding, hkb.exceedCount, hkb.clearCount, hcw, hlb, hej⟩
        refine ⟨fun hc => ?_, fun hc => ?_⟩
        · have hdv : d = v := hd.trans (tryBlock_early (by rw [← hcount] at hc; exact hc))
          have hdk : d.ghm = k := congrArg State.ghm hdv
          exact ⟨hholds (by rw [hdk]; exact hstill) (by rw [hdv]; rfl) (by rw [hdv]; rfl) (by rw [hdv]; rfl),
            (congrArg Ghm.blockSeq hdk).trans hkseq, (congrArg Ghm.blockOutcome hdk).trans hkoutcome,
            (congrArg Ghm.block hdk).trans hblock⟩
        · have hfifteen : 15 ≤ v.ghm.block.count := hc.trans (le_of_eq hcount.symm)
          have hended : d.ghm.block = empty ∧ d.ghm.blockSeq = (k.blockSeq + 1) % 65536 := by
            have hend : d.ghm = k.endBlock := by rw [hd]; exact tryBlock_ghm v
            rw [hend]
            exact Ghm.endBlock_fifteen hfifteen
          refine ⟨hended.1, hended.2.trans (by rw [hkseq]; rfl), fun hn => ?_, fun hn htakes hown hsixteen => ?_⟩
          · have hdi : d = startPublish 6 blockRecords v (v.setGhm k.invalidBlock) := hd.trans (tryBlock_invalid hfifteen (hvalid.trans_lt hn))
            have hdk : d.ghm = k.invalidBlock := congrArg State.ghm hdi
            exact ⟨congrArg Ghm.blockOutcome hdk, hholds (by rw [hdk]; exact hstill.trans k.invalidBlock_keepsBlock)
              (by rw [hdi]; rfl) (by rw [hdi]; rfl) (by rw [hdi]; rfl)⟩
          · have hownslots : v.ghm.block.slots = some own := by
              refine hslots.trans ?_
              split
              next => rfl
              next hno => exact htakes.resolve_left hno
            have hhanded : BlockHandedOn own k u d := by
              rw [hd, tryBlock_valid hfifteen (hn.trans (le_of_eq hvalid.symm)) hownslots]
              exact (coincTakeBlock_handedOn own v).congr_left rfl rfl rfl rfl rfl rfl (by simp [coincTakeBlock, blockConformed])
            have hj : k.Judges own d.ghm := by rw [hhanded.ghm]; exact k.validBlock_judges own
            have hstands := hhanded.stands
            have hturns := hhanded.turns
            have helec := hhanded.elec
            have hconforms := k.validBlock_conforms own
            rw [← hhanded.ghm, hstill.exceeding] at hstands hturns
            rw [← hhanded.ghm] at helec
            rw [← hhanded.ghm, hstill.exceeding, hstill.exceedCount, hstill.clearCount, hkconfig] at hconforms
            rw [hkconfig] at hturns
            refine ⟨hj.blockOutcome, (congrArg List.length hj.blockChan).trans (by simp), fun i hi => ?_, fun i hi => ?_,
              (congrArg List.length hj.exceeded).trans (by simp), (congrArg List.length hj.thdMarks).trans (by simp), ?_,
              hhanded.mech, hhanded.config, helec, hhanded.evaluated, hhanded.taken⟩
            · have hchannel := hj.channel_says hown hi (hsums ▸ hsixteen i hi)
              rw [hkconfig, hstill.blockChan, hstill.thdMarks, hvalid, hsums] at hchannel
              exact hchannel
            · have hexceeded := hj.exceeded_iff hi
              rw [hkconfig] at hexceeded
              exact hexceeded
            · intro shows ups downs turns
              obtain ⟨hexceeding, hexceedCount, hclearCount⟩ := hconforms
              exact ⟨hexceeding, hexceedCount, hclearCount, fun hno => hstands (hexceeding.trans (if_neg hno)).symm,
                fun hyes => hturns (hexceeding.trans (if_pos hyes))⟩

end Sys2Proof.Machine

/-! PROOFS. The live and latched sets of the watch: the moves of a step on them, and what every move keeps (LiveSetsAreLatched). -/

namespace Sys2Proof.Machine

/-! ### The sets of the watch (R90, R91) -/

/-- `WatchOk`, read of the watch alone. -/
structure Cw.SetsOk (c : Cw) : Prop where
  lines : ∀ n ∈ c.liveLines, n ∈ c.latchedLines
  entries : ∀ e ∈ c.liveEntries, e ∈ c.latchedEntries
  lineNumbers : ∀ n ∈ c.latchedLines, n < 24
  entryNumbers : ∀ e ∈ c.latchedEntries, e < 8
  liveLinesOnce : c.liveLines.Nodup
  liveEntriesOnce : c.liveEntries.Nodup
  latchedLinesOnce : c.latchedLines.Nodup
  latchedEntriesOnce : c.latchedEntries.Nodup
  live : c.liveLines = [] ↔ c.liveEntries = []
  latched : c.latchedLines = [] ↔ c.latchedEntries = []
  first : c.latchedLines = [] ↔ c.firstPair = none

theorem watchOk_iff (s : State) : WatchOk s ↔ s.cw.SetsOk := by
  constructor
  · rintro ⟨hlines, hentries, hn, he, hll, hle, htl, hte, hlive, hlatched, hfirst⟩
    exact ⟨hlines, hentries, hn, he, hll, hle, htl, hte, hlive, hlatched, hfirst⟩
  · rintro ⟨hlines, hentries, hn, he, hll, hle, htl, hte, hlive, hlatched, hfirst⟩
    exact ⟨hlines, hentries, hn, he, hll, hle, htl, hte, hlive, hlatched, hfirst⟩

/-- The live sets, the latched sets and the first pair. -/
def Cw.sets (c : Cw) : (List Nat × List Nat) × (List Nat × List Nat) × Option FirstPair :=
  ((c.liveLines, c.liveEntries), (c.latchedLines, c.latchedEntries), c.firstPair)

theorem Cw.SetsOk.congr {c d : Cw} (h : c.SetsOk) (hsets : d.sets = c.sets) : d.SetsOk := by
  simp only [Cw.sets, Prod.mk.injEq] at hsets
  obtain ⟨⟨hll, hle⟩, ⟨htl, hte⟩, hfirst⟩ := hsets
  obtain ⟨h1, h2, h3, h4, h5, h6, h7, h8, h9, h10, h11⟩ := h
  constructor <;> simpa only [hll, hle, htl, hte, hfirst]

theorem setWhere_nodup (k : Nat) (f : Nat → Bool) : (setWhere k f).Nodup := (setWhere_pairwise k f).imp Nat.ne_of_lt

/-- A union of sets of numbers below its bound is empty when both are. -/
theorem setUnion_nil {k : Nat} {a b : List Nat} (ha : ∀ n ∈ a, n < k) (hb : ∀ n ∈ b, n < k) :
    setUnion k a b = [] ↔ a = [] ∧ b = [] := by
  simp only [List.eq_nil_iff_forall_not_mem, setUnion_mem, not_and, not_or]
  exact ⟨fun h => ⟨fun n hn => (h n (ha n hn)).1 hn, fun n hn => (h n (hb n hn)).2 hn⟩,
    fun ⟨h, h'⟩ n _ => ⟨h n, h' n⟩⟩

section Evaluation

variable (defs : List LineDef) (cause : EvalCause) (c : Cw)

theorem evaluated_noEntry : (c.evaluated defs cause).liveEntries = [] ↔ livePairs defs c = [] := by
  simp only [List.eq_nil_iff_forall_not_mem, evaluated_liveEntries, ← mem_livePairs_iff, Prod.forall, not_exists]
  exact forall_comm

theorem evaluated_liveLine_lt {n : Nat} (h : n ∈ (c.evaluated defs cause).liveLines) : n < 24 := (setWhere_mem.1 h).1

theorem evaluated_liveEntry_lt {e : Nat} (h : e ∈ (c.evaluated defs cause).liveEntries) : e < 8 := (setWhere_mem.1 h).1

variable {c}

/-- The latched sets are empty after an evaluation when they were and nothing is live. -/
theorem evaluated_noneLatched (h : c.SetsOk) :
    ((c.evaluated defs cause).latchedLines = [] ↔ c.latchedLines = [] ∧ livePairs defs c = []) ∧
      ((c.evaluated defs cause).latchedEntries = [] ↔ c.latchedEntries = [] ∧ livePairs defs c = []) := by
  refine ⟨?_, ?_⟩
  · rw [← evaluated_noLine defs cause]
    exact setUnion_nil h.lineNumbers fun n => evaluated_liveLine_lt defs cause c
  · rw [← evaluated_noEntry defs cause]
    exact setUnion_nil h.entryNumbers fun e => evaluated_liveEntry_lt defs cause c

/-- A first pair stands after an evaluation unless there was none and nothing is live (R91). -/
theorem evaluated_noFirst (h : c.SetsOk) :
    (c.evaluated defs cause).firstPair = none ↔ c.latchedLines = [] ∧ livePairs defs c = [] := by
  by_cases hstands : c.latchedLines ≠ [] ∨ livePairs defs c = []
  · rw [evaluated_firstPair_stands defs cause c (hstands.imp_right (evaluated_noLine defs cause c).2), ← h.first]
    exact ⟨fun hno => ⟨hno, hstands.resolve_left (not_not.2 hno)⟩, fun hno => hno.1⟩
  · obtain ⟨hempty, hlive⟩ := not_or.1 hstands
    obtain ⟨p, rest, hp⟩ := List.exists_cons_of_ne_nil hlive
    simp [Cw.evaluated, not_not.1 hempty, hp]

theorem Cw.SetsOk.evaluated (h : c.SetsOk) : (c.evaluated defs cause).SetsOk where
  lines n hn := (evaluated_latchedLines defs cause c n).2 ⟨evaluated_liveLine_lt defs cause c hn, .inr hn⟩
  entries e he := (evaluated_latchedEntries defs cause c e).2 ⟨evaluated_liveEntry_lt defs cause c he, .inr he⟩
  lineNumbers n hn := ((evaluated_latchedLines defs cause c n).1 hn).1
  entryNumbers e he := ((evaluated_latchedEntries defs cause c e).1 he).1
  liveLinesOnce := setWhere_nodup _ _
  liveEntriesOnce := setWhere_nodup _ _
  latchedLinesOnce := setWhere_nodup _ _
  latchedEntriesOnce := setWhere_nodup _ _
  live := (evaluated_noLine defs cause c).trans (evaluated_noEntry defs cause c).symm
  latched := by
    obtain ⟨hlines, hentries⟩ := evaluated_noneLatched defs cause h
    rw [hlines, hentries, h.latched]
  first := (evaluated_noneLatched defs cause h).1.trans (evaluated_noFirst defs cause h).symm

end Evaluation

theorem Cw.SetsOk.cleared (c : Cw) : c.cleared.SetsOk :=
  ⟨nofun, nofun, nofun, nofun, .nil, .nil, .nil, .nil, .rfl, .rfl, ⟨fun _ => rfl, fun _ => rfl⟩⟩

theorem Cw.SetsOk.forget {c : Cw} (h : c.SetsOk) : c.forget.SetsOk where
  lines _ hn := hn
  entries _ he := he
  lineNumbers n hn := h.lineNumbers n (h.lines n hn)
  entryNumbers e he := h.entryNumbers e (h.entries e he)
  liveLinesOnce := h.liveLinesOnce
  liveEntriesOnce := h.liveEntriesOnce
  latchedLinesOnce := h.liveLinesOnce
  latchedEntriesOnce := h.liveEntriesOnce
  live := h.live
  latched := h.live
  first := by
    have hfirst : c.liveLines ≠ [] → c.firstPair ≠ none := fun hlive hnone => by
      obtain ⟨n, hn⟩ := List.exists_mem_of_ne_nil _ hlive
      exact List.ne_nil_of_mem (h.lines n hn) (h.first.2 hnone)
    by_cases hlive : c.liveLines = []
    · simp [Cw.forget, hlive]
    · simp [Cw.forget, hlive, hfirst hlive]

/-! ### The moves of a step on the sets -/

/-- What an operation of a step can do to the sets: nothing, an evaluation (R87 to R91), emptying them all (R94, R95), or CLEAR
COINCIDENCE (R96). -/
inductive SetsMove : Cw → Cw → Prop
  | stands {c d : Cw} : d.sets = c.sets → SetsMove c d
  | evaluates (defs : List LineDef) (cause : EvalCause) (c : Cw) : SetsMove c (c.evaluated defs cause)
  | empties (c : Cw) : SetsMove c c.cleared
  | forgets (c : Cw) : SetsMove c c.forget

theorem SetsMove.setsOk {c d : Cw} (hmove : SetsMove c d) (h : c.SetsOk) : d.SetsOk := by
  cases hmove with
  | stands hsets => exact h.congr hsets
  | evaluates defs cause => exact h.evaluated defs cause
  | empties => exact .cleared c
  | forgets => exact h.forget

/-- What every move keeps, a chain of moves keeps. -/
theorem SetsMove.keep {c d : Cw} (h : Relation.ReflTransGen SetsMove c d) (hc : c.SetsOk) : d.SetsOk := by
  induction h with
  | refl => exact hc
  | tail _ hmove ih => exact hmove.setsOk ih

/-- Such moves, one after the other, take the watch of `s` to that of `t`. -/
def WatchMoves (s t : State) : Prop := Relation.ReflTransGen SetsMove s.cw t.cw

theorem WatchMoves.watchOk {s t : State} (h : WatchMoves s t) (hs : WatchOk s) : WatchOk t := by
  rw [watchOk_iff] at hs ⊢
  exact SetsMove.keep h hs

theorem WatchMoves.trans {s t u : State} (h : WatchMoves s t) (h' : WatchMoves t u) : WatchMoves s u :=
  Relation.ReflTransGen.trans h h'

/-- An operation that leaves the sets. -/
theorem watchMoves_of_sets {s t : State} (h : t.cw.sets = s.cw.sets) : WatchMoves s t := .single (.stands h)

/-- An operation whose frame names the watch. -/
theorem watchMoves_of_cw {s t : State} (h : t.cw = s.cw) : WatchMoves s t := watchMoves_of_sets (congrArg Cw.sets h)

theorem WatchMoves.refl (s : State) : WatchMoves s s := watchMoves_of_cw rfl

/-- A change elsewhere after the moves. -/
theorem WatchMoves.congr {s t t' : State} (h : WatchMoves s t) (hcw : t'.cw = t.cw) : WatchMoves s t' :=
  h.trans (watchMoves_of_cw hcw)

/-- A change elsewhere before the moves. -/
theorem WatchMoves.congr_left {s s' t : State} (h : WatchMoves s' t) (hcw : s'.cw = s.cw) : WatchMoves s t :=
  (watchMoves_of_cw hcw).trans h

/-! ### Events of the watch and its job (R85 to R87, R94 to R96) -/

theorem watchMoves_coincEvent {cause : EvalCause} {f : Cw → Cw} {s : State} (hf : UpdatesTables f s.cw) :
    WatchMoves s (coincEvent cause f s) := by
  have htaken : SetsMove s.cw (f s.cw).show := .stands (by rw [hf]; rfl)
  unfold WatchMoves
  cases hj : s.jobs.coinc with
  | false =>
    rw [coincEvent_off hj]
    simpa using .single htaken
  | true =>
    rw [coincEvent_on hj]
    simpa using (Relation.ReflTransGen.single htaken).tail (.evaluates s.gcm.defs cause _)

theorem watchMoves_coincTakeFrame (sd : Side) (v : Nat) (ls : List ListedLine) (s : State) :
    WatchMoves s (coincTakeFrame sd v ls s) :=
  watchMoves_coincEvent rfl

theorem watchMoves_coincTakeBlock (slots : List Nat) (s : State) : WatchMoves s (coincTakeBlock slots s) :=
  watchMoves_coincEvent rfl

/-- The watch once its sets are emptied. -/
theorem watchMoves_emptied {s t : State} (h : t.cw.sets = s.cw.cleared.sets) : WatchMoves s t :=
  (Relation.ReflTransGen.single (.empties s.cw)).tail (.stands h)

theorem watchMoves_enableCoinc (s : State) : WatchMoves s (enableCoinc s).state := by
  unfold enableCoinc; repeat' split
  · exact .refl s
  · exact .refl s
  · exact .refl s
  · exact watchMoves_emptied (by simp [Cw.sets, Cw.cleared])

theorem watchMoves_disableCoinc (s : State) : WatchMoves s (disableCoinc s).state := by
  unfold disableCoinc; split
  · exact watchMoves_emptied (by simp [Cw.sets, Cw.cleared, Cw.show])
  · exact .refl s

theorem watchMoves_clearCoincidence (s : State) : WatchMoves s (clearCoincidence s).state := by
  unfold clearCoincidence; split
  · exact (Relation.ReflTransGen.single (.forgets s.cw)).tail (.stands (by simp [Cw.sets, Cw.show]))
  · exact .refl s

/-! ### Frames and shaft lines (R14, R30, R85) -/

theorem watchMoves_evaluateFrame (sd : Side) (f : Frame) (s : State) : WatchMoves s (evaluateFrame sd f s) := by
  rw [evaluateFrame_eq]
  exact ((watchMoves_coincTakeFrame _ _ _ _).congr_left (by simp [linesJudged])).congr rfl

theorem watchMoves_revolutionToFrames (sd : Side) (p v : Nat) (s : State) : WatchMoves s (revolutionToFrames sd p v s) := by
  have hevaluated : ∀ f, WatchMoves s (tryStart sd v (evaluateFrame sd f s)) := fun f =>
    (watchMoves_evaluateFrame sd f s).congr (by simp)
  unfold revolutionToFrames; dsimp only; split
  · exact watchMoves_of_cw (by simp)
  · split
    · exact watchMoves_of_cw (by simp)
    · split
      · split
        · exact watchMoves_of_cw (by simp)
        · exact hevaluated _
      · exact .refl s

theorem watchMoves_forwardIndex (sd : Side) (s : State) : WatchMoves s (forwardIndex sd s) := by
  by_cases hslip : IsSlip sd s
  · rw [forwardIndex_slip hslip]
    exact watchMoves_of_cw (by simp)
  · rw [forwardIndex_noSlip hslip]
    split
    · rw [closePeriod_eq]
      exact ((watchMoves_revolutionToFrames _ _ _ _).congr (aside_revolutionEvent _ _ _ _).cw).congr_left (aside_periodClosed _ _ s).cw
    · exact .refl s

theorem watchMoves_edgeMeaning (l : SauLine) (level : Bool) (s : State) : WatchMoves s (edgeMeaning l level s) := by
  cases l with
  | a | b | t => exact watchMoves_of_cw (by simp [edgeMeaning])
  | z =>
    change WatchMoves s (takeIndex level s)
    unfold takeIndex; repeat' split
    · exact watchMoves_of_cw (by simp)
    · exact watchMoves_forwardIndex _ s
    · exact .refl s
  | lsz =>
    change WatchMoves s (takeLsIndex level s)
    unfold takeLsIndex; split
    · exact watchMoves_forwardIndex _ s
    · exact .refl s

theorem watchMoves_onEdge (l : SauLine) (level : Bool) (s : State) : WatchMoves s (onEdge l level (edgeMeaning l level) s) := by
  unfold onEdge; dsimp only; split
  · exact (watchMoves_edgeMeaning l level _).congr_left rfl
  · exact .refl s

/-! ### Windows, blocks and zero-cross edges (R63 to R68, R74, R86) -/

theorem watchMoves_tryBlock (s : State) : WatchMoves s (tryBlock s) := by
  unfold tryBlock evaluateBlock; repeat' split
  · exact .refl s
  · exact (watchMoves_coincTakeBlock _ _).congr_left (by simp)
  · exact .refl s

theorem watchMoves_windowDiscarded (cause : WindowCause) (s : State) : WatchMoves s (windowDiscarded cause s) := by
  unfold windowDiscarded; split
  · exact (watchMoves_tryBlock _).congr_left rfl
  · exact .refl s

theorem watchMoves_countCycle (s : State) : WatchMoves s (countCycle s) := by
  unfold countCycle completeWindow; dsimp only; repeat' split
  · exact .refl s
  · exact .refl s
  · exact watchMoves_windowDiscarded _ s
  · exact (watchMoves_tryBlock _).congr_left rfl

theorem watchMoves_measuredEdge (p : Nat) (s : State) : WatchMoves s (measuredEdge p s) := by
  unfold measuredEdge lockedEdge leaveLocked; dsimp only; repeat' split
  · exact ((watchMoves_countCycle _).congr rfl).congr_left (by simp)
  · exact watchMoves_of_cw (by simp)
  · exact (watchMoves_windowDiscarded _ _).congr_left (by simp)
  · exact watchMoves_of_cw (by simp)

theorem watchMoves_takeZeroCross (s : State) : WatchMoves s (takeZeroCross s) := by
  unfold takeZeroCross; repeat' split
  · exact .refl s
  · exact watchMoves_measuredEdge _ s
  · exact .refl s

theorem watchMoves_lossExpire (s : State) : WatchMoves s (lossExpire s) := by
  unfold lossExpire leaveLocked; dsimp only; repeat' split
  · exact .refl s
  · exact (watchMoves_windowDiscarded _ _).congr_left (by simp)
  · exact watchMoves_of_cw (by simp)

/-! ### Commands and written records (R84, R189, R193) -/

theorem watchMoves_disableGear (s : State) : WatchMoves s (disableGear s).state := by
  unfold disableGear; repeat' split
  · exact .refl s
  · exact watchMoves_of_sets (by simp [Cw.sets, Cw.show])
  · exact .refl s

theorem watchMoves_disableGrid (s : State) : WatchMoves s (disableGrid s).state := by
  unfold disableGrid; repeat' split
  · exact .refl s
  · exact watchMoves_of_sets (by simp [stopGrid_watch, Cw.sets, Cw.show])
  · exact .refl s

theorem watchMoves_ownerAnswer (p : PortId) (arg : Word) (c : Command) (s : State) :
    WatchMoves s (ownerAnswer p arg c s).state := by
  cases c with
  | enable j =>
    cases j with
    | coinc => exact watchMoves_enableCoinc s
    | shaft | gear | grid | icing | maint => exact watchMoves_of_cw (by simp [ownerAnswer])
  | disable j =>
    cases j with
    | gear => exact watchMoves_disableGear s
    | grid => exact watchMoves_disableGrid s
    | coinc => exact watchMoves_disableCoinc s
    | shaft | icing | maint => exact watchMoves_of_cw (by simp [ownerAnswer])
  | clearCoincidence => exact watchMoves_clearCoincidence s
  | _ => exact watchMoves_of_cw (by simp [ownerAnswer])

theorem watchMoves_takeControl {p : PortId} {canonical : Word} {ok : Word → Bool} {arg : Word} {body : State → Reply} {s : State}
    (h : WatchMoves s (body s).state) : WatchMoves s (takeControl p canonical ok arg body s) := by
  unfold takeControl; split
  · exact .refl s
  · exact h.congr (by simp)

theorem watchMoves_giveCommand (p : PortId) (arg : Word) (c : Command) (s : State) :
    WatchMoves s (giveCommand c p arg (ownerAnswer p arg c) s) := by
  refine watchMoves_takeControl ?_
  unfold permitted; split
  · exact watchMoves_ownerAnswer p arg c s
  · exact .refl s

theorem Reconfigures.watchSets {s t : State} (h : Reconfigures s t) : t.cw.sets = s.cw.sets := by
  rw [h.cw]
  rfl

theorem watchMoves_completeWrite (p : PortId) (g : Nat) (buf : List BufferWord) (s : State) :
    WatchMoves s (completeWrite p g buf s) := by
  have hr := reconfigures_applyRecords p g buf ((List.range (recordCount g)).filter (fun r => buf.any (·.record = r))) s
  exact watchMoves_of_sets (by simpa [completeWrite] using hr.watchSets)

theorem watchMoves_writeWhole (p : PortId) (g r : Nat) (ws : List MaskedWord) (s : State) :
    WatchMoves s (writeWhole p g r ws s) := by
  unfold writeWhole; dsimp only; repeat' split
  · exact .refl s
  · exact watchMoves_completeWrite _ _ _ s
  · exact .refl s
  · exact .refl s

theorem watchMoves_completeTransaction (p : PortId) (s : State) : WatchMoves s (completeTransaction p s) := by
  unfold completeTransaction; dsimp only; repeat' split
  · exact (watchMoves_completeWrite _ _ _ _).congr_left rfl
  · exact .refl s
  · exact .refl s

/-! ### A step -/

/-- What every command does to the sets. -/
theorem watchMoves_exec {c : Instr} {s t : State} (he : exec c s = .next t) : WatchMoves s t := by
  have hdone : ∀ {t'}, WatchMoves s t' → .next t' = exec c s → WatchMoves s t := by
    intro t' ht' he'
    obtain rfl : t' = t := by rw [he] at he'; injection he'
    exact ht'
  have hafter : ∀ {dt t'}, WatchMoves (s.advance dt) t' → WatchMoves s t' := fun h => h.congr_left rfl
  have htick : ∀ (b : Prop) [Decidable b] (order : TickOrder), WatchMoves s (if b then phaseTick order s else s) := by
    intro b _ order
    split
    · exact watchMoves_of_cw (by simp)
    · exact .refl s
  have hedge : ∀ l dt level, c = edgeOf l dt level → WatchMoves s t := fun l dt level hc =>
    hdone (hafter (watchMoves_onEdge l level (s.advance dt))) (by rw [hc, exec_edgeOf])
  cases hc : controlOf c with
  | some k => exact hdone (hafter (watchMoves_giveCommand _ _ _ _)) (exec_control hc s).symm
  | none =>
    cases c with
    | encoderEdge dt line level =>
      cases line with
      | a => exact hedge .a dt level rfl
      | b => exact hedge .b dt level rfl
    | indexEdge dt level => exact hedge .z dt level rfl
    | toothEdge dt level => exact hedge .t dt level rfl
    | lsIndexEdge dt level => exact hedge .lsz dt level rfl
    | standstillTimerExpiry sd =>
      cases hd : (s.sau.side sd).standstill with
      | none => exact hdone (.refl s) (by simp only [exec, execStandstillTimerExpiry, hd])
      | some d =>
        exact hdone (t' := standstillExpire sd (s.advanceTo d)) (hafter (dt := d - s.now) (watchMoves_of_cw (by simp)))
          (by simp only [exec, execStandstillTimerExpiry, hd])
    | linkTimerExpiry =>
      cases hd : s.ocr.link.timer with
      | none => exact hdone (.refl s) (by simp only [exec, execLinkTimerExpiry, hd])
      | some d =>
        exact hdone (t' := linkExpire (s.advanceTo d)) (hafter (dt := d - s.now) (watchMoves_of_cw (by simp)))
          (by simp only [exec, execLinkTimerExpiry, hd])
    | lossTimerExpiry =>
      cases hd : s.ghm.loss with
      | none => exact hdone (.refl s) (by simp only [exec, execLossTimerExpiry, hd])
      | some d =>
        exact hdone (hafter (watchMoves_lossExpire (s.advance (d - s.now))))
          (by simp only [exec, execLossTimerExpiry, hd]; rfl)
    | strobe =>
      cases hx : s.ghm.gen with
      | none => exact hdone (.refl s) (by simp only [exec, execStrobe, hx])
      | some x =>
        cases hd : x.due with
        | none => exact hdone (.refl s) (by simp only [exec, execStrobe, hx, hd])
        | some d =>
          exact hdone (t' := (s.advanceTo d).setGhm ((s.advanceTo d).ghm.strobe (s.advanceTo d).now x)) (.refl s)
            (by simp only [exec, execStrobe, hx, hd])
    | clockSetDeadline =>
      cases ha : s.cc.armed with
      | none => exact hdone (.refl s) (by simp only [exec, execClockSetDeadline, ha])
      | some a =>
        exact hdone (t' := abandonClock (s.advanceTo a.deadline)) (hafter (dt := a.deadline - s.now) (watchMoves_of_cw (by simp)))
          (by simp only [exec, execClockSetDeadline, ha])
    | gzxEdge dt rising =>
      refine hdone (t' := if rising ∧ (s.advance dt).jobs.grid then takeZeroCross (s.advance dt) else s.advance dt) ?_ rfl
      split
      · exact hafter (watchMoves_takeZeroCross (s.advance dt))
      · exact .refl s
    | gridFrame dt words =>
      refine hdone (t' := if (s.advance dt).jobs.grid then takeGridFrame words (s.advance dt) else s.advance dt) ?_ rfl
      split
      · exact watchMoves_of_cw (by simp)
      · exact .refl s
    | ppsEdge dt rising order =>
      refine hdone (t' := _) ?_ rfl
      split
      · split <;> exact watchMoves_of_cw (by simp)
      · exact .refl s
    | secondTick order => exact hdone (watchMoves_of_cw (by simp)) rfl
    | ackTimerExpiry order | thawTimerExpiry order | operatingRecordStale order | intervalClose order =>
      exact hdone (htick _ order) rfl
    | sampleSet dt | publishComplete dt | transactionStart dt | transactionHeader dt | headerWord dt | fillerWord dt
    | readDataWord dt | writeDataWord dt | commandWord dt | portReset dt | portResetRelease dt =>
      exact hdone (hafter (dt := dt) (watchMoves_of_cw (by simp))) rfl
    | recordWrite dt p => exact hdone (hafter (watchMoves_completeTransaction p (s.advance dt))) rfl
    | operatingArrival dt | statusWrite dt | shaftConfigurationWrite dt | gridConfigurationWrite dt | watchConfigurationWrite dt
    | icingConfigurationWrite dt => exact hdone (hafter (watchMoves_writeWhole _ _ _ _ (s.advance dt))) rfl
    | lineDefinitionWrite dt p n ws =>
      refine hdone (t' := if n < 24 then writeWhole p 3 n ws (s.advance dt) else s.advance dt) ?_ rfl
      split
      · exact hafter (watchMoves_writeWhole _ _ _ _ (s.advance dt))
      · exact .refl s
    | itemDefinitionWrite dt p n ws =>
      refine hdone (t' := if n < 32 then writeWhole p 13 n ws (s.advance dt) else s.advance dt) ?_ rfl
      split
      · exact hafter (watchMoves_writeWhole _ _ _ _ (s.advance dt))
      · exact .refl s
    | unknownCommand dt p command arg =>
      refine hdone (t' := takeUnknown p command arg (s.advance dt)) (hafter (dt := dt) ?_) rfl
      unfold takeUnknown; split
      · exact watchMoves_takeControl (.refl _)
      · exact .refl _
    | invalidJobCode dt p enable job arg =>
      refine hdone (t' := takeNoJob p enable job arg (s.advance dt)) (hafter (dt := dt) ?_) rfl
      unfold takeNoJob; split
      · exact watchMoves_takeControl (.refl _)
      · exact .refl _
    | partReset a b d => exact hdone (t' := partReset a b d s) (watchMoves_emptied rfl) rfl
    | _ => exact absurd hc (nofun)

theorem watchMoves_step {s t : State} (h : step s = .next t) : WatchMoves s t := by
  unfold step at h
  split at h
  · injection h with h
    exact h ▸ .refl s
  next c rest _ => exact (watchMoves_exec h).congr_left rfl

/-! ### LiveSetsAreLatched -/

/-- The tables that a frame leaves, and what its event reaches beside them (R85). -/
theorem coincTakeFrame_tables (sd : Side) (v : Nat) (ls : List ListedLine) (s : State) :
    OnlyTouches [.cw, .lb, .ej, .rep, .pub] s (coincTakeFrame sd v ls s) ∧
      (coincTakeFrame sd v ls s).cw.mech = ls.foldl (mechTake sd v) s.cw.mech ∧
      (coincTakeFrame sd v ls s).cw.elec = s.cw.elec ∧ (coincTakeFrame sd v ls s).cw.config = s.cw.config :=
  ⟨by simp [onlyTouches_iff], coincEvent_tables _ _ s⟩

/-- The tables that a VALID block leaves, and what its event reaches beside them (R86). -/
theorem coincTakeBlock_tables (slots : List Nat) (s : State) :
    OnlyTouches [.cw, .lb, .ej, .rep, .pub] s (coincTakeBlock slots s) ∧
      (coincTakeBlock slots s).cw.mech = s.cw.mech ∧
      (coincTakeBlock slots s).cw.elec = some (snapshotOf s.ghm slots) ∧
      (coincTakeBlock slots s).cw.config = s.cw.config :=
  ⟨by simp [onlyTouches_iff], coincEvent_tables _ _ s⟩

/-- The mechanical table after a frame: every evaluable line has its entry, every other entry stands (R85). -/
theorem mechTaken_says {sd : Side} {v : Nat} {ls : List ListedLine} {xs : List (Option MechEntry)}
    (hlen : xs.length = 24) (hlt : ∀ l ∈ ls, l.line < 24) (hls : LinesDistinct ls) :
    (∀ l ∈ ls, ∀ code ovr, l.code = some (code, ovr) →
      ∃ fm, tget (ls.foldl (mechTake sd v) xs) l.line = some ⟨sd, l.kq, code, ovr, v, fm⟩ ∧
        ∀ k, k = l.kq * v / (match sd with | .hs => 960 | .ls => 15360) → k ≤ 4294967295 → fm = k) ∧
      (∀ k, (∀ l ∈ ls, l.code ≠ none → l.line ≠ k) → tget (ls.foldl (mechTake sd v) xs) k = tget xs k) := by
  refine ⟨fun l hl code ovr hcode => ⟨mechFrequency sd l.kq v, ?_, fun k hk h => mechFrequency_fits hk h⟩,
    fun k hk => mechTaken_other hk xs⟩
  rw [mechTaken_listed hls hl (by rw [hlen]; exact hlt l hl)]
  simp only [mechMade, hcode]

/-- Settles O53: the sets stand under every move of a step, and both events of the watch are an evaluation of its updated tables, or the
tables alone while it is disabled. -/
theorem liveSetsAreLatched : Obligations.LiveSetsAreLatched := by
  unfold Obligations.LiveSetsAreLatched
  refine ⟨fun s t h hstep => (watchMoves_step hstep).watchOk h, fun sd v ls s => ?_, fun slots s => ?_⟩
  · intro t hlen hlt hls
    obtain ⟨hframe, hmech, helec, hconfig⟩ := coincTakeFrame_tables sd v ls s
    obtain ⟨hlisted, hother⟩ := mechTaken_says (sd := sd) (v := v) hlen hlt (hls.imp Nat.ne_of_lt)
    rw [← hmech] at hlisted hother
    exact ⟨hframe, helec, hconfig, hlisted, hother, fun h => coincEvent_evaluated h rfl, fun h => coincEvent_takenOnly h rfl⟩
  · intro t
    obtain ⟨hframe, hmech, helec, hconfig⟩ := coincTakeBlock_tables slots s
    exact ⟨hframe, hmech, hconfig, helec, fun h => coincEvent_evaluated h rfl, fun h => coincEvent_takenOnly h rfl⟩

end Sys2Proof.Machine

/-! PROOFS. The commands of the COINC job (CoincidenceCommands). -/

namespace Sys2Proof.Machine

/-! ### ENABLE COINC (R94) -/

theorem enableCoinc_accepts {s : State} (h : s.jobs.coinc = false) (hg : s.jobs.gear = true) (hj : s.jobs.grid = true)
    (hm : ∃ m ∈ s.cw.config.m, m ≠ 0) :
    enableCoinc s = accept (startPublish 7 [1] s (boardChange [⟨2, .withdraw⟩]
      ((s.setCw { s.cw.cleared with count := 0 }).setJobs { s.jobs with coinc := true }))) := by
  unfold enableCoinc
  rw [if_neg (by simp [h]), if_neg (by simp [hg, hj]), if_neg (by simpa using hm)]
  rfl

/-! ### DISABLE COINC (R95) -/

/-- The state in which DISABLE COINC has withdrawn slot COINC. -/
def coincWithdrawn (s : State) : State := boardChange [⟨2, .withdraw⟩] (s.setCw { s.cw with liveLines := [], liveEntries := [] })

/-- The effects of an accepted DISABLE COINC, before the job is off. -/
def stopCoinc (s : State) : State :=
  ((coincWithdrawn s).setCw (coincWithdrawn s).cw.cleared.show).journalAll (emptiedReport s.cw s.cw.cleared)

theorem disableCoinc_accepts {s : State} (h : s.jobs.coinc = true) :
    disableCoinc s = accept (startPublish 7 coincRecords s ((stopCoinc s).setJobs { s.jobs with coinc := false })) := by
  have hjobs : (coincWithdrawn s).jobs = s.jobs := by simp [coincWithdrawn]
  rw [← hjobs]
  exact if_pos h

@[simp] theorem stopCoinc_frame (s : State) :
    (stopCoinc s).now = s.now ∧ (stopCoinc s).sau = s.sau ∧ (stopCoinc s).ocr = s.ocr ∧ (stopCoinc s).gcm = s.gcm ∧
      (stopCoinc s).ghm = s.ghm ∧ (stopCoinc s).icd = s.icd ∧ (stopCoinc s).cc = s.cc ∧ (stopCoinc s).ms = s.ms ∧
      (stopCoinc s).pi = s.pi ∧ (stopCoinc s).pending = s.pending := by
  simp [stopCoinc, coincWithdrawn]

theorem stopCoinc_cw (s : State) : (stopCoinc s).cw = { s.cw.cleared with entryHigh := shownHigh s.cw } := by
  simp only [stopCoinc, coincWithdrawn, State.journalAll_frame, State.setCw_cw, boardChange_frame, Cw.show_eq]
  rfl

theorem stopCoinc_lb (s : State) : (stopCoinc s).lb = (boardChange [⟨2, .withdraw⟩] s).lb := by
  simp only [stopCoinc, coincWithdrawn, State.journalAll_frame, State.setCw_lb]
  exact boardChange_lb_congr _ rfl rfl

theorem stopCoinc_latch (s : State) (p : PortId) : ((stopCoinc s).rep.get p).latch = (s.rep.get p).latch := by
  simp [stopCoinc, coincWithdrawn]

/-- The COINC entry follows what the withdrawal made of the board. -/
theorem logs_stopCoinc {s : State} (h : s.cw.latchedLines ≠ []) : ∃ first, Logs (first ++ [emptiedEntry]) s (stopCoinc s) := by
  obtain ⟨first, hfirst⟩ := ((logged_refl s).setCw { s.cw with liveLines := [], liveEntries := [] }).boardChange [⟨2, .withdraw⟩]
  have hreport : emptiedReport s.cw s.cw.cleared = [emptiedEntry] := if_pos (by simp [Cw.cleared, h])
  refine ⟨first, Logs.trans (t := (coincWithdrawn s).setCw (coincWithdrawn s).cw.cleared.show) (hfirst.congr rfl rfl) ?_⟩
  rw [stopCoinc, hreport]
  exact logs_journalAll _ _

/-! ### CLEAR COINCIDENCE (R96) -/

/-- The effects of an accepted CLEAR COINCIDENCE, before their publish. -/
def clearLatched (s : State) : State := (s.setCw s.cw.forget.show).journalAll (emptiedReport s.cw s.cw.forget)

theorem clearCoincidence_accepts {s : State} (h : s.jobs.coinc = true) :
    clearCoincidence s = accept (startPublish 7 coincRecords s (clearLatched s)) := if_pos h

theorem clearCoincidence_refuses {s : State} (h : s.jobs.coinc = false) : clearCoincidence s = refuse .wrongState s :=
  if_neg (by simp [h])

/-- The watch after CLEAR COINCIDENCE in the words of the statement. -/
theorem Cw.forget_show (c : Cw) :
    c.forget.show = { c with
      latchedLines := c.liveLines
      latchedEntries := c.liveEntries
      entryHigh := shownHigh c
      firstPair := if c.liveLines = [] then none else c.firstPair } := by
  simp only [Cw.show_eq, Cw.forget, List.isEmpty_iff]
  rfl

theorem emptiedReport_forget (c : Cw) :
    (c.latchedLines ≠ [] → c.liveLines = [] → emptiedReport c c.forget = [emptiedEntry]) ∧
      ((c.latchedLines = [] ∨ c.liveLines ≠ []) → emptiedReport c c.forget = []) := by
  refine ⟨fun h h' => if_pos (by simp [Cw.forget, h, h']), fun h => if_neg ?_⟩
  rcases h with h | h <;> simp [Cw.forget, h]

theorem logs_clearLatched (s : State) : Logs (emptiedReport s.cw s.cw.forget) s (clearLatched s) :=
  (logs_journalAll _ (s.setCw s.cw.forget.show)).congr_left rfl rfl

/-! ### The three commands -/

/-- Slot COINC withdrawn: it is inactive and every other slot stands (R92). -/
theorem coincSlot_withdrawn {s t : State} (h : t.lb = (boardChange [⟨2, .withdraw⟩] s).lb) :
    (tget t.lb.slots 2).active = false ∧ SlotsElsewhere [2] s t := by
  unfold SlotsElsewhere
  rw [h]
  exact ⟨boardChange_withdrawn 2 s, fun k hk => boardChange_other _ s k (by simpa [eq_comm] using hk)⟩

/-- Settles O21: each command reaches its owner, whose effects are said above. -/
theorem coincidenceCommands : Obligations.CoincidenceCommands := by
  unfold Obligations.CoincidenceCommands
  intro dt p arg raw s u empty
  refine ⟨fun hr hd h hg hj hm => ?_, fun hr hd h => ?_, fun hr hd h => ?_, fun hr hd h => ?_⟩
  · have hexec := exec_delivered (i := .enableCoinc dt p arg) (k := ⟨dt, p, .enable .coinc, arg⟩) rfl hd hr
    dsimp only [ownerAnswer] at hexec
    rw [enableCoinc_accepts h hg hj hm] at hexec
    have hlb := boardChange_lb_congr [⟨2, .withdraw⟩] (s := u)
      (t := (u.setCw { u.cw.cleared with count := 0 }).setJobs { u.jobs with coinc := true }) rfl rfl
    obtain ⟨hslot, hother⟩ := coincSlot_withdrawn hlb
    exact ⟨_, hexec, by simp [onlyTouches_iff], by simp, by simp [Cw.cleared, empty], hlb, hslot, hother, fun q => by simp,
      State.answered_pi_congr (by simp)⟩
  · have hexec := exec_delivered (i := .disableCoinc dt p arg) (k := ⟨dt, p, .disable .coinc, arg⟩) rfl hd hr
    dsimp only [ownerAnswer] at hexec
    rw [disableCoinc_accepts h] at hexec
    obtain ⟨hslot, hother⟩ := coincSlot_withdrawn (stopCoinc_lb u)
    refine ⟨_, hexec, by simp [onlyTouches_iff], rfl, stopCoinc_cw u, stopCoinc_lb u, fun hlatched => ?_, hslot, hother,
      stopCoinc_latch u, State.answered_pi_congr (by simp)⟩
    obtain ⟨first, hlogs⟩ := logs_stopCoinc hlatched
    exact (hlogs.congr rfl rfl).journals
  · have hexec := exec_delivered (i := .clearCoincidence dt p arg) (k := ⟨dt, p, .clearCoincidence, arg⟩) rfl hd (mem_givers_grid hr)
    dsimp only [ownerAnswer] at hexec
    rw [clearCoincidence_accepts h] at hexec
    obtain ⟨hempties, hstands⟩ := emptiedReport_forget u.cw
    have hlogs := logs_clearLatched u
    refine ⟨_, hexec, by simp [onlyTouches_iff, clearLatched], ?_, fun hlatched hlive => ?_, fun hno => ?_,
      fun q => by simp [clearLatched], State.answered_pi_congr (by simp [clearLatched])⟩
    · simp [clearLatched, Cw.forget_show]
    · rw [hempties hlatched hlive] at hlogs
      exact (hlogs.congr rfl rfl).journalsFirst (rest := [])
    · rw [hstands hno] at hlogs
      exact hlogs.2.2
  · have hexec := exec_delivered (i := .clearCoincidence dt p arg) (k := ⟨dt, p, .clearCoincidence, arg⟩) rfl hd (mem_givers_grid hr)
    dsimp only [ownerAnswer] at hexec
    rw [clearCoincidence_refuses h] at hexec
    exact hexec

end Sys2Proof.Machine

/-! PROOFS. Slot ICING and the icing machine under every operation of a step (IcingSlotFollowsTheState). -/

namespace Sys2Proof.Machine

/-! ### What slot ICING says (R112) -/

/-- Slot ICING of a detector in a state, with the suspect cap of its configuration. -/
def IcingSlotSays (suspectCap : Nat) (st : IcingState) (x : Slot) : Prop :=
  match st with
  | .iced => Posted x 0 .iced
  | .thaw => Posted x 0 .thaw
  | .suspect => Posted x suspectCap .suspect
  | _ => x.active = false

theorem icingSlotOk_iff (s : State) :
    IcingSlotOk s ↔ s.lb.slots.length = 28 ∧ IcingSlotSays s.icd.config.suspectCap s.icd.state (tget s.lb.slots 0) := Iff.rfl

/-- The posting of a state brings slot ICING to what the state says; a withdrawal does so in or past the table. -/
theorem boardChange_icingPosting (c : IcingConfig) (st : IcingState) {s : State}
    (h : st = .iced ∨ st = .thaw ∨ st = .suspect → s.lb.slots ≠ []) :
    IcingSlotSays c.suspectCap st (tget (boardChange [icingPosting c st] s).lb.slots 0) := by
  cases st with
  | off | clear | watch => exact boardChange_withdrawn 0 s
  | suspect | iced | thaw =>
    exact boardChange_posts (k := 0) (List.length_pos_of_ne_nil (h (by simp))) (by simp [icingPosting, slotIcing])

/-- A detector in the state whose posting the board has just taken. -/
theorem icingPosted_icingSlotOk {s : State} {c : IcingConfig} {st : IcingState} (hlen : s.lb.slots.length = 28)
    (hstate : s.icd.state = st) (hcap : s.icd.config.suspectCap = c.suspectCap) : IcingSlotOk (boardChange [icingPosting c st] s) := by
  refine (icingSlotOk_iff _).2 ⟨by simp [hlen], ?_⟩
  simp only [boardChange_frame, hstate, hcap]
  exact boardChange_icingPosting c st fun _ => by rintro h; simp [h] at hlen

/-! ### What stands while the detector posts nothing -/

/-- The icing state, the suspect cap and slot ICING stand. -/
structure IcingStands (s t : State) : Prop where
  state : t.icd.state = s.icd.state
  cap : t.icd.config.suspectCap = s.icd.config.suspectCap
  slots : t.lb.slots.length = s.lb.slots.length
  slot : tget t.lb.slots 0 = tget s.lb.slots 0

theorem IcingStands.refl (s : State) : IcingStands s s := ⟨rfl, rfl, rfl, rfl⟩

theorem IcingStands.trans {s t u : State} (h : IcingStands s t) (h' : IcingStands t u) : IcingStands s u :=
  ⟨h'.state.trans h.state, h'.cap.trans h.cap, h'.slots.trans h.slots, h'.slot.trans h.slot⟩

theorem IcingStands.icingSlotOk {s t : State} (h : IcingStands s t) (hs : IcingSlotOk s) : IcingSlotOk t := by
  obtain ⟨hlen, hsays⟩ := (icingSlotOk_iff s).1 hs
  refine (icingSlotOk_iff t).2 ⟨h.slots.trans hlen, ?_⟩
  rw [h.cap, h.state, h.slot]
  exact hsays

/-- An operation whose frame names detector and slots. -/
theorem icingStands_of_frame {s t : State} (hicd : t.icd = s.icd) (hlb : t.lb.slots = s.lb.slots) : IcingStands s t :=
  ⟨by rw [hicd], by rw [hicd], by rw [hlb], by rw [hlb]⟩

theorem IcingStands.congr {s t t' : State} (h : IcingStands s t) (hicd : t'.icd = t.icd) (hlb : t'.lb.slots = t.lb.slots) :
    IcingStands s t' := h.trans (icingStands_of_frame hicd hlb)

theorem IcingStands.congr_left {s s' t : State} (h : IcingStands s' t) (hicd : s'.icd = s.icd) (hlb : s'.lb.slots = s.lb.slots) :
    IcingStands s t := (icingStands_of_frame hicd hlb).trans h

theorem icingStands_setIcd {s : State} {x : Icd} (hstate : x.state = s.icd.state) (hconfig : x.config = s.icd.config) :
    IcingStands s (s.setIcd x) := ⟨hstate, congrArg IcingConfig.suspectCap hconfig, rfl, rfl⟩

/-- A change of the slots of other posters, after a change that slot and detector do not see. -/
theorem IcingStands.boardChange {s t : State} (h : IcingStands s t) {cs : List SlotChange} (hc : ∀ c ∈ cs, c.slot ≠ 0) :
    IcingStands s (boardChange cs t) :=
  h.trans ⟨by simp, by simp, by simp, boardChange_other cs t 0 hc⟩

theorem IcingStands.startPublish {s t : State} (h : IcingStands s t) (g : Nat) (rs : List Nat) (u : State) :
    IcingStands s (startPublish g rs u t) := h.congr rfl rfl

/-! ### The other blocks of the board -/

theorem icingStands_boardTick (s : State) : IcingStands s (boardTick s) := by
  refine icingStands_of_frame (by simp) ?_
  unfold boardTick; repeat' split
  · rfl
  · simp [ackExpire]
  · rfl

theorem icingStands_ackCap (g : Nat) (s : State) : IcingStands s (ackCap g s).state := by
  refine icingStands_of_frame (by simp) ?_
  unfold ackCap acknowledge; dsimp only; repeat' split
  · rfl
  · simp [Lb.acknowledged]
  · rfl

theorem icingStands_scheduleEvent {f : State → State} {s : State} (hicd : (f s).icd = s.icd) (hlb : (f s).lb = s.lb) :
    IcingStands s (scheduleEvent f s) := by
  obtain ⟨hlen, hslot⟩ := recomputeMaint_slots (f s)
  obtain ⟨hlb', -⟩ := scheduleEvent_parts f s
  rw [hlb] at hlen hslot
  exact ⟨by simp [hicd], by simp [hicd], by rw [hlb', hlen], by rw [hlb', hslot 0 (by decide)]⟩

theorem icingStands_scheduleTick (s : State) : IcingStands s (scheduleTick s) :=
  icingStands_scheduleEvent (by simp) (by simp)

theorem icingStands_takePulls (gs : List Pull) (s : State) : IcingStands s (takePulls gs s) :=
  ⟨by simp, by simp, (takePulls_slots gs s).1, (takePulls_slots gs s).2 0 (by decide)⟩

theorem icingStands_stopMaint (s : State) : IcingStands s (stopMaint s) := by
  have hposter : ∀ c ∈ (if s.ms.posted.isSome then [⟨slotMaint, .withdraw⟩] else [] : List SlotChange), c.slot ≠ 0 := by
    intro c hc
    split at hc
    · rw [List.mem_singleton.1 hc]; decide
    · cases hc
  have hstopped : IcingStands s ((s.setJobs { s.jobs with maint := false }).setMs { s.ms with posted := none }) :=
    icingStands_of_frame rfl rfl
  exact (hstopped.boardChange hposter).startPublish 13 _ s

theorem icingStands_itemDone (n : Nat) (s : State) : IcingStands s (itemDone n s).state := by
  unfold itemDone; repeat' split
  case h_2.isTrue => exact icingStands_scheduleEvent (f := finishItem n _) (by simp) (by simp)
  all_goals exact .refl s

theorem icingStands_itemDefer (n : Nat) (s : State) : IcingStands s (itemDefer n s).state := by
  unfold itemDefer; dsimp only; repeat' split
  case h_2.isFalse.isFalse.isFalse => exact icingStands_scheduleEvent (f := postponeItem n _) (by simp) (by simp)
  all_goals exact .refl s

theorem icingStands_enableMaint (s : State) : IcingStands s (enableMaint s).state := by
  unfold enableMaint; repeat' split
  · exact .refl s
  · rw [accept_state]
    exact icingStands_scheduleEvent (by simp) (by simp)
  · exact .refl s

theorem icingStands_coincEvent (cause : EvalCause) (f : Cw → Cw) (s : State) : IcingStands s (coincEvent cause f s) := by
  obtain ⟨t, ht⟩ : ∃ t, (if s.jobs.coinc then latchReport (f s.cw).show (s.setCw ((f s.cw).show.evaluated s.gcm.defs cause))
      else s.setCw (f s.cw).show) = t := ⟨_, rfl⟩
  have hshown : IcingStands s t := by
    rw [← ht]
    split <;> exact icingStands_of_frame (by simp) (by simp)
  have hposted := hshown.boardChange (cs := coincPosting s.cw t.cw) fun c hc => by rw [coincPosting_slot hc]; decide
  rw [← ht] at hposted
  exact hposted.startPublish 7 coincRecords s

theorem icingStands_coincTakeFrame (sd : Side) (v : Nat) (ls : List ListedLine) (s : State) :
    IcingStands s (coincTakeFrame sd v ls s) := icingStands_coincEvent _ _ s

theorem icingStands_enableCoinc (s : State) : IcingStands s (enableCoinc s).state := by
  unfold enableCoinc; repeat' split
  case isFalse.isFalse.isFalse =>
    have hstarted : IcingStands s ((s.setCw { s.cw.cleared with count := 0 }).setJobs { s.jobs with coinc := true }) :=
      icingStands_of_frame rfl rfl
    exact (hstarted.boardChange (cs := [⟨slotCoinc, .withdraw⟩]) (by simp [slotCoinc])).startPublish 7 [1] s
  all_goals exact .refl s

theorem icingStands_disableCoinc (s : State) : IcingStands s (disableCoinc s).state := by
  cases hj : s.jobs.coinc with
  | false => rw [disableCoinc_idle hj]; exact .refl s
  | true =>
    rw [disableCoinc_accepts hj]
    exact ⟨by simp, by simp, by simp [stopCoinc_lb], by simpa [stopCoinc_lb] using boardChange_other _ s 0 (by simp)⟩

/-- A completion hands the board gear slots alone, then signals the schedule and the watch (R51, R85, R159). -/
theorem icingStands_evaluateFrame (sd : Side) (f : Frame) (s : State) : IcingStands s (evaluateFrame sd f s) := by
  have hstored : IcingStands s (gcmEvaluated sd (evaluatedEngine sd f s).seq f.listed (resultsStored sd f s)) :=
    icingStands_of_frame (by simp) (by simp)
  have hjudged : IcingStands s (linesJudged sd f s) :=
    hstored.boardChange (cs := (evaluation sd f s).2.postings) fun c hc => by
      have : 4 ≤ c.slot := takeLines_posting_slot hc
      omega
  rw [evaluateFrame_eq]
  exact ((hjudged.trans (icingStands_takePulls _ _)).trans (icingStands_coincTakeFrame _ _ _ _)).startPublish _ _ s

theorem icingStands_stopGear (s : State) : IcingStands s (stopGear s) :=
  ⟨by simp, by simp, stopGear_slots_length s, stopGear_leaves fun _ _ _ => by omega⟩

theorem icingStands_disableGear (s : State) : IcingStands s (disableGear s).state := by
  unfold disableGear; repeat' split
  · exact .refl s
  · exact (icingStands_stopGear s).congr rfl rfl
  · exact .refl s

/-! ### Shaft lines (R14, R30) -/

theorem icingStands_revolutionToFrames (sd : Side) (p v : Nat) (s : State) : IcingStands s (revolutionToFrames sd p v s) := by
  have hevaluated : ∀ f, IcingStands s (tryStart sd v (evaluateFrame sd f s)) := fun f =>
    (icingStands_evaluateFrame sd f s).congr (by simp) (by simp)
  unfold revolutionToFrames; dsimp only; split
  · exact icingStands_of_frame (by simp) (by simp)
  · split
    · exact icingStands_of_frame (by simp) (by simp)
    · split
      · split
        · exact icingStands_of_frame (by simp) (by simp)
        · exact hevaluated _
      · exact icingStands_of_frame (by simp) (by simp)

theorem icingStands_forwardIndex (sd : Side) (s : State) : IcingStands s (forwardIndex sd s) := by
  by_cases hslip : IsSlip sd s
  · rw [forwardIndex_slip hslip]
    exact icingStands_of_frame (by simp) (by simp)
  · rw [forwardIndex_noSlip hslip]
    split
    · rw [closePeriod_eq]
      have hevent := icingStands_revolutionToFrames sd (s.sau.side sd).reloaded.counter
        (sideSpeed sd (s.sau.side sd).reloaded.counter) (periodClosed sd (s.sau.side sd).reloaded s)
      refine (hevent.congr_left (by simp [periodClosed]) (by simp [periodClosed])).congr (by simp) ?_
      rw [(aside_revolutionEvent _ _ _ _).lb]
    · exact icingStands_of_frame rfl rfl

/-- What follows an edge of any line of the shaft unit. -/
theorem icingStands_edgeMeaning (l : SauLine) (level : Bool) (s : State) : IcingStands s (edgeMeaning l level s) := by
  cases l with
  | a | b | t => exact icingStands_of_frame (by simp [edgeMeaning]) (by simp [edgeMeaning])
  | z =>
    change IcingStands s (takeIndex level s)
    unfold takeIndex; repeat' split
    · exact icingStands_of_frame (by simp) (by simp)
    · exact icingStands_forwardIndex _ s
    · exact .refl s
  | lsz =>
    change IcingStands s (takeLsIndex level s)
    unfold takeLsIndex; split
    · exact icingStands_forwardIndex _ s
    · exact .refl s

theorem icingStands_onEdge (l : SauLine) (level : Bool) (s : State) : IcingStands s (onEdge l level (edgeMeaning l level) s) := by
  have hset : ∀ x : Sau, IcingStands s (s.setSau x) := fun x => icingStands_of_frame rfl rfl
  unfold onEdge; dsimp only; split
  · exact (hset _).trans (icingStands_edgeMeaning l level _)
  · exact hset _

/-! ### Windows, blocks and zero-cross edges (R63 to R68, R74, R79, R86) -/

theorem icingStands_coincTakeBlock (slots : List Nat) (s : State) : IcingStands s (coincTakeBlock slots s) :=
  icingStands_coincEvent _ _ s

theorem icingStands_evaluateBlock (s : State) : IcingStands s (evaluateBlock s) := by
  have hposted : ∀ (x : Ghm) (bs : List EntryBody),
      IcingStands s (boardChange (conformancePosting s.ghm x) ((s.setGhm x).journalAll bs)) := fun x bs =>
    (icingStands_of_frame (t := (s.setGhm x).journalAll bs) (by simp) (by simp)).boardChange
      fun c hc => by rw [conformancePosting_slot hc]; decide
  unfold evaluateBlock; split
  · exact icingStands_of_frame (by simp) (by simp)
  · exact ((hposted _ _).startPublish _ _ s).trans (icingStands_coincTakeBlock _ _)

theorem icingStands_tryBlock (s : State) : IcingStands s (tryBlock s) := by
  unfold tryBlock; split
  · exact icingStands_evaluateBlock s
  · exact .refl s

theorem icingStands_windowEvaluated (w : Window) (s : State) : IcingStands s (windowEvaluated w s) :=
  (icingStands_tryBlock _).congr_left rfl rfl

theorem icingStands_windowDiscarded (cause : WindowCause) (s : State) : IcingStands s (windowDiscarded cause s) := by
  unfold windowDiscarded; split
  · exact (icingStands_tryBlock _).congr_left rfl rfl
  · exact .refl s

theorem icingStands_countCycle (s : State) : IcingStands s (countCycle s) := by
  unfold countCycle completeWindow; dsimp only; repeat' split
  · exact .refl s
  · exact icingStands_of_frame rfl rfl
  · exact icingStands_windowDiscarded _ s
  · exact icingStands_windowEvaluated _ s

theorem icingStands_measuredEdge (p : Nat) (s : State) : IcingStands s (measuredEdge p s) := by
  unfold measuredEdge lockedEdge leaveLocked; dsimp only; repeat' split
  · exact ((icingStands_countCycle _).congr_left (by simp) (by simp)).congr rfl rfl
  · exact icingStands_of_frame (by simp) (by simp)
  · exact (icingStands_windowDiscarded _ _).congr_left (by simp) (by simp)
  · exact icingStands_of_frame (by simp) (by simp)

theorem icingStands_takeZeroCross (s : State) : IcingStands s (takeZeroCross s) := by
  unfold takeZeroCross; repeat' split
  · exact icingStands_of_frame rfl rfl
  · exact icingStands_measuredEdge _ s
  · exact icingStands_of_frame rfl rfl

theorem icingStands_lossExpire (s : State) : IcingStands s (lossExpire s) := by
  unfold lossExpire leaveLocked; dsimp only; repeat' split
  · exact icingStands_of_frame rfl rfl
  · exact (icingStands_windowDiscarded _ _).congr_left (by simp) (by simp)
  · exact icingStands_of_frame (by simp) (by simp)

theorem icingStands_disableGrid (s : State) : IcingStands s (disableGrid s).state := by
  obtain ⟨hlen, hother, -, -⟩ := stopGrid_slots s
  unfold disableGrid; repeat' split
  · exact .refl s
  · exact ⟨by simp, by simp, hlen, hother 0 (by decide)⟩
  · exact .refl s

/-! ### The Icing Detector (R104, R109 to R117) -/

theorem icingChange_icingSlotOk (st : IcingState) (value : Int) {f : Icd → Icd} {s : State} (h : IcingSlotOk s)
    (hstate : ∀ c, (f c).state = c.state) (hconfig : ∀ c, (f c).config = c.config) : IcingSlotOk (icingChange st value f s) :=
  (icingStands_of_frame rfl rfl).icingSlotOk (icingPosted_icingSlotOk (by simpa using h.1) (by simp [hstate, Icd.enter])
    (by simp [hconfig, Icd.enter]))

theorem freshnessTick_icingSlotOk {s : State} (h : IcingSlotOk s) : IcingSlotOk (freshnessTick s) := by
  have hset : ∀ age condition, IcingStands s (s.setIcd { s.icd with age := age, fresh := condition }) := fun _ _ =>
    icingStands_setIcd rfl rfl
  unfold freshnessTick; dsimp only; split
  · exact ((hset (satAdd 65535 s.icd.age 1) .stale).congr (by simp) (by simp)).icingSlotOk h
  · exact (hset _ s.icd.fresh).icingSlotOk h

theorem closeInterval_icingSlotOk {s : State} (h : IcingSlotOk s) : IcingSlotOk (closeInterval s) := by
  unfold closeInterval; dsimp only; split
  · exact ((icingStands_setIcd (s := s) rfl rfl).congr rfl rfl).icingSlotOk h
  · exact icingChange_icingSlotOk _ _ h (fun _ => rfl) (fun _ => rfl)

theorem intervalTick_icingSlotOk {s : State} (h : IcingSlotOk s) : IcingSlotOk (intervalTick s) := by
  unfold intervalTick; repeat' split
  · exact closeInterval_icingSlotOk h
  · exact (icingStands_setIcd (s := s) rfl rfl).icingSlotOk h
  · exact h

theorem thawTick_icingSlotOk (before : Option Nat) {s : State} (h : IcingSlotOk s) : IcingSlotOk (thawTick before s) := by
  unfold thawTick thawExpire; repeat' split
  · exact icingChange_icingSlotOk _ _ h (fun _ => rfl) (fun _ => rfl)
  · exact (icingStands_setIcd (s := s) rfl rfl).icingSlotOk h
  · exact (icingStands_setIcd (s := s) rfl rfl).icingSlotOk h
  · exact h

theorem icingTick_icingSlotOk {s : State} (h : IcingSlotOk s) : IcingSlotOk (icingTick s) :=
  thawTick_icingSlotOk _ (intervalTick_icingSlotOk (freshnessTick_icingSlotOk h))

theorem enableIcing_icingSlotOk {s : State} (h : IcingSlotOk s) : IcingSlotOk (enableIcing s).state := by
  unfold enableIcing; repeat' split
  · exact h
  · exact h
  · exact (icingStands_of_frame rfl rfl).icingSlotOk (icingPosted_icingSlotOk (by simpa using h.1) (by simp [Icd.start, Icd.reopen, Icd.enter])
      (by simp [Icd.start, Icd.reopen, Icd.enter]))

theorem disableIcing_icingSlotOk {s : State} (h : IcingSlotOk s) : IcingSlotOk (disableIcing s).state := by
  unfold disableIcing; split
  · exact (icingStands_of_frame rfl rfl).icingSlotOk (icingPosted_icingSlotOk (by simpa using h.1) (by simp [Icd.reopen, Icd.enter])
      (by simp [Icd.reopen, Icd.enter]))
  · exact h

theorem icingReport_icingSlotOk {s : State} (h : IcingSlotOk s) : IcingSlotOk (icingReport s).state := by
  unfold icingReport; split
  · exact h
  · exact h
  · exact icingChange_icingSlotOk _ _ h (fun _ => rfl) (fun _ => rfl)

theorem icingRelease_icingSlotOk {s : State} (h : IcingSlotOk s) : IcingSlotOk (icingRelease s).state := by
  unfold icingRelease; repeat' split
  · exact h
  · exact icingChange_icingSlotOk _ _ h (fun _ => rfl) (fun _ => rfl)
  · exact h

theorem icingStands_learnBaseline (s : State) : IcingStands s (learnBaseline s).state := by
  unfold learnBaseline; split
  · exact .refl s
  next b _ =>
    exact (icingStands_setIcd (s := s) (x := { s.icd with base := b }) rfl rfl).congr (by simp) (by simp)

/-! ### The clock (R137, R139) -/

theorem handTick_icingSlotOk (order : TickOrder) {s : State} (h : IcingSlotOk s) : IcingSlotOk (handTick order s) := by
  have hms : ∀ {s}, IcingSlotOk s → IcingSlotOk (scheduleTick s) := fun h => (icingStands_scheduleTick _).icingSlotOk h
  have hlb : ∀ {s}, IcingSlotOk s → IcingSlotOk (boardTick s) := fun h => (icingStands_boardTick _).icingSlotOk h
  cases order with
  | icdLbMs => exact hms (hlb (icingTick_icingSlotOk h))
  | icdMsLb => exact hlb (hms (icingTick_icingSlotOk h))
  | lbIcdMs => exact hms (icingTick_icingSlotOk (hlb h))
  | lbMsIcd => exact icingTick_icingSlotOk (hms (hlb h))
  | msIcdLb => exact hlb (icingTick_icingSlotOk (hms h))
  | msLbIcd => exact icingTick_icingSlotOk (hlb (hms h))

theorem issueTick_icingSlotOk (order : TickOrder) {s : State} (h : IcingSlotOk s) : IcingSlotOk (issueTick order s) :=
  handTick_icingSlotOk order ((icingStands_of_frame (by simp) (by simp)).icingSlotOk h)

theorem phaseTick_icingSlotOk (order : TickOrder) {s : State} (h : IcingSlotOk s) : IcingSlotOk (phaseTick order s) :=
  issueTick_icingSlotOk order ((icingStands_of_frame rfl rfl).icingSlotOk h)

theorem alignTick_icingSlotOk (order : TickOrder) {s : State} (h : IcingSlotOk s) : IcingSlotOk (alignTick order s) := by
  have hzero : IcingSlotOk (zeroPhase s) := (icingStands_of_frame rfl rfl).icingSlotOk h
  unfold alignTick; split
  · exact issueTick_icingSlotOk order hzero
  · exact hzero

theorem takePps_icingSlotOk (order : TickOrder) {s : State} (h : IcingSlotOk s) : IcingSlotOk (takePps order s) := by
  have haccept : IcingSlotOk (s.setCc (s.cc.acceptPps s.now)) := (icingStands_of_frame rfl rfl).icingSlotOk h
  unfold takePps; dsimp only; repeat' split
  · exact (icingStands_of_frame (by simp) (by simp)).icingSlotOk (alignTick_icingSlotOk order haccept)
  · exact alignTick_icingSlotOk order haccept
  · exact haccept

/-! ### Written records (R98, R101, R102, R189) -/

theorem Icd.arrive_machine (enabled : Bool) (c : Icd) :
    (c.arrive enabled).state = c.state ∧ (c.arrive enabled).config = c.config := by
  unfold Icd.arrive Icd.sum; dsimp only; repeat' split
  all_goals exact ⟨rfl, rfl⟩

theorem operatingArrived_state (s : State) : (operatingArrived s).icd.state = s.icd.state := by
  unfold operatingArrived; dsimp only; split <;> simp [Icd.arrive_machine]

/-- No write reaches the icing state. -/
theorem writeRecord_icingState (p : PortId) (g r : Nat) (ms : List MaskedWord) (s : State) :
    (writeRecord p g r ms s).icd.state = s.icd.state := by
  unfold writeRecord; repeat' split
  case h_5.isTrue => exact (operatingArrived_state _).trans (by simp)
  case h_6.isTrue => rw [writeIcing_icd]
  case h_6.isFalse.isTrue => rfl
  all_goals simp

theorem applyRecords_icingState (p : PortId) (g : Nat) (buf : List BufferWord) (rs : List Nat) (s : State) :
    (rs.foldl (applyRecord p g buf) s).icd.state = s.icd.state := by
  induction rs generalizing s with
  | nil => rfl
  | cons r rs ih =>
    rw [List.foldl_cons, ih]
    unfold applyRecord; dsimp only; split
    · exact writeRecord_icingState _ _ _ _ _
    · rfl

/-- Of what a write hands the board the part of slot ICING: a changed suspect cap in SUSPECT (R102). -/
theorem writePostings_of_icing (s t : State) :
    (writePostings s t).filter (fun c => c.slot = 0) =
      if s.icd.state = .suspect ∧ s.icd.config.suspectCap ≠ t.icd.config.suspectCap then
        [⟨0, .post t.icd.config.suspectCap .suspect⟩] else [] := by
  have hlines : (linePostings s t).filter (fun c => c.slot = 0) = [] := by
    rw [List.filter_eq_nil_iff]
    intro c hc
    rw [linePostings_eq] at hc
    obtain ⟨n, -, hn⟩ := List.mem_flatMap.1 hc
    have := linePosting_slot hn
    simp; omega
  have hone : ∀ (b : Prop) [Decidable b] (k cap : Nat) (code : SlotCode),
      (if b then [(⟨k, .post cap code⟩ : SlotChange)] else []).filter (fun c => c.slot = 0) =
        if k = 0 then (if b then [⟨k, .post cap code⟩] else []) else [] := by
    intro b _ k cap code
    by_cases hb : b <;> by_cases hk : k = 0 <;> simp [hb, hk]
  unfold writePostings
  simp only [List.filter_append, hone, hlines]
  simp [slotGrid, slotCoinc, slotIcing]

theorem completeWrite_icingSlotOk (p : PortId) (g : Nat) (buf : List BufferWord) {s : State} (h : IcingSlotOk s) :
    IcingSlotOk (completeWrite p g buf s) := by
  obtain ⟨t, ht⟩ : ∃ t, ((List.range (recordCount g)).filter (fun r => buf.any (·.record = r))).foldl (applyRecord p g buf) s = t :=
    ⟨_, rfl⟩
  have hslots : t.lb.slots = s.lb.slots := ht ▸ (rewrites_applyRecords p g buf _ s).slots
  have hstate : t.icd.state = s.icd.state := ht ▸ applyRecords_icingState p g buf _ s
  have hwrite : completeWrite p g buf s = boardChange (writePostings s t) t := by rw [← ht]; rfl
  obtain ⟨hlen, hsays⟩ := (icingSlotOk_iff s).1 h
  have hposted := writePostings_of_icing s t
  rw [hwrite]
  refine (icingSlotOk_iff _).2 ⟨by simp [hslots, hlen], ?_⟩
  simp only [boardChange_frame, hstate]
  by_cases hsuspect : s.icd.state = .suspect
  · rw [hsuspect] at hsays ⊢
    exact boardChange_reposted (by rw [hslots, hlen]; decide) hposted (fun _ => by rw [hslots]; exact hsays) hsuspect
  · rw [boardChange_unnamed _ (hposted.trans (if_neg fun hs => hsuspect hs.1)), hslots]
    revert hsays hsuspect
    cases s.icd.state <;> simp [IcingSlotSays]

theorem writeWhole_icingSlotOk (p : PortId) (g r : Nat) (ws : List MaskedWord) {s : State} (h : IcingSlotOk s) :
    IcingSlotOk (writeWhole p g r ws s) := by
  unfold writeWhole; dsimp only; repeat' split
  · exact h
  · exact completeWrite_icingSlotOk _ _ _ h
  · exact (icingStands_of_frame rfl rfl).icingSlotOk h
  · exact h

theorem completeTransaction_icingSlotOk (p : PortId) {s : State} (h : IcingSlotOk s) : IcingSlotOk (completeTransaction p s) := by
  have hclosed : IcingSlotOk (s.setPort p (s.pi.get p).close) := (icingStands_of_frame rfl rfl).icingSlotOk h
  unfold completeTransaction; dsimp only; repeat' split
  · exact completeWrite_icingSlotOk _ _ _ hclosed
  · exact hclosed
  · exact hclosed

/-! ### Commands -/

theorem ownerAnswer_icingSlotOk (p : PortId) (arg : Word) (c : Command) {s : State} (h : IcingSlotOk s) :
    IcingSlotOk (ownerAnswer p arg c s).state := by
  have hframe : ∀ {t : State}, t.icd = s.icd → t.lb = s.lb → IcingSlotOk t := fun hicd hlb =>
    (icingStands_of_frame hicd (by rw [hlb])).icingSlotOk h
  cases c with
  | enable j =>
    cases j with
    | shaft | gear | grid => exact hframe (by simp [ownerAnswer]) (by simp [ownerAnswer])
    | coinc => exact (icingStands_enableCoinc s).icingSlotOk h
    | icing => exact enableIcing_icingSlotOk h
    | maint => exact (icingStands_enableMaint s).icingSlotOk h
  | disable j =>
    cases j with
    | shaft => exact hframe (by simp [ownerAnswer]) (by simp [ownerAnswer])
    | gear => exact (icingStands_disableGear s).icingSlotOk h
    | grid => exact (icingStands_disableGrid s).icingSlotOk h
    | coinc => exact (icingStands_disableCoinc s).icingSlotOk h
    | icing => exact disableIcing_icingSlotOk h
    | maint =>
      change IcingSlotOk (disableMaint s).state
      unfold disableMaint; split
      · exact (icingStands_stopMaint s).icingSlotOk h
      · exact h
  | icingReport => exact icingReport_icingSlotOk h
  | icingRelease => exact icingRelease_icingSlotOk h
  | learnBaseline => exact (icingStands_learnBaseline s).icingSlotOk h
  | ackCap => exact (icingStands_ackCap _ s).icingSlotOk h
  | itemDone => exact (icingStands_itemDone _ s).icingSlotOk h
  | itemDefer => exact (icingStands_itemDefer _ s).icingSlotOk h
  | clearCoincidence | restartRequest | clockArm | counterRestore | journalAdvance | attnMask =>
    exact hframe (by simp [ownerAnswer]) (by simp [ownerAnswer])

theorem takeControl_icingSlotOk {p : PortId} {canonical : Word} {ok : Word → Bool} {arg : Word} {body : State → Reply} {s : State}
    (h : IcingSlotOk s) (hbody : IcingSlotOk (body s).state) : IcingSlotOk (takeControl p canonical ok arg body s) := by
  unfold takeControl; split
  · exact h
  · exact (icingStands_of_frame (by simp) (by simp)).icingSlotOk hbody

theorem giveCommand_icingSlotOk (p : PortId) (arg : Word) (c : Command) {s : State} (h : IcingSlotOk s) :
    IcingSlotOk (giveCommand c p arg (ownerAnswer p arg c) s) := by
  refine takeControl_icingSlotOk h ?_
  unfold permitted; split
  · exact ownerAnswer_icingSlotOk p arg c h
  · exact h

/-! ### A step -/

/-- Every command leaves slot ICING as the icing state says. -/
theorem exec_icingSlotOk {c : Instr} {s t : State} (h : IcingSlotOk s) (he : exec c s = .next t) : IcingSlotOk t := by
  have hdone : ∀ {t'}, IcingSlotOk t' → .next t' = exec c s → IcingSlotOk t := by
    intro t' ht' he'
    obtain rfl : t' = t := by rw [he] at he'; injection he'
    exact ht'
  have hafter : ∀ dt, IcingSlotOk (s.advance dt) := fun dt => (icingStands_of_frame rfl rfl).icingSlotOk h
  have hstands : ∀ {dt t'}, IcingStands (s.advance dt) t' → .next t' = exec c s → IcingSlotOk t := fun hp =>
    hdone (hp.icingSlotOk (hafter _))
  have htick : ∀ (b : Prop) [Decidable b] (order : TickOrder), IcingSlotOk (if b then phaseTick order s else s) := by
    intro b _ order
    split
    · exact phaseTick_icingSlotOk order h
    · exact h
  have hedge : ∀ l dt level, c = edgeOf l dt level → IcingSlotOk t := fun l dt level hc =>
    hstands (icingStands_onEdge l level (s.advance dt)) (by rw [hc, exec_edgeOf])
  cases hc : controlOf c with
  | some k => exact hdone (giveCommand_icingSlotOk _ _ _ (hafter k.dt)) (exec_control hc s).symm
  | none =>
    cases c with
    | encoderEdge dt line level =>
      cases line with
      | a => exact hedge .a dt level rfl
      | b => exact hedge .b dt level rfl
    | indexEdge dt level => exact hedge .z dt level rfl
    | toothEdge dt level => exact hedge .t dt level rfl
    | lsIndexEdge dt level => exact hedge .lsz dt level rfl
    | standstillTimerExpiry sd =>
      cases hd : (s.sau.side sd).standstill with
      | none => exact hdone h (by simp only [exec, execStandstillTimerExpiry, hd])
      | some d =>
        exact hstands (dt := d - s.now) (t' := standstillExpire sd (s.advanceTo d)) (icingStands_of_frame (by simp) (by simp))
          (by simp only [exec, execStandstillTimerExpiry, hd])
    | linkTimerExpiry =>
      cases hd : s.ocr.link.timer with
      | none => exact hdone h (by simp only [exec, execLinkTimerExpiry, hd])
      | some d =>
        exact hstands (dt := d - s.now) (t' := linkExpire (s.advanceTo d)) (icingStands_of_frame (by simp) (by simp))
          (by simp only [exec, execLinkTimerExpiry, hd])
    | lossTimerExpiry =>
      cases hd : s.ghm.loss with
      | none => exact hdone h (by simp only [exec, execLossTimerExpiry, hd])
      | some d =>
        exact hstands (icingStands_lossExpire (s.advance (d - s.now))) (by simp only [exec, execLossTimerExpiry, hd]; rfl)
    | strobe =>
      cases hx : s.ghm.gen with
      | none => exact hdone h (by simp only [exec, execStrobe, hx])
      | some x =>
        cases hd : x.due with
        | none => exact hdone h (by simp only [exec, execStrobe, hx, hd])
        | some d =>
          exact hstands (dt := d - s.now) (t' := (s.advanceTo d).setGhm ((s.advanceTo d).ghm.strobe (s.advanceTo d).now x))
            (icingStands_of_frame rfl rfl) (by simp only [exec, execStrobe, hx, hd])
    | clockSetDeadline =>
      cases ha : s.cc.armed with
      | none => exact hdone h (by simp only [exec, execClockSetDeadline, ha])
      | some a =>
        exact hstands (dt := a.deadline - s.now) (t' := abandonClock (s.advanceTo a.deadline))
          (icingStands_of_frame (by simp) (by simp)) (by simp only [exec, execClockSetDeadline, ha])
    | gzxEdge dt rising =>
      refine hstands (dt := dt) (t' := if rising ∧ (s.advance dt).jobs.grid then takeZeroCross (s.advance dt) else s.advance dt) ?_ rfl
      split
      · exact icingStands_takeZeroCross _
      · exact .refl _
    | gridFrame dt words =>
      refine hstands (dt := dt) (t' := if (s.advance dt).jobs.grid then takeGridFrame words (s.advance dt) else s.advance dt) ?_ rfl
      split
      · exact icingStands_of_frame (by simp) (by simp)
      · exact .refl _
    | ppsEdge dt rising order =>
      refine hdone (t' := _) ?_ rfl
      repeat' split
      · exact (icingStands_of_frame rfl rfl).icingSlotOk (hafter dt)
      · exact takePps_icingSlotOk order (hafter dt)
      · exact hafter dt
    | secondTick order => exact hdone (phaseTick_icingSlotOk order h) rfl
    | ackTimerExpiry order | thawTimerExpiry order | operatingRecordStale order | intervalClose order =>
      exact hdone (htick _ order) rfl
    | sampleSet dt | publishComplete dt | transactionStart dt | transactionHeader dt | headerWord dt | fillerWord dt
    | readDataWord dt | writeDataWord dt | commandWord dt | portReset dt | portResetRelease dt =>
      exact hstands (dt := dt) (icingStands_of_frame (by simp) (by simp)) rfl
    | recordWrite dt p => exact hdone (completeTransaction_icingSlotOk p (hafter dt)) rfl
    | operatingArrival dt | statusWrite dt | shaftConfigurationWrite dt | gridConfigurationWrite dt | watchConfigurationWrite dt
    | icingConfigurationWrite dt => exact hdone (writeWhole_icingSlotOk _ _ _ _ (hafter dt)) rfl
    | lineDefinitionWrite dt p n ws =>
      refine hdone (t' := if n < 24 then writeWhole p 3 n ws (s.advance dt) else s.advance dt) ?_ rfl
      split
      · exact writeWhole_icingSlotOk _ _ _ _ (hafter dt)
      · exact hafter dt
    | itemDefinitionWrite dt p n ws =>
      refine hdone (t' := if n < 32 then writeWhole p 13 n ws (s.advance dt) else s.advance dt) ?_ rfl
      split
      · exact writeWhole_icingSlotOk _ _ _ _ (hafter dt)
      · exact hafter dt
    | unknownCommand dt p command arg =>
      refine hdone (t' := takeUnknown p command arg (s.advance dt)) ?_ rfl
      unfold takeUnknown; split
      · exact takeControl_icingSlotOk (hafter dt) (hafter dt)
      · exact hafter dt
    | invalidJobCode dt p enable job arg =>
      refine hdone (t' := takeNoJob p enable job arg (s.advance dt)) ?_ rfl
      unfold takeNoJob; split
      · exact takeControl_icingSlotOk (hafter dt) (hafter dt)
      · exact hafter dt
    | partReset a b d => exact hdone (t' := partReset a b d s) ((icingStands_of_frame rfl rfl).icingSlotOk reset_icingSlotOk) rfl
    | _ => exact absurd hc (nofun)

/-- Settles O50: each command of the queue keeps slot ICING as the icing state says. -/
theorem icingSlotFollowsTheState : Obligations.IcingSlotFollowsTheState := by
  intro s t h hstep
  unfold step at hstep
  split at hstep
  · injection hstep with hstep
    exact hstep ▸ h
  next c rest _ =>
    exact exec_icingSlotOk ((icingStands_of_frame (t := { s with pending := rest }) rfl rfl).icingSlotOk h) hstep

end Sys2Proof.Machine

/-! PROOFS. The restart request (RestartRequestTestsTheCausesInOrder). -/

namespace Sys2Proof.Machine

theorem maintLock_iff (items : List Item) :
    maintLock items = true ↔ ∃ x ∈ items, ∃ y, x.part = some y ∧ y.state = .overdue ∧ x.inForce.lock = true := by
  unfold maintLock
  rw [List.any_eq_true]
  refine exists_congr fun x => and_congr_right fun _ => ?_
  unfold Item.overdue
  cases x.part <;> simp

/-! ### The order of the causes (R119) -/

theorem restartDenial_icing {s : State} (h : s.icd.state = .iced ∨ s.icd.state = .thaw) : restartDenial s = some .icing := if_pos h

theorem restartDenial_cap {s : State} (h : ¬(s.icd.state = .iced ∨ s.icd.state = .thaw)) (hc : s.lb.cap = 0) :
    restartDenial s = some .capZero := (if_neg h).trans (if_pos hc)

theorem restartDenial_line {s : State} (h : ¬(s.icd.state = .iced ∨ s.icd.state = .thaw)) (hc : s.lb.cap ≠ 0) (hl : s.lb.line = true) :
    restartDenial s = some .stopLine := (if_neg h).trans ((if_neg hc).trans (if_pos hl))

/-- Past the three other causes the overdue items decide. -/
theorem restartDenial_lock {s : State} (h : ¬(s.icd.state = .iced ∨ s.icd.state = .thaw)) (hc : s.lb.cap ≠ 0) (hl : s.lb.line = false) :
    restartDenial s = if maintLock s.ms.items then some .maintLock else none :=
  (if_neg h).trans ((if_neg hc).trans (if_neg (by simp [hl])))

theorem restartRequest_denies {s : State} {r : Reason} (h : restartDenial s = some r) : restartRequest s = deny r s := by
  unfold restartRequest
  rw [h]

theorem restartRequest_grants {s : State} (h : restartDenial s = none) : restartRequest s = grant s := by
  unfold restartRequest
  rw [h]

/-- Settles O23: the request reaches its owner, which answers with the first cause. -/
theorem restartRequestTestsTheCausesInOrder : Obligations.RestartRequestTestsTheCausesInOrder := by
  intro dt p arg raw s u icing lock answers hr hd
  have hexec : exec (.restartRequest dt p arg) s = .next (writeResult p raw arg (restartRequest u)) :=
    exec_delivered (i := .restartRequest dt p arg) (k := ⟨dt, p, .restartRequest, arg⟩) rfl hd (List.mem_singleton.2 hr)
  have hdenied : ∀ {r}, restartDenial u = some r → answers .denied r := fun h => by
    rw [restartRequest_denies h] at hexec
    exact hexec
  refine ⟨fun h => hdenied (restartDenial_icing h), fun h hc => hdenied (restartDenial_cap h hc),
    fun h hc hl => hdenied (restartDenial_line h hc hl), fun h hc hl hlock => hdenied ?_, fun h hc hl hlock => ?_⟩
  · rw [restartDenial_lock h hc hl, if_pos ((maintLock_iff _).2 hlock)]
  · have hnone : restartDenial u = none := by rw [restartDenial_lock h hc hl, if_neg (mt (maintLock_iff _).1 hlock)]
    rw [restartRequest_grants hnone] at hexec
    exact hexec

end Sys2Proof.Machine

/-! PROOFS. A change of the icing state, and the commands of the Icing Detector (IcingCommands). -/

namespace Sys2Proof.Machine

/-! ### Slot ICING after one change (R112, R121, R122) -/

/-- A board that has taken one change of slot ICING. -/
theorem icingSlot_elsewhere {s t : State} {act : SlotAct} (h : t.lb = (boardChange [⟨0, act⟩] s).lb) : SlotsElsewhere [0] s t := by
  intro k hk
  rw [h]
  exact boardChange_other _ s k (by simpa [eq_comm] using hk)

theorem icingSlot_withdrawn {s t : State} (h : t.lb = (boardChange [⟨0, .withdraw⟩] s).lb) : (tget t.lb.slots 0).active = false := by
  rw [h]
  exact boardChange_withdrawn 0 s

theorem icingSlot_posted {s t : State} {cap : Nat} {code : SlotCode} (h : t.lb = (boardChange [⟨0, .post cap code⟩] s).lb)
    (hs : s.lb.slots ≠ []) : Posted (tget t.lb.slots 0) cap code := by
  rw [h]
  exact boardChange_posts (List.length_pos_of_ne_nil hs) (by simp)

/-- The effective cap a board holds after a posting is at most the posted cap (R122). -/
theorem boardChange_cap_le {s : State} {k cap : Nat} {code : SlotCode} (hk : k < s.lb.slots.length) :
    (boardChange [⟨k, .post cap code⟩] s).lb.cap ≤ cap := by
  obtain ⟨hactive, hcap, -⟩ := boardChange_posts (cs := [⟨k, .post cap code⟩]) (code := code) (cap := cap) hk (by simp)
  have hmem := tget_mem (boardChange [⟨k, .post cap code⟩] s).lb.slots k (by simpa using hk)
  have hle := effectiveCap_le hmem hactive
  rw [hcap] at hle
  refine le_trans (le_of_eq ?_) hle
  rw [boardChange_lb, if_neg (by simp [SlotChange.effective])]
  rfl

/-! ### A change of state (R112) -/

theorem icingChange_icd (st : IcingState) (value : Int) (f : Icd → Icd) (s : State) :
    (icingChange st value f s).icd = f (s.icd.enter st) := by simp [icingChange]

theorem icingChange_lb (st : IcingState) (value : Int) (f : Icd → Icd) (s : State) :
    (icingChange st value f s).lb = (boardChange [icingPosting s.icd.config st] s).lb :=
  boardChange_lb_congr (s := s) (t := (s.setIcd (f (s.icd.enter st))).journal _) _ (by simp) (by simp)

/-- An entry, and then at most the BOARD entry of what is handed to the board. -/
theorem logs_journal_boardChange (b : EntryBody) (cs : List SlotChange) (s : State) :
    ∃ rest, rest.length ≤ 1 ∧ Logs (b :: rest) s (boardChange cs (s.journal b)) := by
  obtain ⟨rest, hrest, hlogs⟩ := (announces_boardChange cs (s.journal b)).logs
  exact ⟨rest, hrest, (logs_journal b s).trans hlogs⟩

theorem logs_icingChange (st : IcingState) (value : Int) (f : Icd → Icd) (s : State) :
    ∃ rest, rest.length ≤ 1 ∧ Logs (icingEntry s.icd.state st value :: rest) s (icingChange st value f s) := by
  obtain ⟨rest, hrest, hlogs⟩ := logs_journal_boardChange (icingEntry s.icd.state st value) [icingPosting s.icd.config st]
    (s.setIcd (f (s.icd.enter st)))
  exact ⟨rest, hrest, (Logs.congr_left (s' := s) hlogs rfl rfl).congr rfl rfl⟩

/-- The ICING entry of an event that makes it first. -/
theorem Logs.icingEntry_mem {s t : State} {a b : IcingState} {value : Int} {rest : List EntryBody} (hr : rest.length ≤ 1)
    (h : Logs (icingEntry a b value :: rest) s t) :
    ∃ e ∈ t.ej.ring, e.seq = s.ej.next ∧ e.source = .icd ∧ e.kind = .icing ∧ e.fromState = some a.code ∧ e.toState = some b.code ∧
      e.value = journalValue value :=
  ⟨_, Logs.mem (first := []) h (by omega), rfl, rfl, rfl, rfl, rfl, rfl⟩

/-! ### ENABLE ICING and DISABLE ICING (R114, R115) -/

/-- The effects of an accepted ENABLE ICING or DISABLE ICING: the detector `x`, the jobs `j`, the entry and the withdrawal. -/
def icingRestarted (x : Icd) (j : Jobs) (st : IcingState) (s : State) : State :=
  startPublish 8 [1] s (boardChange [⟨0, .withdraw⟩] (((s.setIcd x).setJobs j).journal (icingEntry s.icd.state st 0)))

theorem enableIcing_accepts {s : State} (h : s.jobs.icing = false) (hc : ∃ n ∈ s.icd.curve, n ≠ 0) :
    enableIcing s = accept (icingRestarted (s.icd.enter .clear).start { s.jobs with icing := true } .clear s) := by
  unfold enableIcing
  rw [if_neg (by simp [h]), if_neg (by simpa using hc)]
  rfl

theorem disableIcing_accepts {s : State} (h : s.jobs.icing = true) :
    disableIcing s = accept (icingRestarted (s.icd.enter .off).reopen { s.jobs with icing := false } .off s) := if_pos h

@[simp] theorem icingRestarted_frame (x : Icd) (j : Jobs) (st : IcingState) (s : State) :
    (icingRestarted x j st s).now = s.now ∧ (icingRestarted x j st s).jobs = j ∧ (icingRestarted x j st s).sau = s.sau ∧
      (icingRestarted x j st s).ocr = s.ocr ∧ (icingRestarted x j st s).gcm = s.gcm ∧ (icingRestarted x j st s).ghm = s.ghm ∧
      (icingRestarted x j st s).cw = s.cw ∧ (icingRestarted x j st s).icd = x ∧ (icingRestarted x j st s).cc = s.cc ∧
      (icingRestarted x j st s).ms = s.ms ∧ (icingRestarted x j st s).pi = s.pi ∧
      (icingRestarted x j st s).pending = s.pending := by
  simp [icingRestarted]

theorem icingRestarted_lb (x : Icd) (j : Jobs) (st : IcingState) (s : State) :
    (icingRestarted x j st s).lb = (boardChange [⟨0, .withdraw⟩] s).lb :=
  boardChange_lb_congr (s := s) (t := ((s.setIcd x).setJobs j).journal _) _ (by simp) (by simp)

theorem logs_icingRestarted (x : Icd) (j : Jobs) (st : IcingState) (s : State) :
    ∃ rest, rest.length ≤ 1 ∧ Logs (icingEntry s.icd.state st 0 :: rest) s (icingRestarted x j st s) := by
  obtain ⟨rest, hrest, hlogs⟩ := logs_journal_boardChange (icingEntry s.icd.state st 0) [⟨0, .withdraw⟩] ((s.setIcd x).setJobs j)
  exact ⟨rest, hrest, (Logs.congr_left (s' := s) hlogs rfl rfl).congr rfl rfl⟩

/-! ### ICING REPORT and ICING RELEASE (R116, R117) -/

theorem icingReport_cases (s : State) :
    (s.icd.state = .off → icingReport s = refuse .wrongState s) ∧ (s.icd.state = .iced → icingReport s = accept s) ∧
      (s.icd.state ≠ .off → s.icd.state ≠ .iced → icingReport s = accept (icingChange .iced 0 id s)) := by
  unfold icingReport
  cases s.icd.state <;> simp

theorem ShaftSide.atRest_iff (x : ShaftSide) : x.atRest = true ↔ x.state = .standstill ∨ x.state = .off := by
  simp [ShaftSide.atRest]

theorem icingRelease_cases (s : State) :
    (s.icd.state ≠ .iced → s.icd.state ≠ .thaw → icingRelease s = refuse .wrongState s) ∧
      ((s.icd.state = .iced ∨ s.icd.state = .thaw) →
        ¬((s.sau.hs.state = .standstill ∨ s.sau.hs.state = .off) ∧ (s.sau.ls.state = .standstill ∨ s.sau.ls.state = .off)) →
        icingRelease s = refuse .notStandstill s) ∧
      ((s.icd.state = .iced ∨ s.icd.state = .thaw) → (s.sau.hs.state = .standstill ∨ s.sau.hs.state = .off) →
        (s.sau.ls.state = .standstill ∨ s.sau.ls.state = .off) → icingRelease s = accept (icingChange .clear 0 id s)) := by
  unfold icingRelease
  simp only [ShaftSide.atRest_iff]
  refine ⟨fun h h' => if_pos ⟨h, h'⟩, fun h hr => ?_, fun h hh hl => ?_⟩
  · rw [if_neg (by tauto), if_neg hr]
  · rw [if_neg (by tauto), if_pos ⟨hh, hl⟩]

/-! ### LEARN BASELINE (R118) -/

/-- The effects of an accepted LEARN BASELINE that reads baseline `b` from line `n`. -/
def baselineLearnt (n b : Nat) (s : State) : State :=
  startPublish 8 [1] s ((s.setIcd { s.icd with base := b }).journal { source := .icd, inst := some n, kind := .baseline, value := b })

theorem learnBaseline_noLine {s : State} (h : s.icd.config.line = none) : learnBaseline s = refuse .wrongState s := by
  simp [learnBaseline, baselineSource, h]

theorem learnBaseline_line {s : State} {n : Nat} (h : s.icd.config.line = some n) :
    learnBaseline s =
      if (s.icd.state = .clear ∨ s.icd.state = .watch) ∧ (tget s.gcm.conds n).level ≠ .unrated ∧ (tget s.gcm.conds n).stale = false then
        accept (baselineLearnt n ((tget s.gcm.conds n).e / 256) s)
      else refuse .wrongState s := by
  unfold learnBaseline baselineSource
  rw [h]
  by_cases hmay : (s.icd.state = .clear ∨ s.icd.state = .watch) ∧ (tget s.gcm.conds n).level ≠ .unrated ∧
      (tget s.gcm.conds n).stale = false
  · rw [if_pos hmay]
    simp only [if_pos hmay]
    rfl
  · rw [if_neg hmay]
    simp only [if_neg hmay]

theorem logs_baselineLearnt (n b : Nat) (s : State) :
    Logs [{ source := .icd, inst := some n, kind := .baseline, value := b }] s (baselineLearnt n b s) :=
  (Logs.congr_left (s' := s) (logs_journal { source := .icd, inst := some n, kind := .baseline, value := b }
    (s.setIcd { s.icd with base := b })) rfl rfl).congr rfl rfl

theorem baselineLearnt_icd (n b : Nat) (s : State) : (baselineLearnt n b s).icd = { s.icd with base := b } := by simp [baselineLearnt]

/-! ### The five commands -/

/-- Settles O22: each command reaches its owner, whose effects are said above. -/
theorem icingCommands : Obligations.IcingCommands := by
  intro dt p arg raw s u x enter fresh atRest journalled
  refine ⟨fun hr hd h hc => ?_, fun hr hd h => ?_, fun hr hd => ?_, fun hr hd => ?_, fun hr hd => ?_⟩
  · have hexec := exec_delivered (i := .enableIcing dt p arg) (k := ⟨dt, p, .enable .icing, arg⟩) rfl hd hr
    dsimp only [ownerAnswer] at hexec
    rw [enableIcing_accepts h hc] at hexec
    have hlb := icingRestarted_lb (u.icd.enter .clear).start { u.jobs with icing := true } .clear u
    obtain ⟨rest, hrest, hlogs⟩ := logs_icingRestarted (u.icd.enter .clear).start { u.jobs with icing := true } .clear u
    exact ⟨_, hexec, by simp [onlyTouches_iff], by simp, by simp; rfl, icingSlot_withdrawn hlb, icingSlot_elsewhere hlb, hlb,
      (hlogs.congr rfl rfl).icingEntry_mem hrest, State.answered_pi_congr (by simp)⟩
  · have hexec := exec_delivered (i := .disableIcing dt p arg) (k := ⟨dt, p, .disable .icing, arg⟩) rfl hd hr
    dsimp only [ownerAnswer] at hexec
    rw [disableIcing_accepts h] at hexec
    have hlb := icingRestarted_lb (u.icd.enter .off).reopen { u.jobs with icing := false } .off u
    obtain ⟨rest, hrest, hlogs⟩ := logs_icingRestarted (u.icd.enter .off).reopen { u.jobs with icing := false } .off u
    exact ⟨_, hexec, by simp [onlyTouches_iff], by simp, by simp; rfl, icingSlot_withdrawn hlb, icingSlot_elsewhere hlb, hlb,
      (hlogs.congr rfl rfl).icingEntry_mem hrest, State.answered_pi_congr (by simp)⟩
  · have hexec := exec_delivered (i := .icingReport dt p arg) (k := ⟨dt, p, .icingReport, arg⟩) rfl hd (List.mem_singleton.2 hr)
    dsimp only [ownerAnswer] at hexec
    obtain ⟨hoff, hiced, hchange⟩ := icingReport_cases u
    refine ⟨fun h => by rw [hoff h] at hexec; exact hexec, fun h => by rw [hiced h] at hexec; exact hexec, fun h h' hs => ?_⟩
    rw [hchange h h'] at hexec
    have hlb := icingChange_lb .iced 0 id u
    obtain ⟨rest, hrest, hlogs⟩ := logs_icingChange .iced 0 id u
    refine ⟨_, hexec, by simp [onlyTouches_iff], (icingChange_icd _ _ _ _).trans rfl, icingSlot_posted hlb hs, ?_, icingSlot_elsewhere hlb, hlb,
      (hlogs.congr rfl rfl).icingEntry_mem hrest, State.answered_pi_congr (by simp)⟩
    have hcap : (boardChange [⟨0, .post 0 .iced⟩] u).lb.cap ≤ 0 := boardChange_cap_le (List.length_pos_of_ne_nil hs)
    exact (congrArg Lb.cap hlb).trans (Nat.le_zero.1 hcap)
  · have hexec := exec_delivered (i := .icingRelease dt p arg) (k := ⟨dt, p, .icingRelease, arg⟩) rfl hd (List.mem_singleton.2 hr)
    dsimp only [ownerAnswer] at hexec
    obtain ⟨hwrong, hmoving, hchange⟩ := icingRelease_cases u
    refine ⟨fun h h' => by rw [hwrong h h'] at hexec; exact hexec, fun h hm => by rw [hmoving h hm] at hexec; exact hexec,
      fun h hh hl => ?_⟩
    rw [hchange h hh hl] at hexec
    have hlb := icingChange_lb .clear 0 id u
    obtain ⟨rest, hrest, hlogs⟩ := logs_icingChange .clear 0 id u
    exact ⟨_, hexec, by simp [onlyTouches_iff], (icingChange_icd _ _ _ _).trans rfl, icingSlot_withdrawn hlb, icingSlot_elsewhere hlb, hlb,
      (hlogs.congr rfl rfl).icingEntry_mem hrest, State.answered_pi_congr (by simp)⟩
  · have hexec := exec_delivered (i := .learnBaseline dt p arg) (k := ⟨dt, p, .learnBaseline, arg⟩) rfl hd (List.mem_singleton.2 hr)
    dsimp only [ownerAnswer] at hexec
    refine ⟨fun h => by rw [learnBaseline_noLine h] at hexec; exact hexec, fun n hline => ?_⟩
    rw [learnBaseline_line hline] at hexec
    refine ⟨fun hmay => by rw [if_neg hmay] at hexec; exact hexec, fun hmay => ?_⟩
    rw [if_pos hmay] at hexec
    have hentry := Logs.mem (first := []) ((logs_baselineLearnt n ((tget u.gcm.conds n).e / 256) u).congr
      (t' := (baselineLearnt n ((tget u.gcm.conds n).e / 256) u).answered p raw arg .accepted .none) rfl rfl) (by simp)
    exact ⟨_, hexec, by simp [onlyTouches_iff, baselineLearnt], baselineLearnt_icd _ _ u, ⟨_, hentry, rfl, rfl, rfl, rfl⟩,
      State.answered_pi_congr (by simp [baselineLearnt])⟩

end Sys2Proof.Machine

/-! PROOFS. An operating arrival (OperatingArrivalStoresTheRecord). -/

namespace Sys2Proof.Machine

/-! ### The record (R98) -/

theorem OpRecord.write_whole {ws : List Word} (hl : ws.length = 7) (x : OpRecord) :
    x.write (whole ws) =
      ⟨(wordAt ws 0).toNat, (TurbineState.ofCode (wordAt ws 1).toNat).getD x.turbine, min 600 (wordAt ws 2).toNat,
        min 30000 (wordAt ws 3).toNat, max (-1500) (min 1500 (wordAt ws 4).toInt), max (-600) (min 600 (wordAt ws 5).toInt),
        min 100 (wordAt ws 6).toNat⟩ := by
  have himage : (opImage x).length = 7 := rfl
  unfold OpRecord.write
  simp (disch := omega) only [field_whole, numAt_overlay_whole, intAt_overlay_whole]
  rfl

theorem TurbineState.ofCode_eq_none_iff (n : Nat) : TurbineState.ofCode n = none ↔ 5 ≤ n := by
  match n with
  | 0 | 1 | 2 | 3 | 4 => simp [TurbineState.ofCode]
  | n + 5 => simp [TurbineState.ofCode]

/-- A valid code names the state it is read as; an invalid one names none (R98). -/
theorem TurbineState.ofCode_getD (n : Nat) (old : TurbineState) :
    (n < 5 → ((TurbineState.ofCode n).getD old).code = n) ∧ (¬n < 5 → (TurbineState.ofCode n).getD old = old) := by
  refine ⟨fun h => ?_, fun h => ?_⟩
  · match n with
    | 0 | 1 | 2 | 3 | 4 => rfl
  · rw [(TurbineState.ofCode_eq_none_iff n).2 (by omega)]
    rfl

theorem OpRecord.bad_whole {ws : List Word} (hl : ws.length = 7) (x : OpRecord) :
    x.bad (whole ws) = decide (¬(wordAt ws 1).toNat < 5) := by
  have himage : (opImage x).length = 7 := rfl
  unfold OpRecord.bad badEnum
  rw [wrote_whole (by omega), numAt_overlay_whole (by omega) (by omega), Bool.true_and, Bool.eq_iff_iff, Option.isNone_iff_eq_none,
    TurbineState.ofCode_eq_none_iff, decide_eq_true_iff, Nat.not_lt]

/-! ### The arrival (R99, R100, R103) -/

theorem operatingArrived_icd (s : State) : (operatingArrived s).icd = s.icd.arrive s.jobs.icing := by
  unfold operatingArrived; dsimp only; split <;> simp

theorem operatingArrived_fresh {s : State} (h : s.icd.fresh ≠ .stale) : operatingArrived s = s.setIcd (s.icd.arrive s.jobs.icing) := if_neg h

theorem operatingArrived_stale {s : State} (h : s.icd.fresh = .stale) :
    operatingArrived s = (s.setIcd (s.icd.arrive s.jobs.icing)).journal (operatingEntry .stale .fresh s.icd.op.sequence) := if_pos h

theorem operatingArrived_hasFlag {s : State} {p : PortId} {f : Flag} (h : (s.rep.get p).hasFlag f = true) :
    ((operatingArrived s).rep.get p).hasFlag f = true := by
  unfold operatingArrived; dsimp only; split
  · simpa using h
  · exact h

/-- An arrival adds to the open interval while ICING is enabled and the interval can count it (R103). -/
theorem Icd.arrive_counted {enabled : Bool} {c : Icd} (h : enabled = true ∧ c.arrivals < 65535) :
    c.arrive enabled = { c with
      age := 0
      fresh := .fresh
      arrivals := c.arrivals + 1
      sumWind := c.sumWind + c.op.wind
      sumPower := c.sumPower + c.op.power
      sumTemp := c.sumTemp + c.op.temp
      sumHum := c.sumHum + c.op.humidity
      lastState := c.op.turbine
      lastSeq := c.op.sequence } := by
  simp [Icd.arrive, Icd.sum, h.1, h.2]

theorem Icd.arrive_uncounted {enabled : Bool} {c : Icd} (h : ¬(enabled = true ∧ c.arrivals < 65535)) :
    c.arrive enabled = { c with age := 0, fresh := .fresh } := by
  cases enabled with
  | false => rfl
  | true => simp [Icd.arrive, Icd.sum, show ¬c.arrivals < 65535 from fun hc => h ⟨rfl, hc⟩]

theorem journalValue_word (w : Word) : journalValue w.toNat = w.toNat := by
  rw [journalValue_natCast]
  have := w.isLt
  omega

/-- Settles O40: the whole write reaches `writeOperating`, whose record and arrival are said above. -/
theorem operatingArrivalStoresTheRecord : Obligations.OperatingArrivalStoresTheRecord := by
  intro dt p sequence state wind power torque temp humidity s u x valid op y summed hrole hready
  obtain ⟨ws, hws⟩ : ∃ ws, [sequence, state, wind, power, torque, temp, humidity] = ws := ⟨_, rfl⟩
  have hl : ws.length = 7 := by rw [← hws]; rfl
  have hop : x.op.write (whole ws) = op := by
    rw [OpRecord.write_whole hl, ← hws]
    rfl
  obtain ⟨v, hv⟩ : ∃ v, (u.setIcd { x with op := op }).raiseIf (decide ¬valid) .badValue = v := ⟨_, rfl⟩
  have hvicd : v.icd = { x with op := op } := by rw [← hv]; simp
  have hwritten : writeOperating (whole ws) u = operatingArrived v := by
    have hbad : x.op.bad (whole ws) = decide ¬valid := by rw [OpRecord.bad_whole hl, ← hws]; rfl
    rw [← hv, ← hop, ← hbad]
    rfl
  have hexec : exec (.operatingArrival dt p (whole ws)) s = .next (operatingArrived v) := by
    have hm : mayWrite (s.pi.get p).role p 8 0 = true := by rw [hrole]; rfl
    refine congrArg Host.Outcome.next ((writeWhole_whole (s := u) hready (by decide) hl (by rintro rfl; cases hl) hm).trans ?_)
    change boardChange (writePostings u (writeOperating _ _)) (writeOperating _ _) = _
    rw [hwritten]
    refine boardChange_sameCaps ?_ ?_ ?_ ?_
    · simp [← hv]
    · simp [← hv]
    · simp [← hv]
    · rw [operatingArrived_icd, (Icd.arrive_machine _ _).2, hvicd]
  have hturbine := TurbineState.ofCode_getD state.toNat x.op.turbine
  refine ⟨operatingArrived v, hws ▸ hexec, ?_, ?_, fun hfresh => ?_, hturbine.1, fun hbad => ⟨hturbine.2 hbad, fun q => ?_⟩,
    fun hvalid hfresh => ?_, fun hstale => ?_⟩
  · simp [onlyTouches_iff, ← hv]
  · have hjobs : v.jobs = u.jobs := by simp [← hv]
    rw [operatingArrived_icd, hvicd, hjobs]
    by_cases hcounted : u.jobs.icing = true ∧ x.arrivals < 65535
    · exact (Icd.arrive_counted (c := { x with op := op }) hcounted).trans (if_pos hcounted).symm
    · exact (Icd.arrive_uncounted (c := { x with op := op }) hcounted).trans (if_neg hcounted).symm
  · rw [operatingArrived_fresh (by rw [hvicd]; exact hfresh), ← hv]
    simp
  · refine operatingArrived_hasFlag ?_
    rw [← hv, State.raiseIf, if_pos (by simpa using hbad)]
    exact State.raise_self _ _ _
  · rw [operatingArrived_fresh (by rw [hvicd]; exact hfresh), ← hv, State.raiseIf, if_neg (by simpa using hvalid)]
    rfl
  · have hentry := State.journal_mem_self (v.setIcd (v.icd.arrive v.jobs.icing)) (operatingEntry .stale .fresh v.icd.op.sequence)
    rw [← operatingArrived_stale (by rw [hvicd]; exact hstale)] at hentry
    refine ⟨_, hentry, ?_, rfl, rfl, rfl, rfl, ?_⟩
    · simp [State.entryOf, ← hv]
    · rw [hvicd]
      exact journalValue_word sequence

end Sys2Proof.Machine

/-! PROOFS. A second tick and its three takers: what each leaves for the others, and what it leaves of the board (R104, R128, R137, R155, R157). -/

namespace Sys2Proof.Machine

/-! ### The tick begins (R137, R141, R147) -/

/-- A second taken from the phase. -/
def secondTaken (s : State) : State := s.setCc { s.cc with phase := s.cc.phase - second }

@[simp] theorem secondTaken_frame (s : State) :
    (secondTaken s).now = s.now ∧ (secondTaken s).jobs = s.jobs ∧ (secondTaken s).sau = s.sau ∧ (secondTaken s).ocr = s.ocr ∧
      (secondTaken s).gcm = s.gcm ∧ (secondTaken s).ghm = s.ghm ∧ (secondTaken s).cw = s.cw ∧ (secondTaken s).icd = s.icd ∧
      (secondTaken s).lb = s.lb ∧ (secondTaken s).ms = s.ms ∧ (secondTaken s).ej = s.ej ∧ (secondTaken s).rep = s.rep ∧
      (secondTaken s).pi = s.pi ∧ (secondTaken s).pub = s.pub ∧ (secondTaken s).pending = s.pending := by
  obtain ⟨c, hc⟩ : ∃ c, secondTaken s = s.setCc c := ⟨_, rfl⟩
  rw [hc]
  simp

theorem secondTaken_cc (s : State) : (secondTaken s).cc = { s.cc with phase := s.cc.phase - 40000000 } := rfl

/-- The state whose takers are handed the tick: a second is taken from the phase, the calendar is advanced, the operating second counted. -/
def tickBegun (s : State) : State := countSecond (calendarTick (secondTaken s))

theorem phaseTick_eq (order : TickOrder) (s : State) :
    phaseTick order s = handTick order (tickBegun (s.advance (second - s.cc.phase))) := rfl

@[simp] theorem tickBegun_frame (s : State) :
    (tickBegun s).now = s.now ∧ (tickBegun s).jobs = s.jobs ∧ (tickBegun s).sau = s.sau ∧ (tickBegun s).ocr = s.ocr ∧
      (tickBegun s).gcm = s.gcm ∧ (tickBegun s).ghm = s.ghm ∧ (tickBegun s).cw = s.cw ∧ (tickBegun s).icd = s.icd ∧
      (tickBegun s).lb = s.lb ∧ (tickBegun s).ms = s.ms ∧ (tickBegun s).pi = s.pi ∧ (tickBegun s).pub = s.pub ∧
      (tickBegun s).pending = s.pending := by
  simp [tickBegun]

/-- The calendar at a tick in the words of R141. -/
theorem calendarTick_cc (s : State) :
    (calendarTick s).cc = { s.cc with
      time := if s.cc.time ≥ 3155759999 then s.cc.time else s.cc.time + 1
      limit := if s.cc.time ≥ 3155759999 then true else s.cc.limit } := by
  unfold calendarTick lastSecond
  by_cases hlast : s.cc.time ≥ 3155759999
  · rw [if_neg (Nat.not_lt.2 hlast), if_pos hlast, if_pos hlast]
    split
    next hlimit => rw [← hlimit]
    next => simp
  · rw [if_pos (Nat.lt_of_not_le hlast), if_neg hlast, if_neg hlast]
    rfl

theorem countSecond_cc (s : State) :
    (countSecond s).cc = { s.cc with
      seconds := if s.cc.config.vRunHs ≤ s.sau.hs.speed ∨ s.cc.config.vRunLs ≤ s.sau.ls.speed then min 4294967295 (s.cc.seconds + 1)
        else s.cc.seconds } := by
  have hrun : running s = true ↔ s.cc.config.vRunHs ≤ s.sau.hs.speed ∨ s.cc.config.vRunLs ≤ s.sau.ls.speed := by simp [running]
  unfold countSecond
  by_cases h : running s = true
  · rw [if_pos h, if_pos (hrun.1 h)]
    rfl
  · rw [if_neg h, if_neg (mt hrun.2 h)]

theorem tickBegun_cc (s : State) :
    (tickBegun s).cc = { s.cc with
      phase := s.cc.phase - 40000000
      time := if s.cc.time ≥ 3155759999 then s.cc.time else s.cc.time + 1
      limit := if s.cc.time ≥ 3155759999 then true else s.cc.limit
      seconds := if s.cc.config.vRunHs ≤ s.sau.hs.speed ∨ s.cc.config.vRunLs ≤ s.sau.ls.speed then min 4294967295 (s.cc.seconds + 1)
        else s.cc.seconds } := by
  unfold tickBegun
  rw [countSecond_cc, calendarTick_cc, secondTaken_cc]
  simp

/-- The calendar sets LIMIT once, with its flag (R141). -/
theorem tickBegun_limit {s : State} (hlast : s.cc.time ≥ 3155759999) (hlimit : s.cc.limit = false) :
    FlagInEveryCopy .calLimit (tickBegun s) := by
  intro p
  unfold tickBegun calendarTick lastSecond
  rw [secondTaken_cc, if_neg (Nat.not_lt.2 hlast), if_neg (by simp [hlimit])]
  simp

/-- What the calendar journals is timed as the tick leaves the calendar. -/
theorem logged_tickBegun (s : State) : Logged (s.setCc (tickBegun s).cc) (tickBegun s) := by
  obtain ⟨u, hu⟩ : ∃ u, secondTaken s = u := ⟨_, rfl⟩
  have hej : ∃ bs, (calendarTick u).ej = ((s.setCc (tickBegun s).cc).journalAll bs).ej := by
    have hcc : (tickBegun s).cc.time = (calendarTick u).cc.time ∧ (tickBegun s).cc.isSet = (calendarTick u).cc.isSet := by
      unfold tickBegun
      rw [hu, countSecond_cc]
      exact ⟨rfl, rfl⟩
    have hsej : s.ej = u.ej := by rw [← hu]; simp
    unfold calendarTick at hcc ⊢
    split at hcc
    next hlast => exact ⟨[], by rw [if_pos hlast]; exact hsej.symm⟩
    next hlast =>
      rw [if_neg hlast]
      split at hcc
      next hlimit => exact ⟨[], by rw [if_pos hlimit]; exact hsej.symm⟩
      next hlimit =>
        rw [if_neg hlimit]
        refine ⟨[_], State.journal_ej_congr _ hsej.symm ?_ ?_⟩
        · simpa using hcc.1.symm
        · simpa using hcc.2.symm
  obtain ⟨bs, hbs⟩ := hej
  refine ⟨bs, rfl, rfl, ?_⟩
  rw [← hbs, ← hu]
  simp [tickBegun]

/-! ### The board takes its tick (R128) -/

theorem boardTick_stopped {s : State} (h : s.lb.timer = none) : boardTick s = s := by
  unfold boardTick
  rw [h]

theorem boardTick_running {s : State} {n : Nat} (h : s.lb.timer = some n) (hn : 2 ≤ n) :
    boardTick s = s.setLb { s.lb with timer := some (n - 1) } := by
  unfold boardTick
  rw [h]
  exact if_neg (by omega)

theorem boardTick_slots (s : State) : (boardTick s).lb.slots = s.lb.slots := by
  unfold boardTick ackExpire; repeat' split
  all_goals simp

theorem reported_ackExpire (s : State) : Reported s (ackExpire s) := by
  have hset : ∀ x, Reported s (s.setLb x) := fun x => reported_of_eq rfl rfl rfl rfl
  exact (((hset _).trans (reported_raise _ _)).trans (reported_journalAll [_] _)).trans (reported_of_eq rfl rfl rfl rfl)

theorem reported_boardTick (s : State) : Reported s (boardTick s) := by
  unfold boardTick; repeat' split
  · exact .refl s
  · exact reported_ackExpire s
  · exact reported_of_eq rfl rfl rfl rfl

/-! ### The schedule takes its tick (R155 to R157, R161) -/

/-- The state in which the schedule has taken its definitions and judged its items, before slot MAINT is recomputed. -/
def scheduleJudged (s : State) : State := evaluateItems (overItems Item.take (takeSample s))

@[simp] theorem scheduleJudged_frame (s : State) :
    (scheduleJudged s).jobs = s.jobs ∧ (scheduleJudged s).lb = s.lb ∧ (scheduleJudged s).cc = s.cc ∧
      (scheduleJudged s).ms.posted = s.ms.posted := by
  simp [scheduleJudged]

theorem scheduleTick_parts (s : State) :
    (scheduleTick s).lb = (recomputeMaint (scheduleJudged s)).lb ∧ (scheduleTick s).ms = (recomputeMaint (scheduleJudged s)).ms :=
  scheduleEvent_parts _ s

theorem reported_overItems (f : Nat → Item → Item × List EntryBody) (s : State) : Reported s (overItems f s) :=
  (reported_setMs _ s).trans (reported_journalAll _ _)

theorem reported_scheduleJudged (s : State) : Reported s (scheduleJudged s) := by
  have htaken : Reported s (overItems Item.take (takeSample s)) := (reported_setMs _ s).trans (reported_overItems _ _)
  unfold scheduleJudged evaluateItems; split
  · exact htaken.trans (reported_overItems _ _)
  · exact htaken

/-- After the judgement the tick recomputes slot MAINT and publishes. -/
theorem reported_scheduleTick_judged (s : State) : Reported (scheduleJudged s) (scheduleTick s) := by
  have hposted := reported_recomputeMaint (scheduleJudged s)
  unfold scheduleTick scheduleEvent; dsimp only; split
  · exact hposted
  · exact hposted.trans (reported_of_eq rfl rfl rfl rfl)

theorem reported_scheduleTick (s : State) : Reported s (scheduleTick s) :=
  (reported_scheduleJudged s).trans (reported_scheduleTick_judged s)

/-! ### The Icing Detector takes its tick (R100, R104) -/

theorem reported_setIcd (x : Icd) (s : State) : Reported s (s.setIcd x) := reported_of_eq rfl rfl rfl rfl

theorem reported_icingChange (st : IcingState) (value : Int) (f : Icd → Icd) (s : State) : Reported s (icingChange st value f s) :=
  (((reported_setIcd _ s).trans (reported_journalAll [icingEntry s.icd.state st value] _)).trans (reported_boardChange _ _)).trans
    (reported_of_eq rfl rfl rfl rfl)

theorem reported_freshnessTick (s : State) : Reported s (freshnessTick s) := by
  unfold freshnessTick; dsimp only; split
  · exact ((reported_setIcd _ s).trans (reported_raise _ _)).trans (reported_journalAll [_] _)
  · exact reported_setIcd _ s

theorem reported_closeInterval (s : State) : Reported s (closeInterval s) := by
  unfold closeInterval; dsimp only; split
  · exact reported_of_eq rfl rfl rfl rfl
  · exact reported_icingChange _ _ _ s

theorem reported_intervalTick (s : State) : Reported s (intervalTick s) := by
  unfold intervalTick; repeat' split
  · exact reported_closeInterval s
  · exact reported_setIcd _ s
  · exact .refl s

theorem reported_thawTick (before : Option Nat) (s : State) : Reported s (thawTick before s) := by
  unfold thawTick thawExpire; repeat' split
  · exact reported_icingChange _ _ _ s
  · exact reported_setIcd _ s
  · exact reported_setIcd _ s
  · exact .refl s

theorem reported_icingTick (s : State) : Reported s (icingTick s) :=
  ((reported_freshnessTick s).trans (reported_intervalTick _)).trans (reported_thawTick _ _)

theorem icingChange_slots (st : IcingState) (value : Int) (f : Icd → Icd) (s : State) :
    (icingChange st value f s).lb.slots.length = s.lb.slots.length ∧
      ∀ k, k ≠ 0 → tget (icingChange st value f s).lb.slots k = tget s.lb.slots k := by
  rw [icingChange_lb]
  refine ⟨boardChange_slots_length _ s, fun k hk => boardChange_other _ s k ?_⟩
  simpa [icingPosting_slot, slotIcing] using hk.symm

theorem closeInterval_slots (s : State) :
    (closeInterval s).lb.slots.length = s.lb.slots.length ∧ ∀ k, k ≠ 0 → tget (closeInterval s).lb.slots k = tget s.lb.slots k := by
  unfold closeInterval; dsimp only; split
  · exact ⟨rfl, fun _ _ => rfl⟩
  · exact icingChange_slots _ _ _ s

theorem intervalTick_slots (s : State) :
    (intervalTick s).lb.slots.length = s.lb.slots.length ∧ ∀ k, k ≠ 0 → tget (intervalTick s).lb.slots k = tget s.lb.slots k := by
  unfold intervalTick; repeat' split
  · exact closeInterval_slots s
  · exact ⟨rfl, fun _ _ => rfl⟩
  · exact ⟨rfl, fun _ _ => rfl⟩

theorem thawTick_slots (before : Option Nat) (s : State) :
    (thawTick before s).lb.slots.length = s.lb.slots.length ∧
      ∀ k, k ≠ 0 → tget (thawTick before s).lb.slots k = tget s.lb.slots k := by
  unfold thawTick thawExpire; repeat' split
  · exact icingChange_slots _ _ _ s
  · exact ⟨rfl, fun _ _ => rfl⟩
  · exact ⟨rfl, fun _ _ => rfl⟩
  · exact ⟨rfl, fun _ _ => rfl⟩

/-- The detector's tick touches slot ICING alone. -/
theorem icingTick_slots (s : State) :
    (icingTick s).lb.slots.length = s.lb.slots.length ∧ ∀ k, k ≠ 0 → tget (icingTick s).lb.slots k = tget s.lb.slots k := by
  obtain ⟨hthaw, hthaw'⟩ := thawTick_slots s.icd.thaw (intervalTick (freshnessTick s))
  obtain ⟨hclose, hclose'⟩ := intervalTick_slots (freshnessTick s)
  rw [icingTick]
  refine ⟨by rw [hthaw, hclose]; simp, fun k hk => ?_⟩
  rw [hthaw' k hk, hclose' k hk]
  simp

/-! ### One taker among the others (log entry 6) -/

/-- The board or the schedule takes its tick: the Icing Detector finds all it reads as it stood. -/
structure BesideIcing (s t : State) : Prop where
  icd : t.icd = s.icd
  gcm : t.gcm = s.gcm
  jobs : t.jobs = s.jobs
  cc : t.cc = s.cc
  stands : IcingStands s t
  reported : Reported s t

theorem BesideIcing.trans {s t u : State} (h : BesideIcing s t) (h' : BesideIcing t u) : BesideIcing s u :=
  ⟨h'.icd.trans h.icd, h'.gcm.trans h.gcm, h'.jobs.trans h.jobs, h'.cc.trans h.cc, h.stands.trans h'.stands,
    h.reported.trans h'.reported⟩

theorem besideIcing_refl (s : State) : BesideIcing s s := ⟨rfl, rfl, rfl, rfl, .refl s, .refl s⟩

theorem besideIcing_boardTick (s : State) : BesideIcing s (boardTick s) :=
  ⟨by simp, by simp, by simp, by simp, icingStands_boardTick s, reported_boardTick s⟩

theorem besideIcing_scheduleTick (s : State) : BesideIcing s (scheduleTick s) :=
  ⟨by simp, by simp, by simp, by simp, icingStands_scheduleTick s, reported_scheduleTick s⟩

/-- In any order the detector's tick stands between ticks beside it. -/
theorem handTick_icing (order : TickOrder) (s : State) :
    ∃ w, BesideIcing s w ∧ BesideIcing (icingTick w) (handTick order s) := by
  have hlb := besideIcing_boardTick
  have hms := besideIcing_scheduleTick
  cases order with
  | icdLbMs => exact ⟨s, besideIcing_refl s, (hlb _).trans (hms _)⟩
  | icdMsLb => exact ⟨s, besideIcing_refl s, (hms _).trans (hlb _)⟩
  | lbIcdMs => exact ⟨boardTick s, hlb s, hms _⟩
  | lbMsIcd => exact ⟨_, (hlb s).trans (hms _), besideIcing_refl _⟩
  | msIcdLb => exact ⟨scheduleTick s, hms s, hlb _⟩
  | msLbIcd => exact ⟨_, (hms s).trans (hlb _), besideIcing_refl _⟩

/-- The board or the Icing Detector takes its tick: the schedule finds all it reads as it stood. -/
structure BesideSchedule (s t : State) : Prop where
  ms : t.ms = s.ms
  jobs : t.jobs = s.jobs
  cc : t.cc = s.cc
  length : t.lb.slots.length = s.lb.slots.length
  slot : tget t.lb.slots 1 = tget s.lb.slots 1
  reported : Reported s t

theorem BesideSchedule.trans {s t u : State} (h : BesideSchedule s t) (h' : BesideSchedule t u) : BesideSchedule s u :=
  ⟨h'.ms.trans h.ms, h'.jobs.trans h.jobs, h'.cc.trans h.cc, h'.length.trans h.length, h'.slot.trans h.slot,
    h.reported.trans h'.reported⟩

theorem besideSchedule_refl (s : State) : BesideSchedule s s := ⟨rfl, rfl, rfl, rfl, rfl, .refl s⟩

theorem besideSchedule_boardTick (s : State) : BesideSchedule s (boardTick s) :=
  ⟨by simp, by simp, by simp, by rw [boardTick_slots], by rw [boardTick_slots], reported_boardTick s⟩

theorem besideSchedule_icingTick (s : State) : BesideSchedule s (icingTick s) :=
  ⟨by simp, by simp, by simp, (icingTick_slots s).1, (icingTick_slots s).2 1 (by decide), reported_icingTick s⟩

/-- In any order the schedule's tick stands between ticks beside it. -/
theorem handTick_schedule (order : TickOrder) (s : State) :
    ∃ w, BesideSchedule s w ∧ BesideSchedule (scheduleTick w) (handTick order s) := by
  have hlb := besideSchedule_boardTick
  have hicd := besideSchedule_icingTick
  cases order with
  | icdLbMs => exact ⟨_, (hicd s).trans (hlb _), besideSchedule_refl _⟩
  | icdMsLb => exact ⟨icingTick s, hicd s, hlb _⟩
  | lbIcdMs => exact ⟨_, (hlb s).trans (hicd _), besideSchedule_refl _⟩
  | lbMsIcd => exact ⟨boardTick s, hlb s, hicd _⟩
  | msIcdLb => exact ⟨s, besideSchedule_refl s, (hicd _).trans (hlb _)⟩
  | msLbIcd => exact ⟨s, besideSchedule_refl s, (hlb _).trans (hicd _)⟩

theorem reported_handTick (order : TickOrder) (s : State) : Reported s (handTick order s) := by
  obtain ⟨w, hbefore, hafter⟩ := handTick_icing order s
  exact (hbefore.reported.trans (reported_icingTick w)).trans hafter.reported

/-- A second tick touches slots ICING and MAINT alone. -/
theorem handTick_slots (order : TickOrder) (s : State) :
    (handTick order s).lb.slots.length = s.lb.slots.length ∧ SlotsElsewhere [0, 1] s (handTick order s) := by
  have hlb : ∀ w, SlotsElsewhere [0, 1] w (boardTick w) := fun w k _ => by rw [boardTick_slots]
  have hicd : ∀ w, SlotsElsewhere [0, 1] w (icingTick w) := fun w k hk => (icingTick_slots w).2 k (by simp at hk; exact hk.1)
  have hms : ∀ w, SlotsElsewhere [0, 1] w (scheduleTick w) := fun w k hk => by
    rw [(scheduleTick_parts w).1, (recomputeMaint_slots _).2 k (by simp at hk; exact hk.2)]
    simp
  have htrans : ∀ {a b c : State}, SlotsElsewhere [0, 1] a b → SlotsElsewhere [0, 1] b c → SlotsElsewhere [0, 1] a c :=
    fun h h' k hk => (h' k hk).trans (h k hk)
  constructor
  · obtain ⟨w, hbefore, hafter⟩ := handTick_icing order s
    rw [hafter.stands.slots, (icingTick_slots w).1, hbefore.stands.slots]
  · cases order with
    | icdLbMs => exact htrans (htrans (hicd s) (hlb _)) (hms _)
    | icdMsLb => exact htrans (htrans (hicd s) (hms _)) (hlb _)
    | lbIcdMs => exact htrans (htrans (hlb s) (hicd _)) (hms _)
    | lbMsIcd => exact htrans (htrans (hlb s) (hms _)) (hicd _)
    | msIcdLb => exact htrans (htrans (hms s) (hicd _)) (hlb _)
    | msLbIcd => exact htrans (htrans (hms s) (hlb _)) (hicd _)

theorem exec_secondTick (order : TickOrder) (s : State) :
    exec (.secondTick order) s = .next (handTick order (tickBegun (s.advance (40000000 - s.cc.phase)))) :=
  congrArg Host.Outcome.next (phaseTick_eq order s)

/-- What a second tick may touch. -/
theorem onlyTouches_secondTick (order : TickOrder) (s : State) :
    OnlyTouches [.icd, .lb, .cc, .ms, .ej, .rep, .pub] s (handTick order (tickBegun s)) := by
  simp [onlyTouches_iff]

/-- The entries of one taker stand together in the event. -/
theorem journalsRun_secondTick {u v w t : State} {bs : List EntryBody} (hbefore : Reported (tickBegun u) v) (hlogs : Logs bs v w)
    (hafter : Reported w t) (hcc : t.cc = (tickBegun u).cc) : JournalsRun bs u t := by
  obtain ⟨as, has⟩ := (logged_tickBegun u).trans hbefore.logged
  obtain ⟨cs, hcs⟩ := hafter.logged
  refine ⟨as, cs, ?_⟩
  rw [hcc]
  exact ((has.trans hlogs).trans hcs).2.2

theorem journals_secondTick {u v w t : State} {b : EntryBody} {first rest : List EntryBody} (hbefore : Reported (tickBegun u) v)
    (hlogs : Logs (first ++ b :: rest) v w) (hafter : Reported w t) (hcc : t.cc = (tickBegun u).cc) : Journals b u t := by
  obtain ⟨as, cs, hrun⟩ := journalsRun_secondTick hbefore hlogs hafter hcc
  exact ⟨as ++ first, rest ++ cs, by simpa using hrun⟩

end Sys2Proof.Machine

/-! PROOFS. What the schedule's second tick makes of its items and of slot MAINT, and what a quiet tick leaves (R104, R128, R155, R157, R161). -/

namespace Sys2Proof.Machine

/-! ### Definitions taken and items judged (R155, R157) -/

theorem Item.take_eq (n : Nat) (x : Item) : x.take n = (taken x, takenEntries n x) := by
  obtain ⟨written, inForce, takePending, part⟩ := x
  unfold Item.take taken takenEntries
  cases takePending with
  | false => rfl
  | true =>
    cases hw : written.present <;> cases hf : inForce.present
    · simp
    · simp [itemEntry]
    · simp [itemEntry, ItemPart.start]
    · by_cases hkind : inForce.kind = written.kind
      · simp [hkind]
      · simp [itemEntry, ItemPart.start, hkind]

/-- The three steps of R157 read together: what they make of a state part, and one entry for each change, through DUE where a PENDING item
becomes OVERDUE. -/
theorem steps_evaluated (n code grace v : Nat) (y : ItemPart) :
    ((y.toDue v).toOverdue v grace).endDefer v = evaluated grace v y ∧
      changeEntry n code y (y.toDue v) ++ changeEntry n code (y.toDue v) ((y.toDue v).toOverdue v grace) ++
          changeEntry n code ((y.toDue v).toOverdue v grace) (((y.toDue v).toOverdue v grace).endDefer v) =
        if y.state = (evaluated grace v y).state then []
        else if y.state = .pending ∧ (evaluated grace v y).state = .overdue then
          [itemEntry n ItemState.pending.code ItemState.due.code code, itemEntry n ItemState.due.code ItemState.overdue.code code]
        else [itemEntry n y.state.code (evaluated grace v y).state.code code] := by
  obtain ⟨state, due, lastDone, pulledBy, deferUntil, mark⟩ := y
  unfold evaluated changeEntry
  cases state with
  | pending =>
    by_cases hdue : due ≤ v
    · by_cases hover : due + grace ≤ v
      · simp [ItemPart.toDue, ItemPart.toOverdue, ItemPart.endDefer, hdue, hover, Nat.not_lt.2 hdue, Nat.not_lt.2 hover]
      · simp [ItemPart.toDue, ItemPart.toOverdue, ItemPart.endDefer, hdue, hover, Nat.not_lt.2 hdue, Nat.lt_of_not_le hover]
    · simp [ItemPart.toDue, ItemPart.toOverdue, ItemPart.endDefer, hdue, Nat.lt_of_not_le hdue]
  | due =>
    by_cases hover : due + grace ≤ v
    · simp [ItemPart.toDue, ItemPart.toOverdue, ItemPart.endDefer, hover, Nat.not_lt.2 hover]
    · simp [ItemPart.toDue, ItemPart.toOverdue, ItemPart.endDefer, hover, Nat.lt_of_not_le hover]
  | overdue => simp [ItemPart.toDue, ItemPart.toOverdue, ItemPart.endDefer]
  | deferred =>
    by_cases hend : deferUntil.getD 0 ≤ v
    · simp [ItemPart.toDue, ItemPart.toOverdue, ItemPart.endDefer, hend, Nat.not_lt.2 hend]
    · simp [ItemPart.toDue, ItemPart.toOverdue, ItemPart.endDefer, hend, Nat.lt_of_not_le hend]

theorem Item.evaluate_eq (smp : Sample) (n : Nat) (x : Item) :
    x.evaluate smp n = (judged true smp x, judgedEntries true smp n x) := by
  obtain ⟨written, inForce, takePending, part⟩ := x
  cases part with
  | none => rfl
  | some y =>
    unfold Item.evaluate judgedEntries judged
    by_cases hvalid : smp.valid inForce.kind = true
    · simp only [hvalid, if_true, Bool.true_and, Option.map_some]
      obtain ⟨hpart, hentries⟩ := steps_evaluated n inForce.code inForce.grace (smp.value inForce.kind) y
      rw [hentries, hpart]
      rfl
    · simp [hvalid]

/-- A disabled schedule judges nothing. -/
theorem judged_disabled (smp : Sample) (x : Item) : judged false smp x = x := by
  obtain ⟨written, inForce, takePending, part⟩ := x
  cases part <;> simp [judged]

theorem judgedEntries_disabled (smp : Sample) (n : Nat) (x : Item) : judgedEntries false smp n x = [] := by
  unfold judgedEntries
  rw [judged_disabled]
  cases x.part <;> simp

/-- Every slot changed by `g`, with the entries `h` in slot order. -/
theorem mapItems_eq {f : Nat → Item → Item × List EntryBody} {g : Item → Item} {h : Nat → Item → List EntryBody}
    (hf : ∀ n x, f n x = (g x, h n x)) (n : Nat) (xs : List Item) :
    mapItems f n xs = (xs.map g, (xs.zipIdx n).flatMap fun x => h x.2 x.1) := by
  induction xs generalizing n with
  | nil => rfl
  | cons x xs ih => simp [mapItems, hf, ih]

theorem overItems_ms {f : Nat → Item → Item × List EntryBody} {g : Item → Item} {h : Nat → Item → List EntryBody}
    (hf : ∀ n x, f n x = (g x, h n x)) (s : State) : (overItems f s).ms = { s.ms with items := s.ms.items.map g } := by
  simp [overItems, mapItems_eq hf]

theorem logs_overItems {f : Nat → Item → Item × List EntryBody} {g : Item → Item} {h : Nat → Item → List EntryBody}
    (hf : ∀ n x, f n x = (g x, h n x)) (s : State) :
    Logs (s.ms.items.zipIdx.flatMap fun x => h x.2 x.1) s (overItems f s) := by
  unfold overItems
  rw [mapItems_eq hf]
  exact (logs_journalAll _ (s.setMs _)).congr_left rfl rfl

theorem evaluateItems_ms (s : State) :
    (evaluateItems s).ms = { s.ms with items := s.ms.items.map (judged s.jobs.maint s.ms.sample) } := by
  unfold evaluateItems
  cases hmaint : s.jobs.maint with
  | true =>
    rw [if_pos rfl]
    exact overItems_ms (Item.evaluate_eq s.ms.sample) s
  | false =>
    rw [if_neg (by simp), List.map_congr_left fun x _ => judged_disabled s.ms.sample x]
    simp

theorem logs_evaluateItems (s : State) :
    Logs (s.ms.items.zipIdx.flatMap fun x => judgedEntries s.jobs.maint s.ms.sample x.2 x.1) s (evaluateItems s) := by
  unfold evaluateItems
  cases hmaint : s.jobs.maint with
  | true =>
    rw [if_pos rfl]
    exact logs_overItems (Item.evaluate_eq s.ms.sample) s
  | false =>
    rw [if_neg (by simp), List.flatMap_eq_nil_iff.2 fun x _ => judgedEntries_disabled s.ms.sample x.2 x.1]
    exact logs_nil rfl rfl

/-- The sample of a second tick (R156). -/
def tickSample (c : Cc) : Sample := ⟨c.isSet, c.time / 86400, c.restored, c.seconds, c.damage⟩

/-- The ITEM entries of a tick: those of the taking, then those of the judging. -/
def tickEntries (s : State) : List EntryBody :=
  s.ms.items.zipIdx.flatMap (fun x => takenEntries x.2 x.1) ++
    (s.ms.items.map taken).zipIdx.flatMap (fun x => judgedEntries s.jobs.maint (tickSample s.cc) x.2 x.1)

/-- The schedule once it has taken its definitions. -/
theorem itemsTaken_ms (s : State) :
    (overItems Item.take (takeSample s)).ms = { s.ms with items := s.ms.items.map taken, sample := tickSample s.cc } := by
  rw [overItems_ms Item.take_eq]
  rfl

theorem scheduleJudged_ms (s : State) :
    (scheduleJudged s).ms = { s.ms with
      items := (s.ms.items.map taken).map (judged s.jobs.maint (tickSample s.cc))
      sample := tickSample s.cc } := by
  rw [scheduleJudged, evaluateItems_ms, itemsTaken_ms]
  simp

theorem logs_scheduleJudged (s : State) : Logs (tickEntries s) s (scheduleJudged s) := by
  have htaken := (logs_overItems Item.take_eq (takeSample s)).congr_left (s' := s) rfl rfl
  have hjudged := logs_evaluateItems (overItems Item.take (takeSample s))
  rw [itemsTaken_ms, overItems_frame _ _ |>.2.1] at hjudged
  exact htaken.trans hjudged

/-! ### Slot MAINT after a tick (R161) -/

/-- Where the cap stands posted as the items ask for it, or the schedule is disabled, nothing is handed to the board. -/
theorem recomputeMaint_same {s : State} (h : s.jobs.maint = false ∨ maintCap s.ms.items = s.ms.posted) : recomputeMaint s = s := by
  unfold recomputeMaint
  rcases h with h | h
  · exact if_neg (by simp [h])
  · split
    · rw [h]
      cases hp : s.ms.posted <;> simp
    · rfl

theorem recomputeMaint_posts {s : State} {k : Nat} (hm : s.jobs.maint = true) (hc : maintCap s.ms.items = some k)
    (hp : s.ms.posted ≠ some k) :
    recomputeMaint s = boardChange [⟨1, .post k .overdue⟩] (s.setMs { s.ms with posted := some k }) := by
  unfold recomputeMaint
  rw [if_pos hm, hc]
  exact if_neg hp

theorem recomputeMaint_withdraws {s : State} (hm : s.jobs.maint = true) (hc : maintCap s.ms.items = none) (hp : s.ms.posted ≠ none) :
    recomputeMaint s = boardChange [⟨1, .withdraw⟩] (s.setMs { s.ms with posted := none }) := by
  obtain ⟨p, hp⟩ := Option.ne_none_iff_exists'.1 hp
  unfold recomputeMaint
  rw [if_pos hm, hc, hp]
  rfl

theorem scheduleTick_ms (s : State) :
    (scheduleTick s).ms = { s.ms with
      items := (s.ms.items.map taken).map (judged s.jobs.maint (tickSample s.cc))
      sample := tickSample s.cc
      posted := if s.jobs.maint then maintCap ((s.ms.items.map taken).map (judged s.jobs.maint (tickSample s.cc)))
        else s.ms.posted } := by
  rw [(scheduleTick_parts s).2]
  cases hm : s.jobs.maint with
  | false => rw [recomputeMaint_same (.inl (by simp [hm])), scheduleJudged_ms, hm]; rfl
  | true => rw [recomputeMaint_ms (by simp [hm]), scheduleJudged_ms, hm]; rfl

/-- A tick that leaves the posted cap hands the board nothing. -/
theorem scheduleTick_unposted {s : State} (h : s.jobs.maint = false ∨ (scheduleTick s).ms.posted = s.ms.posted) :
    (scheduleTick s).lb = s.lb := by
  rw [(scheduleTick_parts s).1, recomputeMaint_same]
  · simp
  · rw [scheduleTick_ms] at h
    rw [scheduleJudged_ms]
    cases hm : s.jobs.maint with
    | false => exact .inl (by simp [hm])
    | true => exact .inr (by simpa [hm] using h)

/-- A tick that moves the posted cap posts slot MAINT anew or withdraws it. -/
theorem scheduleTick_posted {s : State} (hm : s.jobs.maint = true) (hp : (scheduleTick s).ms.posted ≠ s.ms.posted) :
    (∀ k, (scheduleTick s).ms.posted = some k → 1 < s.lb.slots.length → Posted (tget (scheduleTick s).lb.slots 1) k .overdue) ∧
      ((scheduleTick s).ms.posted = none → (tget (scheduleTick s).lb.slots 1).active = false) := by
  have hcap : maintCap (scheduleJudged s).ms.items = (scheduleTick s).ms.posted := by
    rw [scheduleTick_ms, scheduleJudged_ms, if_pos hm]
  have hold : (scheduleJudged s).ms.posted = s.ms.posted := by simp
  rw [← hcap, ← hold] at hp
  rw [← hcap, (scheduleTick_parts s).1]
  refine ⟨fun k hk hlen => ?_, fun hk => ?_⟩
  · rw [recomputeMaint_posts (by simpa using hm) hk fun h => hp (hk.trans h.symm)]
    exact boardChange_posts (by simpa using hlen) (by simp)
  · rw [recomputeMaint_withdraws (by simpa using hm) hk fun h => hp (hk.trans h.symm)]
    exact boardChange_withdrawn 1 _

/-! ### A tick that leaves the icing machine (R100, R104) -/

/-- The detector with its record one second older (R100). -/
def Icd.aged (c : Icd) : Icd :=
  { c with age := min 65535 (c.age + 1), fresh := if c.fresh = .fresh ∧ c.age = 4 then .stale else c.fresh }

theorem freshnessTick_icd (s : State) : (freshnessTick s).icd = s.icd.aged := by
  have hage : satAdd 65535 s.icd.age 1 = 5 ↔ s.icd.age = 4 := by unfold satAdd; omega
  unfold freshnessTick Icd.aged
  simp only [hage]
  split <;> simp [satAdd]

/-- The operating record of the detector, with its freshness and age. -/
def Icd.record (c : Icd) : OpRecord × Freshness × Nat := (c.op, c.fresh, c.age)

theorem closeInterval_record (s : State) : (closeInterval s).icd.record = s.icd.record := by
  unfold closeInterval; dsimp only; split
  · rfl
  · rw [icingChange_icd]; rfl

theorem intervalTick_record (s : State) : (intervalTick s).icd.record = s.icd.record := by
  unfold intervalTick; repeat' split
  · exact closeInterval_record s
  · rfl
  · rfl

theorem thawTick_record (before : Option Nat) (s : State) : (thawTick before s).icd.record = s.icd.record := by
  unfold thawTick thawExpire; repeat' split
  · rw [icingChange_icd]; rfl
  · rfl
  · rfl
  · rfl

/-- Every tick ages the record and leaves its content (R100). -/
theorem icingTick_record (s : State) : (icingTick s).icd.record = s.icd.aged.record := by
  rw [icingTick, thawTick_record, intervalTick_record, freshnessTick_icd]

theorem icingTick_age (s : State) : (icingTick s).icd.age = min 65535 (s.icd.age + 1) :=
  congrArg (fun r : OpRecord × Freshness × Nat => r.2.2) (icingTick_record s)

/-- A tick that closes no interval (R104). -/
theorem intervalTick_counts {s : State} (h : s.jobs.icing = false ∨ s.icd.second < 9) :
    intervalTick s = s.setIcd { s.icd with second := if s.jobs.icing then s.icd.second + 1 else s.icd.second } := by
  unfold intervalTick
  cases hj : s.jobs.icing with
  | false => rfl
  | true =>
    rw [if_pos rfl, if_neg (by rw [hj] at h; simp at h; omega)]
    rfl

/-- A timer that did not run before the tick, or that the close has stopped, is left alone. -/
theorem thawTick_stopped {before : Option Nat} {s : State} (h : before = none ∨ s.icd.thaw = none) : thawTick before s = s := by
  unfold thawTick
  rcases h with h | h
  · rw [h]
  · rw [h]
    cases before <;> rfl

theorem thawTick_running {before : Option Nat} {s : State} {n : Nat} (hbefore : before ≠ none) (h : s.icd.thaw = some n) (hn : 2 ≤ n) :
    thawTick before s = s.setIcd { s.icd with thaw := some (n - 1) } := by
  obtain ⟨m, rfl⟩ := Option.ne_none_iff_exists'.1 hbefore
  unfold thawTick
  rw [h]
  exact if_neg (by omega)

theorem thawTick_ends {before : Option Nat} {s : State} {n : Nat} (hbefore : before ≠ none) (h : s.icd.thaw = some n) (hn : n ≤ 1) :
    thawTick before s = thawExpire s := by
  obtain ⟨m, rfl⟩ := Option.ne_none_iff_exists'.1 hbefore
  unfold thawTick
  rw [h]
  exact if_pos hn

/-- A tick that ends no thaw (R104, R111). -/
theorem thawTick_runs {s : State} (h : ∀ n, s.icd.thaw = some n → 2 ≤ n) :
    thawTick s.icd.thaw s = s.setIcd { s.icd with thaw := s.icd.thaw.map (· - 1) } := by
  cases hthaw : s.icd.thaw with
  | none =>
    rw [thawTick_stopped (.inl rfl), Option.map_none, ← hthaw]
    rfl
  | some n => exact thawTick_running (nofun) hthaw (h n hthaw)

/-- A tick that closes no interval and ends no thaw. -/
theorem icingTick_ordinary {s : State} (hsecond : s.jobs.icing = false ∨ s.icd.second < 9) (hthaw : ∀ n, s.icd.thaw = some n → 2 ≤ n) :
    (icingTick s).lb = s.lb ∧
      (icingTick s).icd = { s.icd.aged with
        second := if s.jobs.icing then s.icd.second + 1 else s.icd.second
        thaw := s.icd.thaw.map (· - 1) } := by
  obtain ⟨w, hw⟩ : ∃ w, freshnessTick s = w := ⟨_, rfl⟩
  have hicd : w.icd = s.icd.aged := by rw [← hw, freshnessTick_icd]
  have hjobs : w.jobs = s.jobs := by rw [← hw]; simp
  have hlb : w.lb = s.lb := by rw [← hw]; simp
  have hcounted := intervalTick_counts (s := w) (by rw [hicd, hjobs]; exact hsecond)
  have hthaw' : (intervalTick w).icd.thaw = s.icd.thaw := by rw [hcounted, State.setIcd_icd, hicd]; rfl
  have hruns := thawTick_runs (s := intervalTick w) (by rw [hthaw']; exact hthaw)
  rw [hthaw'] at hruns
  rw [icingTick, hw, hruns, hcounted]
  refine ⟨hlb, ?_⟩
  rw [State.setIcd_icd, State.setIcd_icd, hicd, hjobs]
  rfl

/-! ### The ack timer of a tick (R127, R128) -/

/-- From `s` to `t` a RUNNING timer with more than `k` seconds goes down by `k`, whatever the effective cap. -/
structure TimerFalls (k : Nat) (s t : State) : Prop where
  aCap : t.lb.aCap = s.lb.aCap
  cap : t.lb.cap = s.lb.cap
  timer : ∀ n, s.lb.timer = some n → k < n → t.lb.timer = some (n - k)

/-- The same, where the effective cap is left below A_cap. -/
structure TimerRuns (k : Nat) (s t : State) : Prop where
  aCap : t.lb.aCap = s.lb.aCap
  timer : ∀ n, s.lb.timer = some n → k < n → t.lb.cap < s.lb.aCap → t.lb.timer = some (n - k)

theorem timerFalls_of_lb {s t : State} (h : t.lb = s.lb) : TimerFalls 0 s t := ⟨by rw [h], by rw [h], fun n hn _ => by rw [h, hn]; rfl⟩

theorem timerFalls_boardTick (s : State) : TimerFalls 1 s (boardTick s) where
  aCap := by
    unfold boardTick ackExpire; repeat' split
    all_goals simp
  cap := by
    unfold boardTick ackExpire; repeat' split
    all_goals simp
  timer n hn hk := by rw [boardTick_running hn hk]; rfl

theorem TimerFalls.runs {k : Nat} {s t : State} (h : TimerFalls k s t) : TimerRuns k s t :=
  ⟨h.aCap, fun n hn hk _ => h.timer n hn hk⟩

theorem TimerFalls.trans {k m : Nat} {s t u : State} (h : TimerFalls k s t) (h' : TimerRuns m t u) : TimerRuns (k + m) s u :=
  ⟨h'.aCap.trans h.aCap, fun n hn hk hcap => by
    rw [h'.timer _ (h.timer n hn (by omega)) (by omega) (by rw [h.aCap]; exact hcap), Nat.sub_sub]⟩

theorem TimerRuns.trans {k m : Nat} {s t u : State} (h : TimerRuns k s t) (h' : TimerFalls m t u) : TimerRuns (k + m) s u :=
  ⟨h'.aCap.trans h.aCap, fun n hn hk hcap => by
    rw [h'.timer _ (h.timer n hn (by omega) (by rw [← h'.cap]; exact hcap)) (by omega), Nat.sub_sub]⟩

/-- One change of the board cancels no RUNNING timer while it leaves the cap below A_cap. -/
theorem timerRuns_boardChange (cs : List SlotChange) (s : State) : TimerRuns 0 s (boardChange cs s) := by
  have hlb := boardChange_lb cs s
  split at hlb
  · exact (timerFalls_of_lb hlb).runs
  · refine ⟨by rw [hlb]; rfl, fun n hn _ hcap => ?_⟩
    rw [hlb] at hcap ⊢
    simp only [Lb.recompute, Lb.timerAfter, hn]
    exact if_neg (Nat.not_le.2 hcap)

theorem TimerRuns.congr {k : Nat} {s s' t t' : State} (h : TimerRuns k s t) (hs : s'.lb = s.lb) (ht : t'.lb = t.lb) : TimerRuns k s' t' :=
  ⟨by rw [hs, ht]; exact h.aCap, by rw [hs, ht]; exact h.timer⟩

theorem timerRuns_recomputeMaint (s : State) : TimerRuns 0 s (recomputeMaint s) := by
  have hposted : ∀ cs p, TimerRuns 0 s (boardChange cs (s.setMs p)) := fun cs p => (timerRuns_boardChange cs (s.setMs p)).congr rfl rfl
  have hsame : TimerRuns 0 s s := (timerFalls_of_lb rfl).runs
  unfold recomputeMaint; repeat' split
  · exact hsame
  · exact hposted _ _
  · exact hposted _ _
  · exact hsame
  · exact hsame

theorem timerRuns_scheduleTick (s : State) : TimerRuns 0 s (scheduleTick s) :=
  (timerRuns_recomputeMaint (scheduleJudged s)).congr (by simp) (scheduleTick_parts s).1

/-- A close of an interval hands the board at most one change; one after which the thaw timer runs posts cap 0. -/
theorem intervalTick_board (s : State) :
    (intervalTick s).lb = s.lb ∨
      ∃ st, (intervalTick s).lb = (boardChange [icingPosting s.icd.config st] s).lb ∧
        ((intervalTick s).icd.thaw ≠ none → st = .thaw) := by
  have hclosed : ∀ st value r,
      (icingChange st value (fun c => c.closed r ⟨0, 0, 0, none⟩) s).icd.thaw ≠ none → st = .thaw := by
    intro st value r h
    by_contra hne
    rw [icingChange_icd] at h
    exact h (if_neg hne)
  unfold intervalTick closeInterval; dsimp only; split
  · split
    · split
      · exact .inl rfl
      · exact .inr ⟨_, icingChange_lb _ _ _ s, hclosed _ _ _⟩
    · exact .inl rfl
  · exact .inl rfl

theorem thawTick_board (before : Option Nat) (s : State) :
    (thawTick before s).lb = s.lb ∨ (s.icd.thaw ≠ none ∧ (thawTick before s).lb = (boardChange [⟨0, .withdraw⟩] s).lb) := by
  unfold thawTick thawExpire; split
  next hthaw =>
    split
    · split
      · exact .inr ⟨by simp [hthaw], icingChange_lb .clear 0 id s⟩
      · exact .inl rfl
    · exact .inl rfl
  · exact .inl rfl

/-- A withdrawal after the posting of cap 0 does not lower the effective cap. -/
theorem thawPosting_cap_le {s w v : State} (hw : w.lb = (boardChange [⟨0, .post 0 .thaw⟩] s).lb)
    (hv : v.lb = (boardChange [⟨0, .withdraw⟩] w).lb) : w.lb.cap ≤ v.lb.cap := by
  by_cases hempty : w.lb.slots = []
  · have hinactive : (tget w.lb.slots 0).active = false := by rw [hempty]; rfl
    rw [hv, boardChange_lb, if_pos (by simp [SlotChange.effective, hinactive])]
  · have hslots : s.lb.slots ≠ [] := by
      rintro h
      refine hempty (List.length_eq_zero_iff.1 ?_)
      rw [hw, boardChange_slots_length, h]
      rfl
    rw [hw]
    exact (boardChange_cap_le (List.length_pos_of_ne_nil hslots)).trans (Nat.zero_le _)

theorem timerRuns_icingTick (s : State) : TimerRuns 0 s (icingTick s) := by
  obtain ⟨w, hw⟩ : ∃ w, freshnessTick s = w := ⟨_, rfl⟩
  have hlb : w.lb = s.lb := by rw [← hw]; simp
  have hthaw := thawTick_board s.icd.thaw (intervalTick w)
  rw [icingTick, hw]
  rcases intervalTick_board w with hsame | ⟨st, hposted, hst⟩
  · rcases hthaw with hkept | ⟨-, hended⟩
    · exact (timerFalls_of_lb (hkept.trans (hsame.trans hlb))).runs
    · exact (timerRuns_boardChange _ (intervalTick w)).congr (hlb.symm.trans hsame.symm) hended
  · have hclosed : TimerRuns 0 s (intervalTick w) := (timerRuns_boardChange _ w).congr hlb.symm hposted
    rcases hthaw with hkept | ⟨hran, hended⟩
    · exact hclosed.congr rfl hkept
    · have hrun : TimerRuns 0 (intervalTick w) (thawTick s.icd.thaw (intervalTick w)) :=
        (timerRuns_boardChange _ (intervalTick w)).congr rfl hended
      rw [hst hran] at hposted
      have hle := thawPosting_cap_le hposted hended
      exact ⟨hrun.aCap.trans hclosed.aCap, fun n hn hk hcap => hrun.timer n (hclosed.timer n hn hk (hle.trans_lt hcap)) hk
        (by rw [hclosed.aCap]; exact hcap)⟩

/-! ### The board after all three takers (R128) -/

/-- Where neither the detector nor the schedule changes the board, it is left as its own tick leaves it. -/
theorem handTick_lb {order : TickOrder} {s : State} {b : Lb}
    (hicd : ∀ w, w.icd = s.icd → w.jobs = s.jobs → (icingTick w).lb = w.lb)
    (hms : ∀ w, w.ms = s.ms → w.jobs = s.jobs → w.cc = s.cc → (scheduleTick w).lb = w.lb)
    (hlb : ∀ w, w.lb = s.lb → (boardTick w).lb = b) : (handTick order s).lb = b := by
  cases order with
  | icdLbMs => exact (hms _ (by simp) (by simp) (by simp)).trans (hlb _ (hicd s rfl rfl))
  | icdMsLb => exact hlb _ ((hms _ (by simp) (by simp) (by simp)).trans (hicd s rfl rfl))
  | lbIcdMs => exact ((hms _ (by simp) (by simp) (by simp)).trans (hicd _ (by simp) (by simp))).trans (hlb s rfl)
  | lbMsIcd => exact ((hicd _ (by simp) (by simp)).trans (hms _ (by simp) (by simp) (by simp))).trans (hlb s rfl)
  | msIcdLb => exact hlb _ ((hicd _ (by simp) (by simp)).trans (hms s rfl rfl rfl))
  | msLbIcd => exact (hicd _ (by simp) (by simp)).trans (hlb _ (hms s rfl rfl rfl))

/-- Where the detector changes no slot, the timer goes down by 1 while the cap is left below A_cap. -/
theorem handTick_timer_of_icing {s : State} (order : TickOrder) (hicd : ∀ w, w.icd = s.icd → w.jobs = s.jobs → (icingTick w).lb = w.lb) :
    TimerRuns 1 s (handTick order s) := by
  have hms := timerRuns_scheduleTick
  have hlb := timerFalls_boardTick
  have hquiet : ∀ {w : State}, w.icd = s.icd → w.jobs = s.jobs → TimerFalls 0 w (icingTick w) := fun h h' => timerFalls_of_lb (hicd _ h h')
  cases order with
  | icdLbMs => exact (hquiet rfl rfl).trans ((hlb _).trans (hms _))
  | icdMsLb => exact (hquiet rfl rfl).trans ((hms _).trans (hlb _))
  | lbIcdMs => exact (hlb s).trans ((hquiet (by simp) (by simp)).trans (hms _))
  | lbMsIcd => exact (hlb s).trans ((hms _).trans (hquiet (by simp) (by simp)))
  | msIcdLb => exact ((hms s).trans (hquiet (by simp) (by simp))).trans (hlb _)
  | msLbIcd => exact ((hms s).trans (hlb _)).trans (hquiet (by simp) (by simp))

/-- Where the schedule changes no slot, the timer goes down by 1 while the cap is left below A_cap. -/
theorem handTick_timer_of_schedule {s : State} (order : TickOrder)
    (hms : ∀ w, w.ms = s.ms → w.jobs = s.jobs → w.cc = s.cc → (scheduleTick w).lb = w.lb) : TimerRuns 1 s (handTick order s) := by
  have hicd := timerRuns_icingTick
  have hlb := timerFalls_boardTick
  have hquiet : ∀ {w : State}, w.ms = s.ms → w.jobs = s.jobs → w.cc = s.cc → TimerFalls 0 w (scheduleTick w) := fun h h' h'' =>
    timerFalls_of_lb (hms _ h h' h'')
  cases order with
  | icdLbMs => exact ((hicd s).trans (hlb _)).trans (hquiet (by simp) (by simp) (by simp))
  | icdMsLb => exact ((hicd s).trans (hquiet (by simp) (by simp) (by simp))).trans (hlb _)
  | lbIcdMs => exact (hlb s).trans ((hicd _).trans (hquiet (by simp) (by simp) (by simp)))
  | lbMsIcd => exact (hlb s).trans ((hquiet (by simp) (by simp) (by simp)).trans (hicd _))
  | msIcdLb => exact (hquiet rfl rfl rfl).trans ((hicd _).trans (hlb _))
  | msLbIcd => exact (hquiet rfl rfl rfl).trans ((hlb _).trans (hicd _))

/-! ### The statement -/

/-- A second tick short of a close and of the end of a thaw leaves slot ICING, and in the detector moves age, counter and timer alone. -/
theorem handTick_ordinary {order : TickOrder} {s : State} (hsecond : s.jobs.icing = false ∨ s.icd.second < 9)
    (hthaw : ∀ n, s.icd.thaw = some n → 2 ≤ n) :
    tget (handTick order s).lb.slots 0 = tget s.lb.slots 0 ∧
      (handTick order s).icd = { s.icd.aged with
        second := if s.jobs.icing then s.icd.second + 1 else s.icd.second
        thaw := s.icd.thaw.map (· - 1) } := by
  obtain ⟨w, hw, hw'⟩ := handTick_icing order s
  obtain ⟨hlb, hicd⟩ := icingTick_ordinary (s := w) (by rw [hw.jobs, hw.icd]; exact hsecond) (by rw [hw.icd]; exact hthaw)
  refine ⟨by rw [hw'.stands.slot, hlb, hw.stands.slot], ?_⟩
  rw [hw'.icd, hicd, hw.icd, hw.jobs]

/-- Settles O26: the tick begins with the calendar, and each taker's part is read off its own tick, between the others' (log entry 6). -/
theorem secondTickAdvancesTheCalendar : Obligations.SecondTickAdvancesTheCalendar := by
  intro order s u c held runs
  obtain ⟨b, hb⟩ : ∃ b, tickBegun u = b := ⟨_, rfl⟩
  have hicd : b.icd = u.icd := by rw [← hb]; simp
  have hjobs : b.jobs = u.jobs := by rw [← hb]; simp
  have hms : b.ms = u.ms := by rw [← hb]; simp
  have hlb : b.lb = u.lb := by rw [← hb]; simp
  have hcc : (handTick order b).cc = b.cc := by simp
  obtain ⟨w, hw, hw'⟩ := handTick_icing order b
  obtain ⟨v, hv, hv'⟩ := handTick_schedule order b
  have hvms : v.ms = u.ms := hv.ms.trans hms
  have hvjobs : v.jobs = u.jobs := hv.jobs.trans hjobs
  have hvcc : v.cc = (handTick order b).cc := hv.cc.trans hcc.symm
  have htms : (handTick order b).ms = (scheduleTick v).ms := hv'.ms
  have hsample : (handTick order b).ms.sample = tickSample (handTick order b).cc := by rw [htms, scheduleTick_ms, hvcc]
  have hslot1 : tget (handTick order b).lb.slots 1 = tget (scheduleTick v).lb.slots 1 := hv'.slot
  have hslot1' : tget v.lb.slots 1 = tget u.lb.slots 1 := by rw [hv.slot, hlb]
  have hlen : v.lb.slots.length = u.lb.slots.length := by rw [hv.length, hlb]
  refine ⟨handTick order b, by rw [← hb]; exact exec_secondTick order s, by rw [← hb]; exact onlyTouches_secondTick order u,
    by rw [hcc, ← hb]; exact tickBegun_cc u, fun hheld hlimit p => ?_, ?_, hsample, ?_⟩
  · exact (reported_handTick order b).flags p _ (by rw [← hb]; exact tickBegun_limit hheld hlimit p)
  · rw [hw'.icd, icingTick_age, hw.icd, hicd]
  intro took ordinary unposted
  have hitems : (handTick order b).ms.items = took.map (judged u.jobs.maint (handTick order b).ms.sample) := by
    rw [hsample, htms, scheduleTick_ms, hvms, hvjobs, hvcc]
  have hposted : (handTick order b).ms.posted = if u.jobs.maint then maintCap (handTick order b).ms.items else u.ms.posted := by
    rw [htms, scheduleTick_ms, hvms, hvjobs]
  have hmoved : ¬unposted → u.jobs.maint = true ∧ (scheduleTick v).ms.posted ≠ v.ms.posted := fun h => by
    obtain ⟨hmaint, hp⟩ := not_or.1 h
    exact ⟨by simpa using hmaint, by rw [← htms, hvms]; exact hp⟩
  have hquietIcd : ordinary → ∀ y, y.icd = b.icd → y.jobs = b.jobs → (icingTick y).lb = y.lb := fun h y hy hy' => by
    refine (icingTick_ordinary ?_ ?_).1
    · rw [hy, hy', hicd, hjobs]; exact h.1
    · rw [hy, hicd]; exact h.2
  have hquietMs : unposted → ∀ y, y.ms = b.ms → y.jobs = b.jobs → y.cc = b.cc → (scheduleTick y).lb = y.lb := fun h y hy hy' hy'' => by
    have hsame : (scheduleTick y).ms = (handTick order b).ms := by
      rw [htms, scheduleTick_ms, scheduleTick_ms, hy, hy', hy'', hvms, hvjobs, hv.cc, hms, hjobs]
    refine scheduleTick_unposted ?_
    rw [hsame, hy, hy', hms, hjobs]
    exact h
  refine ⟨hitems, by rw [htms, scheduleTick_ms, hvms], ?_, fun k hk => by rw [(handTick_slots order b).2 k hk, hlb],
    fun h => by rw [hposted, h]; rfl, fun h => by rw [hposted, h]; rfl, fun h => ?_, fun k h hk hlen1 => ?_, fun h hk => ?_,
    fun h => ?_, fun h h' htimer => ?_, fun n h h' htimer hn => ?_, fun n h htimer hn hcap => ?_⟩
  · have hlogs := logs_scheduleJudged v
    rw [tickEntries, hvms, hvjobs, hvcc, ← hsample] at hlogs
    exact journalsRun_secondTick (by rw [hb]; exact hv.reported) hlogs ((reported_scheduleTick_judged v).trans hv'.reported)
      (by rw [hcc, hb])
  · rw [hslot1, scheduleTick_unposted, hslot1']
    rw [← htms, hvms, hvjobs]
    exact h
  · obtain ⟨hmaint, hp⟩ := hmoved h
    rw [hslot1]
    exact (scheduleTick_posted (by rw [hvjobs]; exact hmaint) hp).1 k (by rw [← htms]; exact hk) (by rw [hlen]; exact hlen1)
  · obtain ⟨hmaint, hp⟩ := hmoved h
    rw [hslot1]
    exact (scheduleTick_posted (by rw [hvjobs]; exact hmaint) hp).2 (by rw [← htms]; exact hk)
  · obtain ⟨hslot, hx⟩ := handTick_ordinary (order := order) (s := b) (by rw [hjobs, hicd]; exact h.1) (by rw [hicd]; exact h.2)
    refine ⟨by rw [hslot, hlb], ?_⟩
    rw [hx, hicd, hjobs]
    rfl
  · refine handTick_lb (hquietIcd h) (hquietMs h') fun y hy => ?_
    rw [boardTick_stopped (by rw [hy, hlb]; exact htimer), hy, hlb]
  · refine handTick_lb (hquietIcd h) (hquietMs h') fun y hy => ?_
    rw [boardTick_running (by rw [hy, hlb]; exact htimer) hn, hy, hlb]
    rfl
  · have hruns : TimerRuns 1 b (handTick order b) := by
      rcases h with h | h
      · exact handTick_timer_of_icing order (hquietIcd h)
      · exact handTick_timer_of_schedule order (hquietMs h)
    exact hruns.timer n (by rw [hlb]; exact htimer) hn (by rw [hlb]; exact hcap)

end Sys2Proof.Machine

/-! PROOFS. The close of an interval, its judgement, and the end of a thaw (IcingSecondTicksAndIntervals). -/

namespace Sys2Proof.Machine

/-! ### The result of an interval (R105 to R108) -/

/-- A close is void without arrivals, or on a record that this tick leaves STALE (R105). -/
theorem Icd.aged_void_iff (c : Icd) :
    c.aged.void = true ↔ c.arrivals = 0 ∨ c.fresh = .stale ∨ (c.fresh = .fresh ∧ c.age = 4) := by
  have hstale : c.aged.fresh = .stale ↔ c.fresh = .stale ∨ (c.fresh = .fresh ∧ c.age = 4) := by
    unfold Icd.aged
    by_cases h : c.fresh = .fresh ∧ c.age = 4
    · simp [h]
    · simp only [if_neg h, or_iff_left h]
  unfold Icd.void
  rw [Bool.or_eq_true, decide_eq_true_iff, decide_eq_true_iff, hstale]
  rfl

theorem Icd.result_void {c : Icd} (h : c.void = true) (imb : Option Nat) : (c.result imb).outcome = .void := by
  unfold Icd.result
  rw [if_pos h]

/-- The means of the open interval, floored (R105). -/
def Icd.meanWind (c : Icd) : Nat := c.sumWind / c.arrivals
def Icd.meanPower (c : Icd) : Nat := c.sumPower / c.arrivals
def Icd.meanTemp (c : Icd) : Int := c.sumTemp / (c.arrivals : Int)
def Icd.meanHum (c : Icd) : Nat := c.sumHum / c.arrivals

/-- The deficit of the open interval (R107). -/
def Icd.closingDeficit (c : Icd) : Nat := (deficit (expectedPower c.curve c.meanWind) c.meanPower).toNat

/-- The result of a close that is not void (R105 to R108). -/
theorem Icd.result_heard {c : Icd} (h : c.void = false) (imb : Option Nat) :
    c.result imb =
      ⟨if c.notProducing c.meanWind = .none then .production else .notProducing, c.notProducing c.meanWind, c.meanWind, c.meanPower,
        c.meanTemp, c.meanHum,
        if c.notProducing c.meanWind = .none then some ((expectedPower c.curve c.meanWind).toNat, c.closingDeficit) else none, imb,
        c.lastSeq⟩ := by
  unfold Icd.result
  rw [if_neg (by simp [h])]
  change (match c.notProducing c.meanWind with | .none => _ | r => _) = _
  cases c.notProducing c.meanWind <;> rfl

/-- The imbalance reads configuration, baseline and the conditions of the gear lines (R108). -/
theorem imbalance_congr {s t : State} (hconfig : t.icd.config = s.icd.config) (hbase : t.icd.base = s.icd.base) (hgcm : t.gcm = s.gcm) :
    imbalance t = imbalance s := by
  unfold imbalance
  rw [hconfig, hbase, hgcm]

/-! ### The judgement (R109 to R111) -/

/-- What the close of an interval makes of the machine. -/
def Icd.judgement (imb : Option Nat) (c : Icd) : Judgement :=
  if c.void then ⟨c.suspect, c.ice, c.clear, none⟩ else c.judge (c.result imb)

theorem closeInterval_stays {s : State} (h : (s.icd.judgement (imbalance s)).change = none) :
    closeInterval s = startPublish 8 [1] s (s.setIcd (s.icd.closed (s.icd.result (imbalance s)) (s.icd.judgement (imbalance s)))) := by
  unfold Icd.judgement at h ⊢
  unfold closeInterval publishing
  dsimp only
  rw [h]

theorem closeInterval_changes {s : State} {st : IcingState} {value : Int}
    (h : (s.icd.judgement (imbalance s)).change = some (st, value)) :
    closeInterval s = icingChange st value (fun c => c.closed (s.icd.result (imbalance s)) ⟨0, 0, 0, none⟩) s := by
  unfold Icd.judgement at h
  unfold closeInterval
  dsimp only
  rw [h]

/-- A count of R109 and R110 at a close: it moves where the interval produced. -/
def movedCount (produced met : Prop) [Decidable produced] [Decidable met] (n : Nat) : Nat :=
  if produced then (if met then min 60 (n + 1) else 0) else n

section Judge
variable {c : Icd} {r : IntervalResult}

theorem Icd.judge_off (h : c.state = .off) : c.judge r = ⟨c.suspect, c.ice, c.clear, none⟩ := by
  simp [Icd.judge, h]

theorem Icd.judge_clear (h : c.state = .clear) :
    c.judge r = ⟨c.suspect, c.ice, c.clear, if r.t ≤ c.config.tIce ∧ c.config.hIce ≤ r.rh then some (.watch, r.t) else none⟩ := by
  simp [Icd.judge, h]

theorem Icd.judge_iced (h : c.state = .iced) :
    c.judge r = ⟨c.suspect, c.ice, c.clear, if c.config.tThaw < r.t then some (.thaw, r.t) else none⟩ := by
  simp [Icd.judge, h]

theorem Icd.judge_thaw (h : c.state = .thaw) :
    c.judge r = ⟨c.suspect, c.ice, c.clear, if r.t ≤ c.config.tIce then some (.iced, r.t) else none⟩ := by
  simp [Icd.judge, h]

theorem Icd.judge_watch_warm (h : c.state = .watch) (ht : c.config.tIce + c.config.tHyst < r.t) :
    (c.judge r).change = some (.clear, r.t) := by
  simp [Icd.judge, h, ht]

theorem Icd.judge_suspect_imbalance (h : c.state = .suspect) {n : Nat} (hn : r.imb = some n) (hi : c.config.iIce ≤ n) :
    (c.judge r).change = some (IcingState.iced, (n : Int)) := by
  have hfilter : r.imb.filter (fun n => decide (c.config.iIce ≤ n)) = some n := by simp [hn, hi]
  simp [Icd.judge, h, hfilter]

variable {P : Prop} [Decidable P] {e d : Nat} (hprod : r.prod = if P then some (e, d) else none)
include hprod

theorem Icd.judge_watch (h : c.state = .watch) (ht : r.t ≤ c.config.tIce + c.config.tHyst) :
    c.judge r = ⟨movedCount P (c.config.dSuspect ≤ d) c.suspect, c.ice, c.clear,
      if P ∧ c.config.ns ≤ movedCount P (c.config.dSuspect ≤ d) c.suspect then some (.suspect, d) else none⟩ := by
  by_cases hp : P
  · rw [if_pos hp] at hprod
    simp [Icd.judge, h, Int.not_lt.2 ht, hprod, movedCount, hp, intervalCount, satAdd]
  · rw [if_neg hp] at hprod
    simp [Icd.judge, h, Int.not_lt.2 ht, hprod, movedCount, hp]

theorem Icd.countValue_produced (hp : P) : c.countValue r = d := by
  rw [if_pos hp] at hprod
  simp [Icd.countValue, hprod]

theorem Icd.judge_suspect (h : c.state = .suspect) (hn : ∀ n, r.imb = some n → n < c.config.iIce) :
    c.judge r = ⟨c.suspect, movedCount P (c.config.dIce ≤ d) c.ice, movedCount P (d < c.config.dSuspect) c.clear,
      if c.config.ni ≤ movedCount P (c.config.dIce ≤ d) c.ice then some (.iced, c.countValue r)
      else if c.config.ns ≤ movedCount P (d < c.config.dSuspect) c.clear then some (.watch, c.countValue r) else none⟩ := by
  have hfilter : r.imb.filter (fun n => decide (c.config.iIce ≤ n)) = none := by
    rw [Option.filter_eq_none_iff]
    intro n hr
    simpa using hn n hr
  by_cases hp : P
  · rw [if_pos hp] at hprod
    simp [Icd.judge, h, hfilter, hprod, movedCount, hp, intervalCount, satAdd]
  · rw [if_neg hp] at hprod
    simp [Icd.judge, h, hfilter, hprod, movedCount, hp]

end Judge

/-! ### The stages of the detector's tick (R104) -/

/-- A stage of the tick from `u` on which the icing machine still stands. -/
structure TickStage (u s : State) : Prop where
  state : s.icd.state = u.icd.state
  config : s.icd.config = u.icd.config
  cc : s.cc = (tickBegun u).cc
  length : s.lb.slots.length = u.lb.slots.length
  slot : tget s.lb.slots 0 = tget u.lb.slots 0
  reported : Reported (tickBegun u) s

/-- The same machine on a later stage that journals nothing of it. -/
theorem TickStage.trans {u s t : State} (h : TickStage u s) (hstate : t.icd.state = s.icd.state) (hconfig : t.icd.config = s.icd.config)
    (hcc : t.cc = s.cc) (hlb : t.lb = s.lb) (hreported : Reported s t) : TickStage u t :=
  ⟨hstate.trans h.state, hconfig.trans h.config, hcc.trans h.cc, by rw [hlb, h.length], by rw [hlb, h.slot],
    h.reported.trans hreported⟩

/-- The stage on which the tick has aged the record. -/
structure Freshened (u s : State) : Prop where
  stage : TickStage u s
  icd : s.icd = u.icd.aged
  gcm : s.gcm = u.gcm
  jobs : s.jobs = u.jobs

theorem freshened_freshnessTick {u w : State} (h : BesideIcing (tickBegun u) w) : Freshened u (freshnessTick w) where
  stage := by
    have hicd : (freshnessTick w).icd = u.icd.aged := by rw [freshnessTick_icd, h.icd]; simp
    exact ⟨by rw [hicd]; rfl, by rw [hicd]; rfl, by simp [h.cc], by simp [h.stands.slots], by simp [h.stands.slot],
      h.reported.trans (reported_freshnessTick w)⟩
  icd := by rw [freshnessTick_icd, h.icd]; simp
  gcm := by simp [h.gcm]
  jobs := by simp [h.jobs]

theorem handTick_freshened (order : TickOrder) (u : State) :
    ∃ f, Freshened u f ∧ BesideIcing (thawTick u.icd.thaw (intervalTick f)) (handTick order (tickBegun u)) := by
  obtain ⟨w, hbefore, hafter⟩ := handTick_icing order (tickBegun u)
  have hthaw : w.icd.thaw = u.icd.thaw := by rw [hbefore.icd]; simp
  rw [icingTick, hthaw] at hafter
  exact ⟨freshnessTick w, freshened_freshnessTick hbefore, hafter⟩

/-! ### The machine stands or moves (R109 to R112) -/

/-- The tick from `u` to `t` leaves the icing machine in its state, with these counts. -/
def IcingStays (suspect ice clear : Nat) (u t : State) : Prop :=
  t.icd.state = u.icd.state ∧ t.icd.suspect = suspect ∧ t.icd.ice = ice ∧ t.icd.clear = clear ∧ tget t.lb.slots 0 = tget u.lb.slots 0

/-- The tick from `u` to `t` takes the icing machine to a state: counts, thaw timer, journal and slot. -/
def IcingEnters (st : IcingState) (value : Int) (u t : State) : Prop :=
  t.icd.state = st ∧ t.icd.suspect = 0 ∧ t.icd.ice = 0 ∧ t.icd.clear = 0 ∧
    t.icd.thaw = (if st = .thaw then some (u.icd.config.thawTime * 60) else none) ∧
    Journals (icingEntry u.icd.state st value) u t ∧
    (u.lb.slots ≠ [] → IcingSlotSays u.icd.config.suspectCap st (tget t.lb.slots 0))

theorem TickStage.stays {u s t : State} (h : TickStage u s) (ht : BesideIcing s t) : IcingStays s.icd.suspect s.icd.ice s.icd.clear u t :=
  ⟨by rw [ht.icd, h.state], by rw [ht.icd], by rw [ht.icd], by rw [ht.icd], by rw [ht.stands.slot, h.slot]⟩

section Change
variable {u s t : State} {st : IcingState} {value : Int} {f : Icd → Icd} (h : TickStage u s) (ht : BesideIcing (icingChange st value f s) t)
include h ht

theorem TickStage.journals : Journals (icingEntry u.icd.state st value) u t := by
  obtain ⟨rest, -, hlogs⟩ := logs_icingChange st value f s
  rw [h.state] at hlogs
  exact journals_secondTick (first := []) h.reported hlogs ht.reported (by rw [ht.cc, ← h.cc]; simp)

/-- Slot ICING after a change of state; a withdrawal needs no table. -/
theorem TickStage.slotSays (hs : st = .iced ∨ st = .thaw ∨ st = .suspect → u.lb.slots ≠ []) :
    IcingSlotSays u.icd.config.suspectCap st (tget t.lb.slots 0) := by
  rw [ht.stands.slot, icingChange_lb, ← h.config]
  refine boardChange_icingPosting s.icd.config st fun hst hempty => hs hst (List.length_eq_zero_iff.1 ?_)
  rw [← h.length, hempty]
  rfl

/-- A change of state whose accompanying `f` leaves state and thaw timer, and the counts at 0. -/
theorem TickStage.enters (hf : ∀ c : Icd, (f c).state = c.state ∧ (f c).thaw = c.thaw)
    (hcounts : (f (s.icd.enter st)).suspect = 0 ∧ (f (s.icd.enter st)).ice = 0 ∧ (f (s.icd.enter st)).clear = 0) :
    IcingEnters st value u t := by
  have hicd : t.icd = f (s.icd.enter st) := ht.icd.trans (icingChange_icd st value f s)
  obtain ⟨hstate, hthaw⟩ := hf (s.icd.enter st)
  obtain ⟨hsuspect, hice, hclear⟩ := hcounts
  refine ⟨by rw [hicd, hstate]; rfl, by rw [hicd, hsuspect], by rw [hicd, hice], by rw [hicd, hclear], ?_, h.journals ht,
    fun hslots => h.slotSays ht fun _ => hslots⟩
  rw [hicd, hthaw, ← h.config]
  rfl

end Change

/-! ### The close of an interval (R104, R105) -/

/-- The tick from `u` to `t` closes an interval. -/
def ClosesInterval (u t : State) : Prop :=
  ∃ s, Freshened u s ∧ BesideIcing (thawTick u.icd.thaw (closeInterval s)) t

theorem handTick_closes {order : TickOrder} {u : State} (hjob : u.jobs.icing = true) (hsecond : u.icd.second = 9) :
    ClosesInterval u (handTick order (tickBegun u)) := by
  obtain ⟨s, hs, ht⟩ := handTick_freshened order u
  refine ⟨s, hs, ?_⟩
  have hclose : intervalTick s = closeInterval s := by
    unfold intervalTick
    rw [hs.jobs, if_pos hjob, if_pos (by rw [hs.icd]; exact (congrArg (· + 1) hsecond).ge)]
  rw [hclose] at ht
  exact ht

/-- The closed interval is stored and an empty one is open. -/
structure IntervalClosed (imb : Option Nat) (c d : Icd) : Prop where
  opened : d.second = 0 ∧ d.arrivals = 0 ∧ d.sumWind = 0 ∧ d.sumPower = 0 ∧ d.sumTemp = 0 ∧ d.sumHum = 0
  number : d.number = (c.number + 1) % 65536
  base : d.base = c.base
  last : d.last = c.result imb

theorem intervalClosed_closed (imb : Option Nat) (j : Judgement) (c d : Icd) (hnumber : d.number = c.number) (hbase : d.base = c.base) :
    IntervalClosed imb c (d.closed (c.result imb) j) :=
  ⟨⟨rfl, rfl, rfl, rfl, rfl, rfl⟩, congrArg (fun n => (n + 1) % 65536) hnumber, hbase, rfl⟩

theorem closeInterval_closes (s : State) : IntervalClosed (imbalance s) s.icd (closeInterval s).icd := by
  cases hchange : (s.icd.judgement (imbalance s)).change with
  | none =>
    rw [closeInterval_stays hchange]
    exact intervalClosed_closed _ _ _ _ rfl rfl
  | some x =>
    rw [closeInterval_changes (st := x.1) (value := x.2) hchange, icingChange_icd]
    exact intervalClosed_closed _ _ _ _ rfl rfl

/-- The thaw timer touches nothing of the interval. -/
theorem IntervalClosed.thawTick {imb : Option Nat} {c : Icd} {s : State} (h : IntervalClosed imb c s.icd) (before : Option Nat) :
    IntervalClosed imb c (thawTick before s).icd := by
  obtain ⟨hopened, hnumber, hbase, hlast⟩ := h
  unfold Machine.thawTick thawExpire; repeat' split
  · rw [icingChange_icd]; exact ⟨hopened, hnumber, hbase, hlast⟩
  · exact ⟨hopened, hnumber, hbase, hlast⟩
  · exact ⟨hopened, hnumber, hbase, hlast⟩
  · exact ⟨hopened, hnumber, hbase, hlast⟩

section Close
variable {u t : State} (h : ClosesInterval u t)
include h

theorem ClosesInterval.closed : IntervalClosed (imbalance u) u.icd.aged t.icd := by
  obtain ⟨s, hs, ht⟩ := h
  have hclosed := (closeInterval_closes s).thawTick u.icd.thaw
  rw [hs.icd, imbalance_congr hs.stage.config (by rw [hs.icd]; rfl) hs.gcm] at hclosed
  rw [ht.icd]
  exact hclosed

/-- A judgement that changes the state; a thaw timer that ran is stopped by it. -/
theorem ClosesInterval.enters {st : IcingState} {value : Int} (hchange : (u.icd.aged.judgement (imbalance u)).change = some (st, value))
    (hthaw : u.icd.thaw = none ∨ st ≠ .thaw) : IcingEnters st value u t := by
  obtain ⟨s, hs, ht⟩ := h
  rw [← imbalance_congr hs.stage.config (by rw [hs.icd]; rfl) hs.gcm, ← hs.icd] at hchange
  rw [closeInterval_changes hchange, thawTick_stopped] at ht
  · exact hs.stage.enters ht (fun _ => ⟨rfl, rfl⟩) ⟨rfl, rfl, rfl⟩
  · refine hthaw.imp_right fun hne => ?_
    rw [icingChange_icd]
    exact if_neg hne

/-- A judgement that moves counts alone leaves the thaw timer to its own step. -/
theorem ClosesInterval.unchanged (hchange : (u.icd.aged.judgement (imbalance u)).change = none) :
    ∃ s, TickStage u s ∧ BesideIcing (thawTick u.icd.thaw s) t ∧ s.icd.thaw = u.icd.thaw ∧
      s.icd.suspect = (u.icd.aged.judgement (imbalance u)).suspect ∧ s.icd.ice = (u.icd.aged.judgement (imbalance u)).ice ∧
      s.icd.clear = (u.icd.aged.judgement (imbalance u)).clear := by
  obtain ⟨s, hs, ht⟩ := h
  rw [← imbalance_congr hs.stage.config (by rw [hs.icd]; rfl) hs.gcm, ← hs.icd] at hchange ⊢
  rw [closeInterval_stays hchange] at ht
  refine ⟨_, ?_, ht, ?_, rfl, rfl, rfl⟩
  · exact hs.stage.trans rfl rfl rfl rfl (reported_of_eq rfl rfl rfl rfl)
  · change s.icd.thaw = _
    rw [hs.icd]
    rfl

/-- Without a running thaw timer the machine stands with the counts of the judgement. -/
theorem ClosesInterval.stays {suspect ice clear : Nat} (hj : u.icd.aged.judgement (imbalance u) = ⟨suspect, ice, clear, none⟩)
    (hthaw : u.icd.thaw = none) : IcingStays suspect ice clear u t := by
  obtain ⟨s, hs, ht, -, hsuspect, hice, hclear⟩ := h.unchanged (by rw [hj])
  rw [thawTick_stopped (.inl hthaw)] at ht
  rw [hj] at hsuspect hice hclear
  have hstays := hs.stays ht
  rwa [hsuspect, hice, hclear] at hstays

/-- A thaw timer that runs on past the close. -/
theorem ClosesInterval.thaws {suspect ice clear n : Nat} (hj : u.icd.aged.judgement (imbalance u) = ⟨suspect, ice, clear, none⟩)
    (hthaw : u.icd.thaw = some n) (hn : 1 < n) : IcingStays suspect ice clear u t ∧ t.icd.thaw = some (n - 1) := by
  obtain ⟨s, hs, ht, hsthaw, hsuspect, hice, hclear⟩ := h.unchanged (by rw [hj])
  rw [thawTick_running (by simp [hthaw]) (hsthaw.trans hthaw) hn] at ht
  rw [hj] at hsuspect hice hclear
  have hstays := (hs.trans (t := s.setIcd { s.icd with thaw := some (n - 1) }) rfl rfl rfl rfl (reported_setIcd _ s)).stays ht
  change IcingStays s.icd.suspect s.icd.ice s.icd.clear u t at hstays
  rw [hsuspect, hice, hclear] at hstays
  exact ⟨hstays, by rw [ht.icd]; rfl⟩

/-- A thaw that ends with the close (R111). -/
theorem ClosesInterval.thawEnds (hchange : (u.icd.aged.judgement (imbalance u)).change = none) (hstate : u.icd.state = .thaw)
    (hthaw : u.icd.thaw = some 1) : IcingEnters .clear 0 u t := by
  obtain ⟨s, hs, ht, hsthaw, -⟩ := h.unchanged hchange
  rw [thawTick_ends (by simp [hthaw]) (hsthaw.trans hthaw) le_rfl, thawExpire, if_pos (hs.state.trans hstate)] at ht
  exact hs.enters ht (fun _ => ⟨rfl, rfl⟩) ⟨rfl, rfl, rfl⟩

end Close

/-! ### The record becomes STALE, and the thaw ends (R100, R111) -/

theorem freshnessTick_stales {s : State} (hfresh : s.icd.fresh = .fresh) (hage : s.icd.age = 4) :
    Logs [operatingEntry .fresh .stale s.icd.op.sequence] s (freshnessTick s) ∧ FlagInEveryCopy .opStale (freshnessTick s) := by
  have hstales : freshnessTick s = ((s.setIcd { s.icd with age := satAdd 65535 s.icd.age 1, fresh := .stale }).raise .opStale).journal
      (operatingEntry .fresh .stale s.icd.op.sequence) := if_pos ⟨hfresh, by rw [hage]; rfl⟩
  rw [hstales]
  exact ⟨(logs_journal _ _).congr_left rfl rfl, fun p => by simp⟩

theorem handTick_stales {order : TickOrder} {u : State} (hfresh : u.icd.fresh = .fresh) (hage : u.icd.age = 4) :
    FlagInEveryCopy .opStale (handTick order (tickBegun u)) ∧
      Journals (operatingEntry .fresh .stale u.icd.op.sequence) u (handTick order (tickBegun u)) := by
  obtain ⟨w, hbefore, hafter⟩ := handTick_icing order (tickBegun u)
  have hicd : w.icd = u.icd := by rw [hbefore.icd]; simp
  obtain ⟨hlogs, hflag⟩ := freshnessTick_stales (s := w) (by rw [hicd]; exact hfresh) (by rw [hicd]; exact hage)
  have hrest : Reported (freshnessTick w) (handTick order (tickBegun u)) :=
    ((reported_intervalTick _).trans (reported_thawTick _ _)).trans hafter.reported
  rw [hicd] at hlogs
  exact ⟨fun p => hrest.flags p _ (hflag p), journals_secondTick (first := []) hbefore.reported hlogs hrest (by simp)⟩

/-- Every tick ages the record and leaves its content. -/
theorem handTick_record (order : TickOrder) (u : State) : (handTick order (tickBegun u)).icd.record = u.icd.aged.record := by
  obtain ⟨w, hbefore, hafter⟩ := handTick_icing order (tickBegun u)
  rw [hafter.icd, icingTick_record, hbefore.icd]
  simp

/-- The tick that brings the thaw timer to 0 with no interval closing. -/
theorem handTick_endsThaw {order : TickOrder} {u : State} (hthaw : u.icd.thaw = some 1) (hstate : u.icd.state = .thaw)
    (hopen : u.jobs.icing = false ∨ u.icd.second < 9) :
    ∃ s, TickStage u s ∧ BesideIcing (icingChange .clear 0 id s) (handTick order (tickBegun u)) := by
  obtain ⟨f, hf, ht⟩ := handTick_freshened order u
  have hcounts := intervalTick_counts (s := f) (by rw [hf.jobs, hf.icd]; exact hopen)
  have hstage : TickStage u (intervalTick f) := by
    rw [hcounts]
    exact hf.stage.trans rfl rfl rfl rfl (reported_setIcd _ f)
  have hran : (intervalTick f).icd.thaw = some 1 := by
    rw [hcounts, State.setIcd_icd, hf.icd]
    exact hthaw
  rw [thawTick_ends (by simp [hthaw]) hran le_rfl, thawExpire, if_pos (hstage.state.trans hstate)] at ht
  exact ⟨_, hstage, ht⟩

/-! ### The statement -/

/-- Settles O24: a row is a whole second tick; its close is judged by R109 to R112 on the result of R105 to R108. -/
theorem icingSecondTicksAndIntervals : Obligations.IcingSecondTicksAndIntervals := by
  constructor
  · intro order s u
    refine ⟨fun hfresh hage => ?_, fun hthaw hstate hopen => ?_, fun hno => congrArg Host.Outcome.next (if_neg hno),
      fun hno => congrArg Host.Outcome.next (if_neg hno)⟩
    · have hexec : exec (.operatingRecordStale order) s = .next (handTick order (tickBegun u)) :=
        congrArg Host.Outcome.next (if_pos ⟨hfresh, hage⟩)
      have hrecord := handTick_record order u
      simp only [Icd.record, Prod.mk.injEq] at hrecord
      obtain ⟨hop, hfresh', hage'⟩ := hrecord
      obtain ⟨hflag, hjournals⟩ := handTick_stales (order := order) hfresh hage
      exact ⟨_, hexec, onlyTouches_secondTick order u, hfresh'.trans (if_pos ⟨hfresh, hage⟩), by rw [hage', Icd.aged, hage]; rfl, hop, hflag,
        hjournals⟩
    · have hexec : exec (.thawTimerExpiry order) s = .next (handTick order (tickBegun u)) := congrArg Host.Outcome.next (if_pos hthaw)
      obtain ⟨v, hv, ht⟩ := handTick_endsThaw (order := order) hthaw hstate hopen
      obtain ⟨hclear, hsuspect, hice, hcount, hstopped, hjournals, -⟩ := hv.enters ht (fun _ => ⟨rfl, rfl⟩) ⟨rfl, rfl, rfl⟩
      rw [hstate] at hjournals
      exact ⟨_, hexec, onlyTouches_secondTick order u, hclear, hstopped, hsuspect, hice, hcount, hv.slotSays ht (by simp), hjournals⟩
  · intro order s u x c stale w meas temp rh exp deficit reason produces imb raised
    refine ⟨fun hno => congrArg Host.Outcome.next (if_neg hno), fun hjob hsecond => ?_⟩
    have hexec : exec (.intervalClose order) s = .next (handTick order (tickBegun u)) :=
      congrArg Host.Outcome.next (if_pos ⟨hjob, hsecond⟩)
    have hclose : ClosesInterval u (handTick order (tickBegun u)) := handTick_closes hjob hsecond
    obtain ⟨hopened, hnumber, hbase, hlast⟩ := hclose.closed
    obtain ⟨hsec, harrivals, hwind, hpower, htemp, hhum⟩ := hopened
    have htouches := onlyTouches_secondTick order u
    generalize handTick order (tickBegun u) = t at *
    refine ⟨t, hexec, htouches, hsec, harrivals, hwind, hpower, htemp, hhum, hnumber, hbase, fun hvoid => ?_, fun hheard hfresh => ?_⟩
    · have hv : x.aged.void = true := (Icd.aged_void_iff x).2 hvoid
      refine ⟨by rw [hlast]; exact Icd.result_void hv _, fun hthaw => ?_⟩
      obtain ⟨hstate, hsuspect, hice, hclear, -⟩ := hclose.stays (if_pos hv) hthaw
      exact ⟨hstate, hsuspect, hice, hclear⟩
    · have hv : x.aged.void = false := by
        rw [Bool.eq_false_iff, ne_eq, Icd.aged_void_iff]
        exact not_or.2 ⟨hheard, hfresh⟩
      have himb : imbalance u = imb := rfl
      have hresult := Icd.result_heard hv imb
      rw [himb] at hlast
      refine ⟨hlast.trans hresult, ?_⟩
      intro enters stays suspect ice clear byCount
      have hj : x.aged.judgement (imbalance u) = x.aged.judge ⟨if produces then .production else .notProducing, reason, w, meas, temp, rh,
          if produces then some (exp.toNat, deficit) else none, imb, x.lastSeq⟩ :=
        (if_neg (by simp [hv])).trans (congrArg x.aged.judge hresult)
      have hchange : ∀ {j : Judgement} {ch}, x.aged.judge _ = j → j.change = ch → (x.aged.judgement (imbalance u)).change = ch :=
        fun h h' => (congrArg Judgement.change (hj.trans h)).trans h'
      refine ⟨fun hthaw => ⟨fun h => ?_, fun h ht hh => ?_, fun h hn => ?_, fun h ht => ?_, fun h ht hp hn => ?_, fun h ht hn => ?_,
        fun h n hn hi => ?_, fun h hn hi => ?_, fun h hn hi hk => ?_, fun h hn hi hk => ?_, fun h ht => ?_, fun h ht => ?_⟩,
        fun h => ⟨fun ht => ?_, fun n ht hthaw hn => ?_, fun ht hthaw => ?_⟩⟩
      · exact hclose.stays (hj.trans (Icd.judge_off h)) hthaw
      · exact hclose.enters (hchange (Icd.judge_clear h) (if_pos ⟨ht, hh⟩)) (.inl hthaw)
      · exact hclose.stays ((hj.trans (Icd.judge_clear h)).trans (congrArg (Judgement.mk _ _ _) (if_neg hn))) hthaw
      · exact hclose.enters ((congrArg Judgement.change hj).trans (Icd.judge_watch_warm h ht)) (.inl hthaw)
      · exact hclose.enters (hchange (Icd.judge_watch rfl h ht) (if_pos ⟨hp, hn⟩)) (.inl hthaw)
      · exact hclose.stays ((hj.trans (Icd.judge_watch rfl h ht)).trans (congrArg (Judgement.mk _ _ _)
          (if_neg fun hc => Nat.not_le.2 (hn hc.1) hc.2))) hthaw
      · exact hclose.enters ((congrArg Judgement.change hj).trans (Icd.judge_suspect_imbalance h hn hi)) (.inl hthaw)
      · exact ⟨_, hclose.enters (hchange (Icd.judge_suspect rfl h hn) (if_pos hi)) (.inl hthaw), fun hp => Icd.countValue_produced rfl hp⟩
      · exact ⟨_, hclose.enters (hchange (Icd.judge_suspect rfl h hn) ((if_neg (Nat.not_le.2 hi)).trans (if_pos hk))) (.inl hthaw),
          fun hp => Icd.countValue_produced rfl hp⟩
      · exact hclose.stays ((hj.trans (Icd.judge_suspect rfl h hn)).trans (congrArg (Judgement.mk _ _ _)
          ((if_neg (Nat.not_le.2 hi)).trans (if_neg (Nat.not_le.2 hk))))) hthaw
      · exact hclose.enters (hchange (Icd.judge_iced h) (if_pos ht)) (.inl hthaw)
      · exact hclose.stays ((hj.trans (Icd.judge_iced h)).trans (congrArg (Judgement.mk _ _ _) (if_neg (Int.not_lt.2 ht)))) hthaw
      · exact hclose.enters (hchange (Icd.judge_thaw h) (if_pos ht)) (.inr (by decide))
      · exact hclose.thaws ((hj.trans (Icd.judge_thaw h)).trans (congrArg (Judgement.mk _ _ _) (if_neg (Int.not_le.2 ht)))) hthaw hn
      · exact hclose.thawEnds (hchange (Icd.judge_thaw h) (if_neg (Int.not_le.2 ht))) h hthaw

end Sys2Proof.Machine

/-! PROOFS. One change of the board: slots, least cap, generation, timer and journal (BoardShowsTheLeastCap). -/

namespace Sys2Proof.Machine

/-! ### A board in form (R121, R122, R125, R127, R128) -/

/-- Cap and governing slot are those of the active slots (R122). -/
structure Lb.Shows (b : Lb) : Prop where
  least : ∀ x ∈ b.slots, x.active = true → b.cap ≤ x.cap
  ungoverned : b.gov = none → b.cap = 100 ∧ ∀ x ∈ b.slots, x.active = false
  governed : ∀ i, b.gov = some i →
    i < 28 ∧ (tget b.slots i).active = true ∧ (tget b.slots i).cap = b.cap ∧
      ∀ j, j < i → (tget b.slots j).active = true → b.cap < (tget b.slots j).cap

/-- The board's part of `BoardOk`. -/
structure Lb.Ok (b : Lb) : Prop where
  length : b.slots.length = 28
  caps : ∀ x ∈ b.slots, x.cap ≤ 100
  shows : b.Shows
  tAck : 1 ≤ b.tAck ∧ b.tAck ≤ 120
  timer : ∀ n, b.timer = some n → 1 ≤ n ∧ n ≤ 120 ∧ b.cap < b.aCap

/-- The caps of line definitions lie in range (R42). -/
def LineCapsOk (defs : List LineDef) : Prop := ∀ d ∈ defs, d.alertCap ≤ 100 ∧ d.dangerCap ≤ 100

/-- The configurations' part of `BoardOk`: every cap a block may post lies in 0..100 (R42, R61, R84, R101). -/
structure CapsOk (s : State) : Prop where
  lines : LineCapsOk s.gcm.defs
  grid : s.ghm.config.gridCap ≤ 100
  coinc : s.cw.config.coincCap ≤ 100
  icing : s.icd.config.suspectCap ≤ 100

theorem boardOk_iff (s : State) : BoardOk s ↔ s.lb.Ok ∧ CapsOk s := by
  constructor
  · rintro ⟨hlength, hcaps, hlines, hgrid, hcoinc, hicing, hleast, hnone, hsome, htAck, htimer⟩
    exact ⟨⟨hlength, hcaps, ⟨hleast, hnone, hsome⟩, htAck, htimer⟩, ⟨hlines, hgrid, hcoinc, hicing⟩⟩
  · rintro ⟨⟨hlength, hcaps, ⟨hleast, hnone, hsome⟩, htAck, htimer⟩, ⟨hlines, hgrid, hcoinc, hicing⟩⟩
    exact ⟨hlength, hcaps, hlines, hgrid, hcoinc, hicing, hleast, hnone, hsome, htAck, htimer⟩

/-- A table whose entries all meet a bound that the default meets too. -/
theorem tget_cap_le {xs : List Slot} (h : ∀ x ∈ xs, x.cap ≤ 100) (k : Nat) : (tget xs k).cap ≤ 100 := by
  by_cases hk : k < xs.length
  · exact h _ (tget_mem xs k hk)
  · rw [tget_past (Nat.le_of_not_lt hk)]
    exact Nat.zero_le _

/-! ### The slots after the changes of one event (R121) -/

/-- A change that posts no cap above 100. -/
def SlotChange.InRange (c : SlotChange) : Prop := ∀ n k, c.act = .post n k → n ≤ 100

theorem Slot.apply_cap_le {c : SlotChange} (hc : c.InRange) (t : Nat) (u : Bool) {x : Slot} (hx : x.cap ≤ 100) :
    (x.apply t u c.act).cap ≤ 100 := by
  unfold SlotChange.InRange at hc
  cases hact : c.act with
  | post n k => exact hc n k hact
  | withdraw =>
    unfold Slot.apply
    dsimp only
    split
    · exact hx
    · exact hx

theorem applyChanges_cap_le (t : Nat) (u : Bool) {xs : List Slot} {cs : List SlotChange} (hc : ∀ c ∈ cs, c.InRange)
    (hx : ∀ x ∈ xs, x.cap ≤ 100) : ∀ x ∈ applyChanges t u xs cs, x.cap ≤ 100 := by
  unfold applyChanges
  induction cs generalizing xs with
  | nil => exact hx
  | cons c cs ih =>
    refine ih (fun d hd => hc d (List.mem_cons_of_mem _ hd)) fun x hmem => ?_
    rcases List.mem_or_eq_of_mem_set hmem with h | rfl
    · exact hx x h
    · exact Slot.apply_cap_le (hc c List.mem_cons_self) t u (tget_cap_le hx _)

/-- Of changes that name no slot twice, those of one change's slot are that change. -/
theorem filter_slot_eq_singleton {cs : List SlotChange} (h : (cs.map (·.slot)).Nodup) {c : SlotChange} (hc : c ∈ cs) :
    cs.filter (fun x => x.slot = c.slot) = [c] := by
  have hsingle := filter_flatMap_numbered SlotChange.slot SlotChange.slot (fun c => [c]) (xs := cs)
    (fun x _ b hb => by rw [List.mem_singleton.1 hb]) (List.pairwise_map.1 h) hc
  rwa [List.flatMap_singleton'] at hsingle

/-! ### The board recomputed (R122, R123, R127, R128) -/

/-- A recomputed board shows the least cap of its slots and the first slot that has it. -/
theorem Lb.recompute_shows (b : Lb) {slots : List Slot} (hlen : slots.length = 28) (hcaps : ∀ x ∈ slots, x.cap ≤ 100) :
    (b.recompute slots).Shows where
  least _ hx ha := effectiveCap_le hx ha
  ungoverned hnone := by
    have hspec := governingFrom_spec (effectiveCap slots) 0 slots
    rw [show governingFrom (effectiveCap slots) 0 slots = none from hnone] at hspec
    have hcap : effectiveCap slots = 100 := by
      rcases effectiveCap_attained slots with h | ⟨x, hx, ha, h⟩
      · exact h
      · exact absurd h (hspec x hx ha)
    refine ⟨hcap, fun x hx => ?_⟩
    by_contra hactive
    have ha : x.active = true := by simpa using hactive
    have hle := effectiveCap_le hx ha
    exact hspec x hx ha (hcap ▸ le_antisymm (hcaps x hx) (hcap ▸ hle))
  governed i hsome := by
    have hspec := governingFrom_spec (effectiveCap slots) 0 slots
    rw [show governingFrom (effectiveCap slots) 0 slots = some i from hsome] at hspec
    obtain ⟨-, hi, hactive, hcap, hfirst⟩ := hspec
    refine ⟨by simpa [hlen] using hi, hactive, hcap, fun j hj ha => ?_⟩
    have hmem : tget slots j ∈ slots := tget_mem slots j (by omega)
    exact lt_of_le_of_ne (effectiveCap_le hmem ha) (Ne.symm (hfirst j hj ha))

/-- The timer after a change runs from 1 to 120 seconds, below A_cap alone. -/
theorem Lb.timerAfter_range {b : Lb} (h : b.Ok) {cap n : Nat} (hn : b.timerAfter cap = some n) : 1 ≤ n ∧ n ≤ 120 ∧ cap < b.aCap := by
  unfold Lb.timerAfter at hn
  split at hn
  · cases hn
  next hcap =>
    have hrange : 1 ≤ n ∧ n ≤ 120 := by
      cases htimer : b.timer with
      | some m =>
        obtain ⟨hpos, hmax, -⟩ := h.timer m htimer
        obtain rfl : m = n := by simpa [htimer] using hn
        exact ⟨hpos, hmax⟩
      | none =>
        obtain ⟨-, rfl⟩ : cap < b.cap ∧ b.tAck = n := by simpa [htimer] using hn
        exact h.tAck
    exact ⟨hrange.1, hrange.2, Nat.lt_of_not_le hcap⟩

theorem Lb.Ok.recompute {b : Lb} (h : b.Ok) {slots : List Slot} (hlen : slots.length = 28) (hcaps : ∀ x ∈ slots, x.cap ≤ 100) :
    (b.recompute slots).Ok :=
  ⟨hlen, hcaps, b.recompute_shows hlen hcaps, h.tAck, fun _ hn => Lb.timerAfter_range h hn⟩

theorem boardChange_ok {cs : List SlotChange} {s : State} (h : s.lb.Ok) (hc : ∀ c ∈ cs, c.InRange) : (boardChange cs s).lb.Ok := by
  rw [boardChange_lb]; split
  · exact h
  · exact h.recompute (by simpa using h.length) (applyChanges_cap_le _ _ (fun c hm => hc c (List.mem_of_mem_filter hm)) h.caps)

/-! ### What a change leaves of the rest (R123, R128, R135) -/

/-- A change leaves the last expiry, too. -/
theorem boardChange_keeps_expiry (cs : List SlotChange) (s : State) :
    (boardChange cs s).lb.lastOutcome = s.lb.lastOutcome ∧ (boardChange cs s).lb.lastTime = s.lb.lastTime ∧
      (boardChange cs s).lb.lastUnset = s.lb.lastUnset := by
  rw [boardChange_lb]; split <;> simp [Lb.recompute]

/-- The generation moves with cap or governing slot (R123). -/
theorem boardChange_gen (cs : List SlotChange) (s : State) :
    (boardChange cs s).lb.gen =
      if (boardChange cs s).lb.cap = s.lb.cap ∧ (boardChange cs s).lb.gov = s.lb.gov then s.lb.gen
      else nextGeneration s.lb.gen s.lb.aGen := by
  rw [boardChange_lb]; split
  · simp
  · rfl

/-- The timer follows the new cap; where nothing changes that leaves it as a board in form has it (R127, R128). -/
theorem boardChange_timer {s : State} (h : s.lb.Ok) (cs : List SlotChange) :
    (boardChange cs s).lb.timer = s.lb.timerAfter (boardChange cs s).lb.cap := by
  rw [boardChange_lb]; split
  · cases htimer : s.lb.timer with
    | none => simp [Lb.timerAfter, htimer]
    | some n =>
      obtain ⟨-, -, hbelow⟩ := h.timer n htimer
      simp [Lb.timerAfter, htimer, hbelow]
  · rfl

/-- A change journals its BOARD entry and nothing else (R123). -/
theorem boardChange_ej (cs : List SlotChange) (s : State) :
    (boardChange cs s).ej = (s.journalAll (boardEntry s.lb (boardChange cs s).lb)).ej := by
  by_cases hnone : (cs.filter (SlotChange.effective s.lb.slots)).isEmpty = true
  · have hsame : boardChange cs s = s := if_pos hnone
    rw [hsame, boardEntry, if_pos ⟨rfl, rfl⟩]
    rfl
  · rw [boardChange_lb, if_neg hnone]
    unfold boardChange
    dsimp only
    rw [if_neg hnone]
    simp only [publishing_frame]
    exact State.journalAll_ej_congr _ rfl rfl rfl

theorem boardEntry_stands {a b : Lb} (h : ¬(b.cap ≠ a.cap ∨ b.gov ≠ a.gov)) : boardEntry a b = [] := by
  rw [not_or, not_not, not_not] at h
  exact if_pos h

theorem boardEntry_moves {a b : Lb} (h : b.cap ≠ a.cap ∨ b.gov ≠ a.gov) :
    boardEntry a b =
      [{ source := .lb, inst := b.gov, kind := .board, fromState := some a.cap, toState := some b.cap, value := b.gen }] :=
  if_neg fun hsame => h.elim (· hsame.1) (· hsame.2)

/-- No change of generation reaches the acknowledged one (R123). -/
theorem nextGeneration_ne (gen aGen : Nat) : nextGeneration gen aGen ≠ aGen := by
  unfold nextGeneration
  dsimp only
  split <;> omega

end Sys2Proof.Machine

/-! PROOFS. Every operation of a step as the board sees it: changes of slots, its own second tick, a written T_ack, and nothing else short of
ACK CAP and part reset (BoardShowsTheLeastCap, StopLineIsSafe). -/

namespace Sys2Proof.Machine

/-! ### The moves of the board -/

/-- What an operation can be to the board: nothing, with every configured cap still in range, or one of the three ways to move it. The changes of
an event post no cap above 100 where the configured caps are in range. -/
inductive BoardMove : State → State → Prop
  | stands {s t : State} : t.lb = s.lb → (CapsOk s → CapsOk t) → BoardMove s t
  | changes (cs : List SlotChange) (s : State) : (CapsOk s → ∀ c ∈ cs, c.InRange) → BoardMove s (boardChange cs s)
  | ticks (s : State) : BoardMove s (boardTick s)
  | retimes (n : Nat) (s : State) : 1 ≤ n ∧ n ≤ 120 → BoardMove s (s.setLb { s.lb with tAck := n })

/-- Such operations, one after the other. -/
def BoardMoves : State → State → Prop := Relation.ReflTransGen BoardMove

theorem BoardMoves.refl (s : State) : BoardMoves s s := Relation.ReflTransGen.refl

theorem BoardMoves.trans {s t u : State} (h : BoardMoves s t) (h' : BoardMoves t u) : BoardMoves s u := Relation.ReflTransGen.trans h h'

theorem BoardMove.moves {s t : State} (h : BoardMove s t) : BoardMoves s t := Relation.ReflTransGen.single h

/-- What every move keeps, a chain of moves keeps. -/
theorem BoardMoves.keeps {I : State → Prop} (hI : ∀ {s t}, BoardMove s t → I s → I t) {s t : State} (h : BoardMoves s t) (hs : I s) :
    I t := by
  induction h with
  | refl => exact hs
  | tail _ hmove ih => exact hI hmove ih

/-! ### Configured caps -/

theorem capsOk_congr {s t : State} (hgcm : t.gcm.defs = s.gcm.defs) (hghm : t.ghm.config = s.ghm.config) (hcw : t.cw.config = s.cw.config)
    (hicd : t.icd.config = s.icd.config) (h : CapsOk s) : CapsOk t :=
  ⟨by rw [hgcm]; exact h.lines, by rw [hghm]; exact h.grid, by rw [hcw]; exact h.coinc, by rw [hicd]; exact h.icing⟩

/-- An operation that leaves the board and every configuration. -/
theorem BoardMoves.stands {s t u : State} (h : BoardMoves s t) (hlb : u.lb = t.lb) (hgcm : u.gcm.defs = t.gcm.defs)
    (hghm : u.ghm.config = t.ghm.config) (hcw : u.cw.config = t.cw.config) (hicd : u.icd.config = t.icd.config) : BoardMoves s u :=
  h.trans (BoardMove.stands hlb (capsOk_congr hgcm hghm hcw hicd)).moves

/-- An operation whose frame names board and posters. -/
theorem boardMoves_of_frame {s t : State} (hlb : t.lb = s.lb) (hgcm : t.gcm = s.gcm) (hghm : t.ghm = s.ghm) (hcw : t.cw = s.cw)
    (hicd : t.icd = s.icd) : BoardMoves s t :=
  (BoardMoves.refl s).stands hlb (by rw [hgcm]) (by rw [hghm]) (by rw [hcw]) (by rw [hicd])

theorem inRange_post {k cap : Nat} {code : SlotCode} (h : cap ≤ 100) : SlotChange.InRange ⟨k, .post cap code⟩ := by
  intro n c hact
  injection hact with hn
  exact hn ▸ h

theorem inRange_withdraw (k : Nat) : SlotChange.InRange ⟨k, .withdraw⟩ := nofun

section Closure
variable {s t : State} (h : BoardMoves s t)
include h

theorem BoardMoves.change {cs : List SlotChange} (hc : CapsOk t → ∀ c ∈ cs, c.InRange) : BoardMoves s (boardChange cs t) :=
  h.trans (BoardMove.changes cs t hc).moves

theorem BoardMoves.startPublish (g : Nat) (recs : List Nat) (u : State) : BoardMoves s (startPublish g recs u t) :=
  h.stands rfl rfl rfl rfl rfl

theorem BoardMoves.journal (b : EntryBody) : BoardMoves s (t.journal b) :=
  h.stands (by simp) (by simp) (by simp) (by simp) (by simp)

theorem BoardMoves.journalAll (bs : List EntryBody) : BoardMoves s (t.journalAll bs) :=
  h.stands (by simp) (by simp) (by simp) (by simp) (by simp)

theorem BoardMoves.setGhm {x : Ghm} (hx : x.config = t.ghm.config) : BoardMoves s (t.setGhm x) := h.stands rfl rfl hx rfl rfl

theorem BoardMoves.setCw {x : Cw} (hx : x.config = t.cw.config) : BoardMoves s (t.setCw x) := h.stands rfl rfl rfl hx rfl

theorem BoardMoves.setIcd {x : Icd} (hx : x.config = t.icd.config) : BoardMoves s (t.setIcd x) := h.stands rfl rfl rfl rfl hx

theorem BoardMoves.post {cap : Nat} (hcap : CapsOk t → cap ≤ 100) (k : Nat) (code : SlotCode) :
    BoardMoves s (boardChange [⟨k, .post cap code⟩] t) :=
  h.change fun ht c hc => by rw [List.mem_singleton.1 hc]; exact inRange_post (hcap ht)

theorem BoardMoves.withdraw (k : Nat) : BoardMoves s (boardChange [⟨k, .withdraw⟩] t) :=
  h.change fun _ c hc => by rw [List.mem_singleton.1 hc]; exact inRange_withdraw k

/-- A withdrawal of what stands posted. -/
theorem BoardMoves.withdrawIf (b : Prop) [Decidable b] (k : Nat) :
    BoardMoves s (boardChange (if b then [⟨k, .withdraw⟩] else []) t) := by
  split
  · exact h.withdraw k
  · exact h.change nofun

end Closure

/-! ### Maintenance Schedule (R161, R168) -/

/-- The schedule posts caps below 100 alone. -/
theorem maintCap_lt {items : List Item} {c : Nat} (h : maintCap items = some c) : c < 100 := by
  have hfold : ∀ (xs : List Item) (a : Option Nat), (∀ c, a = some c → c < 100) → ∀ c, xs.foldl (fun a x =>
      if x.overdue && x.inForce.cap < 100 then some (match a with | some c => min c x.inForce.cap | none => x.inForce.cap)
      else a) a = some c → c < 100 := by
    intro xs
    induction xs with
    | nil => exact fun a ha => ha
    | cons x xs ih =>
      refine fun a ha => ih _ fun c hc => ?_
      dsimp only at hc
      split at hc
      next hx =>
        have hcap : x.inForce.cap < 100 := by simp at hx; exact hx.2
        cases a with
        | none => injection hc with hc; exact hc ▸ hcap
        | some b => injection hc with hc; exact hc ▸ (Nat.min_le_right _ _).trans_lt hcap
      next => exact ha c hc
  exact hfold items none nofun c h

theorem boardMoves_recomputeMaint (s : State) : BoardMoves s (recomputeMaint s) := by
  have hset : ∀ x, BoardMoves s (s.setMs x) := fun _ => boardMoves_of_frame rfl rfl rfl rfl rfl
  unfold recomputeMaint; repeat' split
  · exact .refl s
  next hcap _ => exact (hset _).post (fun _ => (maintCap_lt hcap).le) _ _
  · exact (hset _).withdraw _
  · exact .refl s
  · exact .refl s

theorem boardMoves_scheduleEvent {f : State → State} {s : State} (h : BoardMoves s (f s)) : BoardMoves s (scheduleEvent f s) := by
  have hposted := h.trans (boardMoves_recomputeMaint (f s))
  unfold scheduleEvent; dsimp only; split
  · exact hposted
  · exact hposted.startPublish _ _ _

theorem boardMoves_scheduleTick (s : State) : BoardMoves s (scheduleTick s) :=
  boardMoves_scheduleEvent (boardMoves_of_frame (by simp) (by simp) (by simp) (by simp) (by simp))

theorem boardMoves_takePulls (gs : List Pull) (s : State) : BoardMoves s (takePulls gs s) := by
  unfold takePulls; split
  · exact boardMoves_scheduleEvent (boardMoves_of_frame (by simp) (by simp) (by simp) (by simp) (by simp))
  · exact .refl s

theorem boardMoves_itemDone (n : Nat) (s : State) : BoardMoves s (itemDone n s).state := by
  unfold itemDone; repeat' split
  case h_2.isTrue => exact boardMoves_scheduleEvent (f := finishItem n _) (boardMoves_of_frame (by simp) (by simp) (by simp) (by simp) (by simp))
  all_goals exact .refl s

theorem boardMoves_itemDefer (n : Nat) (s : State) : BoardMoves s (itemDefer n s).state := by
  unfold itemDefer; dsimp only; repeat' split
  case h_2.isFalse.isFalse.isFalse =>
    exact boardMoves_scheduleEvent (f := postponeItem n _) (boardMoves_of_frame (by simp) (by simp) (by simp) (by simp) (by simp))
  all_goals exact .refl s

theorem boardMoves_enableMaint (s : State) : BoardMoves s (enableMaint s).state := by
  unfold enableMaint; repeat' split
  · exact .refl s
  · rw [accept_state]
    exact boardMoves_scheduleEvent (boardMoves_of_frame (by simp) (by simp) (by simp) (by simp) (by simp))
  · exact .refl s

theorem boardMoves_stopMaint (s : State) : BoardMoves s (stopMaint s) := by
  have hstopped : BoardMoves s ((s.setJobs { s.jobs with maint := false }).setMs { s.ms with posted := none }) :=
    boardMoves_of_frame rfl rfl rfl rfl rfl
  exact (hstopped.withdrawIf _ slotMaint).startPublish 13 _ s

/-! ### Coincidence Watch (R92, R94, R95) -/

theorem coincPosting_inRange {a b : Cw} (hb : b.config.coincCap ≤ 100) {c : SlotChange} (hc : c ∈ coincPosting a b) : c.InRange := by
  unfold coincPosting at hc
  split at hc
  · rw [List.mem_singleton.1 hc]; exact inRange_post hb
  · split at hc
    · rw [List.mem_singleton.1 hc]; exact inRange_withdraw _
    · cases hc

theorem boardMoves_coincEvent (cause : EvalCause) {f : Cw → Cw} {s : State} (hf : (f s.cw).config = s.cw.config) :
    BoardMoves s (coincEvent cause f s) := by
  unfold coincEvent; dsimp only
  refine (BoardMoves.change ?_ fun h c hc => coincPosting_inRange h.coinc hc).startPublish 7 coincRecords s
  split
  · exact ((BoardMoves.refl s).setCw hf).stands (by simp) (by simp) (by simp) (by simp [Cw.evaluated, Cw.show]) (by simp)
  · exact (BoardMoves.refl s).setCw hf

theorem boardMoves_coincTakeFrame (sd : Side) (v : Nat) (ls : List ListedLine) (s : State) : BoardMoves s (coincTakeFrame sd v ls s) :=
  boardMoves_coincEvent _ rfl

theorem boardMoves_coincTakeBlock (slots : List Nat) (s : State) : BoardMoves s (coincTakeBlock slots s) := boardMoves_coincEvent _ rfl

theorem boardMoves_enableCoinc (s : State) : BoardMoves s (enableCoinc s).state := by
  unfold enableCoinc; repeat' split
  case isFalse.isFalse.isFalse =>
    have hstarted : BoardMoves s ((s.setCw { s.cw.cleared with count := 0 }).setJobs { s.jobs with coinc := true }) :=
      (BoardMoves.refl s).stands rfl rfl rfl rfl rfl
    exact (hstarted.withdraw slotCoinc).startPublish 7 [1] s
  all_goals exact .refl s

theorem boardMoves_disableCoinc (s : State) : BoardMoves s (disableCoinc s).state := by
  unfold disableCoinc; split
  · have hwithdrawn := ((BoardMoves.refl s).setCw (x := { s.cw with liveLines := [], liveEntries := [] }) rfl).withdraw slotCoinc
    exact ((hwithdrawn.setCw (by rfl)).journalAll _).stands rfl rfl rfl rfl rfl
  · exact .refl s

theorem boardMoves_clearCoincidence (s : State) : BoardMoves s (clearCoincidence s).state := by
  unfold clearCoincidence; split
  · exact (((BoardMoves.refl s).setCw (by rfl)).journalAll _).startPublish 7 coincRecords s
  · exact .refl s

/-! ### Frames and gear lines (R51, R59) -/

theorem levelPosting_inRange {n : Nat} {d : LineDef} (h : d.alertCap ≤ 100 ∧ d.dangerCap ≤ 100) (lv : Level) :
    (levelPosting n d lv).InRange := by
  cases lv with
  | alert => exact inRange_post h.1
  | danger => exact inRange_post h.2
  | unrated | normal => exact inRange_withdraw _

theorem tget_lineCaps {defs : List LineDef} (h : LineCapsOk defs) (n : Nat) :
    (tget defs n).alertCap ≤ 100 ∧ (tget defs n).dangerCap ≤ 100 := by
  by_cases hn : n < defs.length
  · exact h _ (tget_mem defs n hn)
  · rw [tget_past (Nat.le_of_not_lt hn)]
    exact ⟨Nat.zero_le _, Nat.zero_le _⟩

/-- A completion posts caps of its lines' definitions alone. -/
theorem takeLines_posting_inRange {defs : List LineDef} (hd : LineCapsOk defs) {seq : Nat}
    {ls : List ListedLine} {conds : List Cond} {c : SlotChange} (h : c ∈ (takeLines defs seq ls conds).2.postings) : c.InRange := by
  induction ls using List.reverseRecOn with
  | nil => cases h
  | append_singleton ls l ih =>
    rw [takeLines_snoc, takeLine_eq rfl] at h
    rcases List.mem_append.1 h with hls | hl
    · exact ih hls
    · unfold ListedLine.postings at hl
      split at hl
      · cases hl
      · rw [List.mem_singleton.1 hl]
        exact levelPosting_inRange (tget_lineCaps hd _) _

theorem boardMoves_evaluateFrame (sd : Side) (f : Frame) (s : State) : BoardMoves s (evaluateFrame sd f s) := by
  have hstored : BoardMoves s (gcmEvaluated sd (evaluatedEngine sd f s).seq f.listed (resultsStored sd f s)) :=
    (BoardMoves.refl s).stands (by simp) (by simp [gcmEvaluated_gcm]) (by simp [resultsStored]) (by simp) (by simp)
  have hjudged : BoardMoves s (linesJudged sd f s) := by
    refine hstored.change fun h c hc => takeLines_posting_inRange (defs := s.gcm.defs) ?_ hc
    simpa [gcmEvaluated_gcm] using h.lines
  rw [evaluateFrame_eq]
  exact ((hjudged.trans (boardMoves_takePulls _ _)).trans (boardMoves_coincTakeFrame _ _ _ _)).startPublish _ _ s

theorem boardMoves_discardAs (sd : Side) (cause : DiscardCause) (f : Frame) (s : State) : BoardMoves s (discardAs sd cause f s) := by
  obtain ⟨hdefs, -⟩ := discardAs_levels sd cause f s
  exact (BoardMoves.refl s).stands (by simp) hdefs (by simp) (by simp) (by simp)

theorem boardMoves_stopGear (s : State) : BoardMoves s (stopGear s) := by
  obtain ⟨-, -, -, hlb⟩ := stopGear_lines s
  have hstopped : BoardMoves s (gearStopped s) := by
    refine ((BoardMoves.refl s).stands (by simp) (by simp [Gcm.disable]) (by simp) (by simp) (by simp)).change fun _ c hc => ?_
    obtain ⟨n, -, hn⟩ := List.mem_flatMap.1 hc
    dsimp only at hn
    split at hn
    · rw [List.mem_singleton.1 hn]; exact inRange_withdraw _
    · cases hn
  exact hstopped.stands hlb (by simp [gearStopped]) (by simp [gearStopped]) (by simp [gearStopped, Cw.show])
    (by simp [gearStopped])

theorem boardMoves_disableGear (s : State) : BoardMoves s (disableGear s).state := by
  unfold disableGear; repeat' split
  · exact .refl s
  · exact (boardMoves_stopGear s).stands rfl rfl rfl rfl rfl
  · exact .refl s

end Sys2Proof.Machine

/-! PROOFS. The moves of the board, continued: shaft lines, grid monitor, icing detector, clock, written records and commands
(BoardShowsTheLeastCap, StopLineIsSafe). -/

namespace Sys2Proof.Machine

/-! ### Written records (R42, R51, R61, R79, R84, R101, R125, R189) -/

theorem LineDef.write_caps (ms : List MaskedWord) {d : LineDef} (h : d.alertCap ≤ 100 ∧ d.dangerCap ≤ 100) :
    (d.write ms).alertCap ≤ 100 ∧ (d.write ms).dangerCap ≤ 100 := by
  unfold LineDef.write LineDef.order fieldHi fieldLo
  dsimp only
  constructor
  · split
    · exact Nat.min_le_left _ _
    · exact h.1
  · split
    · exact Nat.min_le_left _ _
    · exact h.2

theorem field_le_of_min {ms : List MaskedWord} {n k old new : Nat} (h : old ≤ 100) : field ms n k old (min 100 new) ≤ 100 := by
  unfold field
  split
  · exact Nat.min_le_left _ _
  · exact h

theorem boardMoves_writeLine (n : Nat) (ms : List MaskedWord) (s : State) : BoardMoves s (writeLine n ms s) := by
  refine (BoardMove.stands (by simp) fun h => ⟨fun d hd => ?_, by simpa using h.grid, by simpa using h.coinc, by simpa using h.icing⟩).moves
  have hd' : d ∈ tmod s.gcm.defs n (LineDef.write ms) := by simpa [writeLine] using hd
  rcases List.mem_or_eq_of_mem_set hd' with hmem | rfl
  · exact h.lines d hmem
  · exact LineDef.write_caps ms (tget_lineCaps h.lines n)

theorem boardMoves_writeGrid (ms : List MaskedWord) (s : State) : BoardMoves s (writeGrid ms s) :=
  (BoardMove.stands (s := s) (t := writeGrid ms s) rfl fun h => ⟨h.lines, field_le_of_min h.grid, h.coinc, h.icing⟩).moves

theorem boardMoves_writeWatch (ms : List MaskedWord) (s : State) : BoardMoves s (writeWatch ms s) :=
  (BoardMove.stands (s := s) (t := writeWatch ms s) rfl fun h => ⟨h.lines, h.grid, field_le_of_min h.coinc, h.icing⟩).moves

theorem boardMoves_writeIcing (ms : List MaskedWord) (s : State) : BoardMoves s (writeIcing ms s) := by
  refine (BoardMove.stands (by simp) fun h => ⟨by simpa using h.lines, by simpa using h.grid, by simpa using h.coinc, ?_⟩).moves
  rw [writeIcing_icd]
  exact field_le_of_min h.icing

theorem boardMoves_writeOperating (ms : List MaskedWord) (s : State) : BoardMoves s (writeOperating ms s) := by
  have hicd := (gearStands_operatingArrived ((s.setIcd { s.icd with op := s.icd.op.write ms }).raiseIf (s.icd.op.bad ms) .badValue)).icd
  exact (BoardMoves.refl s).stands (by simp) (by simp) (by simp) (by simp) (hicd.trans (by simp))

/-- A written T_ack lies in its range; an unwritten one stands (R125). -/
theorem boardMoves_writeBoard (ms : List MaskedWord) (s : State) : BoardMoves s (writeBoard ms s) := by
  unfold writeBoard field
  dsimp only
  split
  · refine (BoardMove.retimes _ s ?_).moves
    unfold clampNat
    omega
  · exact .refl s

theorem boardMoves_writeRecord (p : PortId) (g r : Nat) (ms : List MaskedWord) (s : State) : BoardMoves s (writeRecord p g r ms s) := by
  unfold writeRecord; repeat' split
  case h_2.isTrue => exact boardMoves_writeLine r ms s
  case h_3 => exact boardMoves_writeGrid ms s
  case h_4.isTrue => exact boardMoves_writeWatch ms s
  case h_5.isTrue => exact boardMoves_writeOperating ms s
  case h_6.isTrue => exact boardMoves_writeIcing ms s
  case h_6.isFalse.isTrue => exact (BoardMoves.refl s).setIcd rfl
  case h_7.isTrue => exact boardMoves_writeBoard ms s
  all_goals exact boardMoves_of_frame (by simp) (by simp) (by simp) (by simp) (by simp)

theorem boardMoves_applyRecords (p : PortId) (g : Nat) (buf : List BufferWord) (rs : List Nat) (s : State) :
    BoardMoves s (rs.foldl (applyRecord p g buf) s) := by
  induction rs generalizing s with
  | nil => exact .refl s
  | cons r rs ih =>
    refine BoardMoves.trans ?_ (ih _)
    unfold applyRecord; dsimp only; split
    · exact boardMoves_writeRecord _ _ _ _ _
    · exact .refl s

/-- A write posts caps of the configurations as it leaves them. -/
theorem writePostings_inRange {s t : State} (h : CapsOk t) {c : SlotChange} (hc : c ∈ writePostings s t) : c.InRange := by
  have hone : ∀ (b : Prop) [Decidable b] (k cap : Nat) (code : SlotCode), cap ≤ 100 →
      c ∈ (if b then [(⟨k, .post cap code⟩ : SlotChange)] else []) → c.InRange := by
    intro b _ k cap code hcap hc
    split at hc
    · rw [List.mem_singleton.1 hc]; exact inRange_post hcap
    · cases hc
  unfold writePostings at hc
  simp only [List.mem_append] at hc
  obtain ((hlines | hgrid) | hcoinc) | hicing := hc
  · rw [linePostings_eq] at hlines
    obtain ⟨n, -, hn⟩ := List.mem_flatMap.1 hlines
    have hcaps := tget_lineCaps h.lines n
    unfold linePosting at hn
    repeat' split at hn
    case h_1.isFalse | h_2.isFalse => rw [List.mem_singleton.1 hn]; exact levelPosting_inRange hcaps _
    all_goals cases hn
  · exact hone _ _ _ _ h.grid hgrid
  · exact hone _ _ _ _ h.coinc hcoinc
  · exact hone _ _ _ _ h.icing hicing

theorem boardMoves_completeWrite (p : PortId) (g : Nat) (buf : List BufferWord) (s : State) : BoardMoves s (completeWrite p g buf s) :=
  (boardMoves_applyRecords p g buf _ s).change fun h _ hc => writePostings_inRange h hc

theorem boardMoves_writeWhole (p : PortId) (g r : Nat) (ws : List MaskedWord) (s : State) : BoardMoves s (writeWhole p g r ws s) := by
  unfold writeWhole; dsimp only; repeat' split
  · exact .refl s
  · exact boardMoves_completeWrite _ _ _ s
  · exact boardMoves_of_frame rfl rfl rfl rfl rfl
  · exact .refl s

theorem boardMoves_completeTransaction (p : PortId) (s : State) : BoardMoves s (completeTransaction p s) := by
  have hclosed : BoardMoves s (s.setPort p (s.pi.get p).close) := boardMoves_of_frame rfl rfl rfl rfl rfl
  unfold completeTransaction; dsimp only; repeat' split
  · exact hclosed.trans (boardMoves_completeWrite _ _ _ _)
  · exact hclosed
  · exact hclosed

/-! ### Shaft lines (R4 to R14, R21) -/

/-! An event of a shaft line reaches of the gear lines their conditions alone. -/

@[simp] theorem discardFrame_defs (sd : Side) (cause : DiscardCause) (s : State) : (discardFrame sd cause s).gcm.defs = s.gcm.defs := by
  unfold discardFrame; split
  · exact (discardAs_levels sd cause _ s).1
  · rfl

@[simp] theorem setDirection_defs (rev : Bool) (s : State) : (setDirection rev s).gcm.defs = s.gcm.defs := by
  unfold setDirection directionToFrames; split <;> simp

@[simp] theorem anglePoint_defs (sd : Side) (index : Nat) (s : State) : (anglePoint sd index s).gcm.defs = s.gcm.defs := by
  unfold anglePoint angleToFrames; dsimp only; repeat' split
  all_goals simp [setFrame]

@[simp] theorem decodeEdge_defs (line : EncoderLine) (level : Bool) (s : State) : (decodeEdge line level s).gcm.defs = s.gcm.defs := by
  unfold decodeEdge countEdge; dsimp only; repeat' split
  all_goals simp

@[simp] theorem takeTooth_defs (level : Bool) (s : State) : (takeTooth level s).gcm.defs = s.gcm.defs := by
  unfold takeTooth; dsimp only; split <;> simp

@[simp] theorem slipIndex_defs (sd : Side) (s : State) : (slipIndex sd s).gcm.defs = s.gcm.defs := by
  unfold slipIndex slipAlone slipToFault; split
  · simp
  · cases sd <;> simp

@[simp] theorem standstillExpire_defs (sd : Side) (s : State) : (standstillExpire sd s).gcm.defs = s.gcm.defs := by
  simp [standstillExpire]

@[simp] theorem linkExpire_defs (s : State) : (linkExpire s).gcm.defs = s.gcm.defs := by
  unfold linkExpire; dsimp only; split <;> simp

theorem boardMoves_revolutionToFrames (sd : Side) (p v : Nat) (s : State) : BoardMoves s (revolutionToFrames sd p v s) := by
  have hstart : ∀ {t}, BoardMoves s t → BoardMoves s (tryStart sd v t) := fun h =>
    h.trans (boardMoves_of_frame (by simp) (by simp) (by simp) (by simp) (by simp))
  unfold revolutionToFrames; dsimp only; repeat' split
  · exact hstart (.refl s)
  · exact hstart (boardMoves_discardAs _ _ _ s)
  · exact hstart (boardMoves_discardAs _ _ _ s)
  · exact hstart (boardMoves_evaluateFrame _ _ s)
  · exact boardMoves_of_frame rfl rfl rfl rfl rfl

theorem boardMoves_revolutionEvent (sd : Side) (p v : Nat) (s : State) : BoardMoves s (revolutionEvent sd p v s) := by
  refine (boardMoves_revolutionToFrames sd p v s).trans (boardMoves_of_frame ?_ ?_ ?_ ?_ ?_)
  all_goals unfold revolutionEvent; cases sd <;> simp

theorem boardMoves_forwardIndex (sd : Side) (s : State) : BoardMoves s (forwardIndex sd s) := by
  by_cases hslip : IsSlip sd s
  · rw [forwardIndex_slip hslip]
    exact (BoardMoves.refl s).stands (by simp) (by simp) (by simp) (by simp) (by simp)
  · rw [forwardIndex_noSlip hslip]
    split
    · rw [closePeriod_eq]
      exact (boardMoves_of_frame (by simp [periodClosed]) (by simp [periodClosed]) (by simp [periodClosed]) (by simp [periodClosed])
        (by simp)).trans (boardMoves_revolutionEvent _ _ _ _)
    · exact boardMoves_of_frame rfl rfl rfl rfl rfl

/-- What follows an edge of any line of the shaft unit. -/
theorem boardMoves_edgeMeaning (l : SauLine) (level : Bool) (s : State) : BoardMoves s (edgeMeaning l level s) := by
  cases l with
  | a | b | t =>
    exact (BoardMoves.refl s).stands (by simp [edgeMeaning]) (by simp [edgeMeaning]) (by simp [edgeMeaning]) (by simp [edgeMeaning])
      (by simp [edgeMeaning])
  | z =>
    change BoardMoves s (takeIndex level s)
    unfold takeIndex; repeat' split
    · exact boardMoves_of_frame rfl rfl rfl rfl rfl
    · exact boardMoves_forwardIndex _ s
    · exact .refl s
  | lsz =>
    change BoardMoves s (takeLsIndex level s)
    unfold takeLsIndex; split
    · exact boardMoves_forwardIndex _ s
    · exact .refl s

theorem boardMoves_onEdge (l : SauLine) (level : Bool) (s : State) : BoardMoves s (onEdge l level (edgeMeaning l level) s) := by
  have hset : ∀ x : Sau, BoardMoves s (s.setSau x) := fun x => boardMoves_of_frame rfl rfl rfl rfl rfl
  unfold onEdge; dsimp only; split
  · exact (hset _).trans (boardMoves_edgeMeaning l level _)
  · exact hset _

/-! ### Grid Harmonic Monitor (R63 to R70, R79 to R82) -/

theorem conformancePosting_inRange {a b : Ghm} (hb : b.config.gridCap ≤ 100) {c : SlotChange} (hc : c ∈ conformancePosting a b) :
    c.InRange := by
  unfold conformancePosting at hc
  repeat' split at hc
  · cases hc
  · rw [List.mem_singleton.1 hc]; exact inRange_post hb
  · rw [List.mem_singleton.1 hc]; exact inRange_withdraw _

theorem boardMoves_evaluateBlock (s : State) : BoardMoves s (evaluateBlock s) := by
  unfold evaluateBlock; split
  · exact ((BoardMoves.refl s).setGhm (x := s.ghm.invalidBlock) (by rfl)).startPublish 6 blockRecords s
  · have hjudged := ((BoardMoves.refl s).setGhm (x := s.ghm.validBlock (s.ghm.block.slots.getD (List.replicate 16 0)))
      (by simp)).journalAll (conformanceReport s.ghm (s.ghm.validBlock (s.ghm.block.slots.getD (List.replicate 16 0))))
    refine ((hjudged.change fun h c hc => conformancePosting_inRange ?_ hc).startPublish 6 blockRecords s).trans
      (boardMoves_coincTakeBlock _ _)
    simpa using h.grid

theorem boardMoves_tryBlock (s : State) : BoardMoves s (tryBlock s) := by
  unfold tryBlock; split
  · exact boardMoves_evaluateBlock s
  · exact .refl s

theorem boardMoves_windowEvaluated (w : Window) (s : State) : BoardMoves s (windowEvaluated w s) :=
  (((BoardMoves.refl s).setGhm (by rfl)).startPublish 6 windowRecords s).trans (boardMoves_tryBlock _)

theorem boardMoves_windowDiscarded (cause : WindowCause) (s : State) : BoardMoves s (windowDiscarded cause s) := by
  unfold windowDiscarded; split
  · exact (((BoardMoves.refl s).setGhm (by rfl)).startPublish 6 windowRecords s).trans (boardMoves_tryBlock _)
  · exact .refl s

theorem boardMoves_countCycle (s : State) : BoardMoves s (countCycle s) := by
  unfold countCycle completeWindow; dsimp only; repeat' split
  · exact .refl s
  · exact (BoardMoves.refl s).setGhm rfl
  · exact boardMoves_windowDiscarded _ s
  · exact boardMoves_windowEvaluated _ s

theorem boardMoves_leaveLocked (cause : WindowCause) (s : State) : BoardMoves s (leaveLocked cause s) := by
  obtain ⟨-, hconfig⟩ := s.ghm.closeOutstanding_closes.frame
  exact ((BoardMoves.refl s).setGhm (by exact hconfig)).trans (boardMoves_windowDiscarded _ _)

theorem boardMoves_lockedEdge (s : State) : BoardMoves s (lockedEdge s) := by
  obtain ⟨-, hconfig⟩ := s.ghm.closeCycle_closes.frame
  unfold lockedEdge; dsimp only; split
  · exact (((BoardMoves.refl s).setGhm hconfig).trans (boardMoves_countCycle _)).setGhm (Ghm.openWindow_frame _ (Ghm.startCycle _ _)).2
  · exact (BoardMoves.refl s).setGhm (Ghm.openWindow_frame _ (Ghm.startCycle _ _)).2

theorem boardMoves_measuredEdge (p : Nat) (s : State) : BoardMoves s (measuredEdge p s) := by
  have hreport : BoardMoves s
      (lockReport s.ghm.lock (s.ghm.measure p).lock p (s.setGhm ((s.ghm.measure p).refer s.now))) :=
    (BoardMoves.refl s).stands (by simp) (by simp) (by simp; rfl) (by simp) (by simp)
  unfold measuredEdge; dsimp only; repeat' split
  · exact hreport.trans (boardMoves_lockedEdge _)
  · exact hreport.trans (boardMoves_leaveLocked _ _)
  · exact hreport

theorem boardMoves_takeZeroCross (s : State) : BoardMoves s (takeZeroCross s) := by
  unfold takeZeroCross; repeat' split
  · exact (BoardMoves.refl s).setGhm rfl
  · exact boardMoves_measuredEdge _ s
  · exact (BoardMoves.refl s).setGhm rfl

theorem boardMoves_lossExpire (s : State) : BoardMoves s (lossExpire s) := by
  have hstopped := (BoardMoves.refl s).setGhm (x := { s.ghm with loss := none, edgeRef := none, valid := 0, lock := .unlocked }) rfl
  have hreport : BoardMoves s (((s.setGhm { s.ghm with loss := none, edgeRef := none, valid := 0, lock := .unlocked }).raise
      .unlocked).journal (lockEntry s.ghm.lock .unlocked 0)) :=
    hstopped.stands (by simp) (by simp) (by simp) (by simp) (by simp)
  unfold lossExpire; dsimp only; repeat' split
  · exact hstopped
  · exact hreport.trans (boardMoves_leaveLocked _ _)
  · exact hreport

theorem boardMoves_takeGridFrame (ws : List LinkWord) (s : State) : BoardMoves s (takeGridFrame ws s) := by
  have hdrop : BoardMoves s (dropGridFrame s) := (BoardMoves.refl s).stands (by simp) (by simp) (by simp [dropGridFrame]) (by simp) (by simp)
  unfold takeGridFrame; repeat' split
  · exact (BoardMoves.refl s).setGhm rfl
  · exact hdrop
  · exact hdrop

theorem boardMoves_strobe (now : Nat) (x : StrobeGen) (s : State) : BoardMoves s (s.setGhm (s.ghm.strobe now x)) := by
  refine (BoardMoves.refl s).setGhm ?_
  obtain ⟨-, hconfig⟩ := s.ghm.closeOutstanding_closes.frame
  exact hconfig

theorem boardMoves_enableGrid (s : State) : BoardMoves s (enableGrid s).state := by
  unfold enableGrid; repeat' split
  · exact .refl s
  · exact .refl s
  · exact (BoardMoves.refl s).stands rfl rfl rfl rfl rfl

theorem Ghm.disable_config (g : Ghm) : g.disable.config = g.config := by
  unfold Ghm.disable; split <;> rfl

theorem boardMoves_stopGrid (s : State) : BoardMoves s (stopGrid s) := by
  have hstopped := ((BoardMoves.refl s).setGhm s.ghm.disable_config).journalAll (disableGridEntries s.ghm)
  exact ((hstopped.withdrawIf (s.ghm.exceeding = true) slotGrid).startPublish 6 (if s.ghm.window.isSome then windowRecords else [12]) s).stands
    (by simp [stopGrid]) (by simp [stopGrid])
    (by simp [stopGrid]) (by simp [stopGrid, coincForgetGrid, Cw.show]) (by simp [stopGrid])

theorem boardMoves_disableGrid (s : State) : BoardMoves s (disableGrid s).state := by
  unfold disableGrid; repeat' split
  · exact .refl s
  · exact (boardMoves_stopGrid s).stands rfl rfl rfl rfl rfl
  · exact .refl s

/-! ### Icing Detector (R99, R104, R112 to R118) -/

theorem icingPosting_inRange {c : IcingConfig} (h : c.suspectCap ≤ 100) (st : IcingState) : (icingPosting c st).InRange := by
  cases st with
  | iced | thaw => exact inRange_post (Nat.zero_le _)
  | suspect => exact inRange_post h
  | off | clear | watch => exact inRange_withdraw _

/-- The posting of an icing state, after a change that leaves board and configurations. -/
theorem BoardMoves.icingPosting {s t : State} (h : BoardMoves s t) {c : IcingConfig} (hc : c = t.icd.config) (st : IcingState) :
    BoardMoves s (boardChange [icingPosting c st] t) :=
  h.change fun ht x hx => by
    rw [List.mem_singleton.1 hx, hc]
    exact icingPosting_inRange ht.icing st

theorem boardMoves_icingChange (st : IcingState) (value : Int) {f : Icd → Icd} (s : State) (hf : ∀ c, (f c).config = c.config) :
    BoardMoves s (icingChange st value f s) := by
  have hentered := ((BoardMoves.refl s).setIcd (x := f (s.icd.enter st)) (hf _)).journal (icingEntry s.icd.state st value)
  exact (hentered.icingPosting (by simp [hf, Icd.enter]) st).startPublish 8 [1] s

theorem boardMoves_freshnessTick (s : State) : BoardMoves s (freshnessTick s) := by
  have hconfig : (freshnessTick s).icd.config = s.icd.config := by rw [freshnessTick_icd]; rfl
  exact (BoardMoves.refl s).stands (by simp) (by simp) (by simp) (by simp) hconfig

theorem boardMoves_closeInterval (s : State) : BoardMoves s (closeInterval s) := by
  unfold closeInterval; dsimp only; split
  · exact ((BoardMoves.refl s).setIcd (by rfl)).startPublish 8 [1] s
  · exact boardMoves_icingChange _ _ s fun _ => rfl

theorem boardMoves_intervalTick (s : State) : BoardMoves s (intervalTick s) := by
  unfold intervalTick; repeat' split
  · exact boardMoves_closeInterval s
  · exact (BoardMoves.refl s).setIcd rfl
  · exact .refl s

theorem boardMoves_thawTick (before : Option Nat) (s : State) : BoardMoves s (thawTick before s) := by
  unfold thawTick thawExpire; repeat' split
  · exact boardMoves_icingChange _ _ s fun _ => rfl
  · exact (BoardMoves.refl s).setIcd rfl
  · exact (BoardMoves.refl s).setIcd rfl
  · exact .refl s

theorem boardMoves_icingTick (s : State) : BoardMoves s (icingTick s) :=
  ((boardMoves_freshnessTick s).trans (boardMoves_intervalTick _)).trans (boardMoves_thawTick _ _)

theorem boardMoves_enableIcing (s : State) : BoardMoves s (enableIcing s).state := by
  unfold enableIcing; repeat' split
  · exact .refl s
  · exact .refl s
  · have hstarted : BoardMoves s ((s.setIcd (s.icd.enter .clear).start).setJobs { s.jobs with icing := true }) :=
      (BoardMoves.refl s).stands rfl rfl rfl rfl rfl
    exact ((hstarted.journal _).icingPosting (by simp; rfl) .clear).startPublish 8 [1] s

theorem boardMoves_disableIcing (s : State) : BoardMoves s (disableIcing s).state := by
  unfold disableIcing; split
  · have hstopped : BoardMoves s ((s.setIcd (s.icd.enter .off).reopen).setJobs { s.jobs with icing := false }) :=
      (BoardMoves.refl s).stands rfl rfl rfl rfl rfl
    exact ((hstopped.journal _).icingPosting (by simp; rfl) .off).startPublish 8 [1] s
  · exact .refl s

theorem boardMoves_icingReport (s : State) : BoardMoves s (icingReport s).state := by
  unfold icingReport; split
  · exact .refl s
  · exact .refl s
  · exact boardMoves_icingChange _ _ s fun _ => rfl

theorem boardMoves_icingRelease (s : State) : BoardMoves s (icingRelease s).state := by
  unfold icingRelease; repeat' split
  · exact .refl s
  · exact boardMoves_icingChange _ _ s fun _ => rfl
  · exact .refl s

theorem boardMoves_learnBaseline (s : State) : BoardMoves s (learnBaseline s).state := by
  unfold learnBaseline; split
  · exact .refl s
  · exact (((BoardMoves.refl s).setIcd (by rfl)).journal _).startPublish 8 [1] s

/-! ### The clock (R128, R137, R139, R143) -/

theorem boardMoves_handTick (order : TickOrder) (s : State) : BoardMoves s (handTick order s) := by
  have hms := boardMoves_scheduleTick
  have hicd := boardMoves_icingTick
  have hlb : ∀ s, BoardMoves s (boardTick s) := fun s => (BoardMove.ticks s).moves
  cases order with
  | icdLbMs => exact ((hicd s).trans (hlb _)).trans (hms _)
  | icdMsLb => exact ((hicd s).trans (hms _)).trans (hlb _)
  | lbIcdMs => exact ((hlb s).trans (hicd _)).trans (hms _)
  | lbMsIcd => exact ((hlb s).trans (hms _)).trans (hicd _)
  | msIcdLb => exact ((hms s).trans (hicd _)).trans (hlb _)
  | msLbIcd => exact ((hms s).trans (hlb _)).trans (hicd _)

theorem boardMoves_issueTick (order : TickOrder) (s : State) : BoardMoves s (issueTick order s) :=
  (boardMoves_of_frame (by simp) (by simp) (by simp) (by simp) (by simp)).trans (boardMoves_handTick order _)

theorem boardMoves_phaseTick (order : TickOrder) (s : State) : BoardMoves s (phaseTick order s) := by
  have hadvanced : BoardMoves s (s.advance (second - s.cc.phase)) := boardMoves_of_frame rfl rfl rfl rfl rfl
  have hbegun := hadvanced.stands (u := tickBegun (s.advance (second - s.cc.phase))) (by simp) (by simp) (by simp) (by simp) (by simp)
  rw [phaseTick_eq]
  exact hbegun.trans (boardMoves_handTick order _)

theorem boardMoves_alignTick (order : TickOrder) (s : State) : BoardMoves s (alignTick order s) := by
  have hzero : BoardMoves s (zeroPhase s) := boardMoves_of_frame rfl rfl rfl rfl rfl
  unfold alignTick; split
  · exact hzero.trans (boardMoves_issueTick order _)
  · exact hzero

theorem boardMoves_takePps (order : TickOrder) (s : State) : BoardMoves s (takePps order s) := by
  have haccept : BoardMoves s (s.setCc (s.cc.acceptPps s.now)) := boardMoves_of_frame rfl rfl rfl rfl rfl
  have halign := haccept.trans (boardMoves_alignTick order _)
  unfold takePps; dsimp only; repeat' split
  · exact halign.trans (boardMoves_of_frame (by simp) (by simp) (by simp) (by simp) (by simp))
  · exact halign
  · exact haccept

end Sys2Proof.Machine

/-! PROOFS. Every command as the board sees it, and what a step leaves of board and stop line (BoardShowsTheLeastCap, StopLineIsSafe). -/

namespace Sys2Proof.Machine

/-! ### Commands (R193) -/

/-- Every command but ACK CAP moves the board by its events alone. -/
theorem boardMoves_ownerAnswer (p : PortId) (arg : Word) {c : Command} (hc : c ≠ .ackCap) (s : State) :
    BoardMoves s (ownerAnswer p arg c s).state := by
  have hmaint : BoardMoves s (disableMaint s).state := by
    unfold disableMaint; split
    · exact boardMoves_stopMaint s
    · exact .refl s
  cases c with
  | enable j =>
    cases j with
    | shaft | gear =>
      exact boardMoves_of_frame (by simp [ownerAnswer]) (by simp [ownerAnswer]) (by simp [ownerAnswer]) (by simp [ownerAnswer])
        (by simp [ownerAnswer])
    | grid => exact boardMoves_enableGrid s
    | coinc => exact boardMoves_enableCoinc s
    | icing => exact boardMoves_enableIcing s
    | maint => exact boardMoves_enableMaint s
  | disable j =>
    cases j with
    | shaft =>
      exact boardMoves_of_frame (by simp [ownerAnswer]) (by simp [ownerAnswer]) (by simp [ownerAnswer]) (by simp [ownerAnswer])
        (by simp [ownerAnswer])
    | gear => exact boardMoves_disableGear s
    | grid => exact boardMoves_disableGrid s
    | coinc => exact boardMoves_disableCoinc s
    | icing => exact boardMoves_disableIcing s
    | maint => exact hmaint
  | clearCoincidence => exact boardMoves_clearCoincidence s
  | icingReport => exact boardMoves_icingReport s
  | icingRelease => exact boardMoves_icingRelease s
  | learnBaseline => exact boardMoves_learnBaseline s
  | ackCap => exact absurd rfl hc
  | itemDone => exact boardMoves_itemDone _ s
  | itemDefer => exact boardMoves_itemDefer _ s
  | restartRequest | clockArm | counterRestore | journalAdvance | attnMask =>
    exact boardMoves_of_frame (by simp [ownerAnswer]) (by simp [ownerAnswer]) (by simp [ownerAnswer]) (by simp [ownerAnswer])
      (by simp [ownerAnswer])

theorem boardMoves_writeResult (p : PortId) (raw arg : Word) (r : Reply) : BoardMoves r.state (writeResult p raw arg r) :=
  boardMoves_of_frame (by simp) (by simp) (by simp) (by simp) (by simp)

theorem boardMoves_takeControl {p : PortId} {canonical : Word} {ok : Word → Bool} {arg : Word} {body : State → Reply} {s : State}
    (h : BoardMoves s (body s).state) : BoardMoves s (takeControl p canonical ok arg body s) := by
  unfold takeControl; split
  · exact .refl s
  · exact h.trans (boardMoves_writeResult _ _ _ _)

theorem boardMoves_giveCommand (p : PortId) (arg : Word) {c : Command} (hc : c ≠ .ackCap) (s : State) :
    BoardMoves s (giveCommand c p arg (ownerAnswer p arg c) s) := by
  refine boardMoves_takeControl ?_
  unfold permitted; split
  · exact boardMoves_ownerAnswer p arg hc s
  · exact .refl s

/-! ### ACK CAP (R131) -/

@[simp] theorem acknowledge_lb (g : Nat) (s : State) : (acknowledge g s).lb = s.lb.acknowledged g := by
  unfold acknowledge; dsimp only; split
  · rfl
  · simp

/-- Of a delivered ACK CAP of the current generation the board keeps the acknowledgement; any other leaves it. -/
theorem boardMoves_ackCap (p : PortId) (arg : Word) (s : State) :
    BoardMoves s (giveCommand .ackCap p arg (ackCap arg.toNat) s) ∨
      ((s.pi.get p).role = .turbine ∧ arg.toNat = s.lb.gen ∧
        BoardMoves (s.setLb (s.lb.acknowledged s.lb.gen)) (giveCommand .ackCap p arg (ackCap arg.toNat) s)) := by
  by_cases hack : (s.pi.get p).role = .turbine ∧ arg.toNat = s.lb.gen
  · obtain ⟨hrole, hgen⟩ := hack
    unfold giveCommand takeControl; split
    · exact .inl (.refl s)
    · refine .inr ⟨hrole, hgen, BoardMoves.trans ?_ (boardMoves_writeResult _ _ _ _)⟩
      have hallowed : permitted .ackCap p (ackCap arg.toNat) s = accept (acknowledge s.lb.gen s) := by
        simp [permitted, Command.allows, hrole, ackCap, hgen]
      rw [hallowed]
      exact boardMoves_of_frame (by simp) (by simp) (by simp) (by simp) (by simp)
  · refine .inl (boardMoves_takeControl ?_)
    unfold permitted ackCap; repeat' split
    next hallows hgen => exact absurd ⟨by simpa [Command.allows] using hallows, hgen⟩ hack
    · exact .refl s
    · exact .refl s

/-! ### A step -/

/-- What a command leaves of the board: its events' moves, the board of a part reset, or the board that an ACK CAP of the current generation from
the TURBINE port has acknowledged. -/
inductive BoardOutcome (c : Instr) (s t : State) : Prop
  | moves : BoardMoves s t → BoardOutcome c s t
  | resets (a b d : Role) : c = .partReset a b d → BoardMoves State.reset t → BoardOutcome c s t
  | acks (dt : Nat) (p : PortId) (arg : Word) : c = .ackCap dt p arg → (s.pi.get p).role = .turbine → arg.toNat = s.lb.gen →
      BoardMoves (s.setLb (s.lb.acknowledged s.lb.gen)) t → BoardOutcome c s t

theorem exec_boardOutcome {c : Instr} {s t : State} (he : exec c s = .next t) : BoardOutcome c s t := by
  have hadvance : ∀ {dt}, BoardMoves s (s.advance dt) := boardMoves_of_frame rfl rfl rfl rfl rfl
  have hfrom : ∀ {t'}, BoardMoves s t' → .next t' = exec c s → BoardOutcome c s t := by
    intro t' hmoves he'
    obtain rfl : t' = t := by rw [he] at he'; injection he'
    exact .moves hmoves
  have hafter : ∀ {dt t'}, BoardMoves (s.advance dt) t' → .next t' = exec c s → BoardOutcome c s t := fun hmoves =>
    hfrom (hadvance.trans hmoves)
  have htick : ∀ (b : Prop) [Decidable b] (order : TickOrder), BoardMoves s (if b then phaseTick order s else s) := by
    intro b _ order
    split
    · exact boardMoves_phaseTick order s
    · exact .refl s
  have hedge : ∀ l dt level, c = edgeOf l dt level → BoardOutcome c s t := fun l dt level hc =>
    hafter (boardMoves_onEdge l level (s.advance dt)) (by rw [hc, exec_edgeOf])
  have hcontrol : ∀ k, controlOf c = some k → k.command ≠ .ackCap → BoardOutcome c s t := fun k hk hack =>
    hafter (boardMoves_giveCommand _ _ hack (s.advance k.dt)) (exec_control hk s).symm
  cases c with
  | ackCap dt p arg =>
    obtain rfl : giveCommand .ackCap p arg (ackCap arg.toNat) (s.advance dt) = t := by injection he
    rcases boardMoves_ackCap p arg (s.advance dt) with hmoves | ⟨hrole, hgen, hmoves⟩
    · exact .moves (hadvance.trans hmoves)
    · have hadvanced : BoardMoves (s.setLb (s.lb.acknowledged s.lb.gen))
          ((s.advance dt).setLb ((s.advance dt).lb.acknowledged (s.advance dt).lb.gen)) := boardMoves_of_frame rfl rfl rfl rfl rfl
      exact .acks dt p arg rfl hrole hgen (hadvanced.trans hmoves)
  | partReset a b d =>
    obtain rfl : partReset a b d s = t := by injection he
    exact .resets a b d rfl (boardMoves_of_frame rfl rfl rfl rfl rfl)
  | encoderEdge dt line level =>
    cases line with
    | a => exact hedge .a dt level rfl
    | b => exact hedge .b dt level rfl
  | indexEdge dt level => exact hedge .z dt level rfl
  | toothEdge dt level => exact hedge .t dt level rfl
  | lsIndexEdge dt level => exact hedge .lsz dt level rfl
  | standstillTimerExpiry sd =>
    cases hd : (s.sau.side sd).standstill with
    | none => exact hfrom (.refl s) (by simp only [exec, execStandstillTimerExpiry, hd])
    | some d =>
      exact hafter (dt := d - s.now) (t' := standstillExpire sd (s.advanceTo d))
        ((BoardMoves.refl _).stands (by simp) (by simp) (by simp) (by simp) (by simp))
        (by simp only [exec, execStandstillTimerExpiry, hd])
  | linkTimerExpiry =>
    cases hd : s.ocr.link.timer with
    | none => exact hfrom (.refl s) (by simp only [exec, execLinkTimerExpiry, hd])
    | some d =>
      exact hafter (dt := d - s.now) (t' := linkExpire (s.advanceTo d))
        ((BoardMoves.refl _).stands (by simp) (by simp) (by simp) (by simp) (by simp))
        (by simp only [exec, execLinkTimerExpiry, hd])
  | lossTimerExpiry =>
    cases hd : s.ghm.loss with
    | none => exact hfrom (.refl s) (by simp only [exec, execLossTimerExpiry, hd])
    | some d => exact hafter (boardMoves_lossExpire (s.advance (d - s.now))) (by simp only [exec, execLossTimerExpiry, hd]; rfl)
  | strobe =>
    cases hx : s.ghm.gen with
    | none => exact hfrom (.refl s) (by simp only [exec, execStrobe, hx])
    | some x =>
      cases hd : x.due with
      | none => exact hfrom (.refl s) (by simp only [exec, execStrobe, hx, hd])
      | some d => exact hafter (boardMoves_strobe _ x (s.advance (d - s.now))) (by simp only [exec, execStrobe, hx, hd]; rfl)
  | clockSetDeadline =>
    cases ha : s.cc.armed with
    | none => exact hfrom (.refl s) (by simp only [exec, execClockSetDeadline, ha])
    | some a =>
      exact hafter (dt := a.deadline - s.now) (t' := abandonClock (s.advanceTo a.deadline))
        (boardMoves_of_frame (by simp) (by simp) (by simp) (by simp) (by simp)) (by simp only [exec, execClockSetDeadline, ha])
  | gzxEdge dt rising =>
    refine hafter (dt := dt) (t' := if rising ∧ (s.advance dt).jobs.grid then takeZeroCross (s.advance dt) else s.advance dt) ?_ rfl
    split
    · exact boardMoves_takeZeroCross _
    · exact .refl _
  | gridFrame dt words =>
    refine hafter (dt := dt) (t' := if (s.advance dt).jobs.grid then takeGridFrame words (s.advance dt) else s.advance dt) ?_ rfl
    split
    · exact boardMoves_takeGridFrame _ _
    · exact .refl _
  | ppsEdge dt rising order =>
    refine hafter (dt := dt) (t' := _) ?_ rfl
    repeat' split
    · exact boardMoves_of_frame rfl rfl rfl rfl rfl
    · exact boardMoves_takePps order _
    · exact .refl _
  | secondTick order => exact hfrom (boardMoves_phaseTick order s) rfl
  | ackTimerExpiry order | thawTimerExpiry order | operatingRecordStale order | intervalClose order => exact hfrom (htick _ order) rfl
  | sampleSet dt | publishComplete dt | transactionStart dt | transactionHeader dt | headerWord dt | fillerWord dt
  | readDataWord dt | writeDataWord dt | commandWord dt | portReset dt | portResetRelease dt =>
    exact hafter (dt := dt) (boardMoves_of_frame (by simp) (by simp) (by simp) (by simp) (by simp)) rfl
  | recordWrite dt p => exact hafter (boardMoves_completeTransaction p (s.advance dt)) rfl
  | operatingArrival dt | statusWrite dt | shaftConfigurationWrite dt | gridConfigurationWrite dt | watchConfigurationWrite dt
  | icingConfigurationWrite dt => exact hafter (boardMoves_writeWhole _ _ _ _ (s.advance dt)) rfl
  | lineDefinitionWrite dt p n ws =>
    refine hafter (dt := dt) (t' := if n < 24 then writeWhole p 3 n ws (s.advance dt) else s.advance dt) ?_ rfl
    split
    · exact boardMoves_writeWhole _ _ _ _ _
    · exact .refl _
  | itemDefinitionWrite dt p n ws =>
    refine hafter (dt := dt) (t' := if n < 32 then writeWhole p 13 n ws (s.advance dt) else s.advance dt) ?_ rfl
    split
    · exact boardMoves_writeWhole _ _ _ _ _
    · exact .refl _
  | unknownCommand dt p command arg =>
    refine hafter (dt := dt) (t' := takeUnknown p command arg (s.advance dt)) ?_ rfl
    unfold takeUnknown; split
    · exact boardMoves_takeControl (.refl _)
    · exact .refl _
  | invalidJobCode dt p enable job arg =>
    refine hafter (dt := dt) (t' := takeNoJob p enable job arg (s.advance dt)) ?_ rfl
    unfold takeNoJob; split
    · exact boardMoves_takeControl (.refl _)
    · exact .refl _
  | _ => exact hcontrol _ rfl nofun

end Sys2Proof.Machine

/-! PROOFS. The board in form and the stop line after every step (BoardShowsTheLeastCap, StopLineIsSafe). -/

namespace Sys2Proof.Machine

/-! ### The board's own second tick (R128 to R130) -/

/-- The board after an expiry (R129, R130). -/
theorem ackExpire_lb (s : State) :
    (ackExpire s).lb = { s.lb with
      timer := none
      line := s.lb.line || decide (s.lb.cap = 0)
      lastOutcome := if s.lb.cap = 0 then .hardStop else .capUnacked
      lastTime := s.cc.time
      lastUnset := !s.cc.isSet } := by
  simp [ackExpire]

theorem boardTick_expires {s : State} (h : s.lb.timer = some 1) : boardTick s = ackExpire s := by
  unfold boardTick
  rw [h]
  rfl

/-- The board after a second tick: no timer stands still, one that runs on goes down by 1, and any other expires. -/
theorem boardTick_cases (s : State) :
    boardTick s = s ∨ (∃ n, s.lb.timer = some n ∧ 2 ≤ n ∧ boardTick s = s.setLb { s.lb with timer := some (n - 1) }) ∨
      boardTick s = ackExpire s := by
  cases htimer : s.lb.timer with
  | none => exact .inl (boardTick_stopped htimer)
  | some n =>
    by_cases hn : 2 ≤ n
    · exact .inr (.inl ⟨n, rfl, hn, boardTick_running htimer hn⟩)
    · refine .inr (.inr ?_)
      unfold boardTick
      rw [htimer]
      exact if_pos (by omega)

/-! ### A step of the queue -/

/-- A step stands still at an empty queue and else is its front command, on the queue's rest. -/
theorem step_next {s t : State} (h : step s = .next t) : t = s ∨ ∃ c rest, exec c { s with pending := rest } = .next t := by
  unfold step at h
  split at h
  · injection h with h
    exact .inl h.symm
  next c rest _ => exact .inr ⟨c, rest, h⟩

/-! ### The board in form (R122, R124, R127, R128) -/

theorem boardTick_ok {s : State} (h : s.lb.Ok) : (boardTick s).lb.Ok := by
  obtain ⟨hlength, hcaps, ⟨hleast, hnone, hsome⟩, htAck, htimer⟩ := h
  rcases boardTick_cases s with hs | ⟨n, hn, hpos, hs⟩ | hs
  · rw [hs]; exact ⟨hlength, hcaps, ⟨hleast, hnone, hsome⟩, htAck, htimer⟩
  · rw [hs]
    refine ⟨hlength, hcaps, ⟨hleast, hnone, hsome⟩, htAck, fun m hm => ?_⟩
    obtain ⟨-, hmax, hbelow⟩ := htimer n hn
    obtain rfl : n - 1 = m := Option.some.inj hm
    exact ⟨by omega, by omega, hbelow⟩
  · rw [hs, ackExpire_lb]
    exact ⟨hlength, hcaps, ⟨hleast, hnone, hsome⟩, htAck, nofun⟩

theorem Lb.Ok.acknowledged {b : Lb} (h : b.Ok) (g : Nat) : (b.acknowledged g).Ok :=
  ⟨h.length, h.caps, ⟨h.shows.least, h.shows.ungoverned, h.shows.governed⟩, h.tAck, nofun⟩

theorem CapsOk.setLb {s : State} (h : CapsOk s) (b : Lb) : CapsOk (s.setLb b) := ⟨h.lines, h.grid, h.coinc, h.icing⟩

theorem BoardMove.boardOk {s t : State} (h : BoardMove s t) (hs : BoardOk s) : BoardOk t := by
  obtain ⟨hlb, hcaps⟩ := (boardOk_iff s).1 hs
  rw [boardOk_iff]
  cases h with
  | stands hsame hkept => exact ⟨hsame ▸ hlb, hkept hcaps⟩
  | changes cs _ hrange => exact ⟨boardChange_ok hlb (hrange hcaps), capsOk_congr (by simp) (by simp) (by simp) (by simp) hcaps⟩
  | ticks => exact ⟨boardTick_ok hlb, capsOk_congr (by simp) (by simp) (by simp) (by simp) hcaps⟩
  | retimes n _ hn =>
    exact ⟨⟨hlb.length, hlb.caps, ⟨hlb.shows.least, hlb.shows.ungoverned, hlb.shows.governed⟩, hn, hlb.timer⟩, hcaps.setLb _⟩

theorem exec_boardOk {c : Instr} {s t : State} (hs : BoardOk s) (he : exec c s = .next t) : BoardOk t := by
  rcases exec_boardOutcome he with h | ⟨a, b, d, -, h⟩ | ⟨dt, p, arg, -, -, -, h⟩
  · exact h.keeps BoardMove.boardOk hs
  · exact h.keeps BoardMove.boardOk reset_boardOk
  · obtain ⟨hlb, hcaps⟩ := (boardOk_iff s).1 hs
    exact h.keeps BoardMove.boardOk ((boardOk_iff _).2 ⟨hlb.acknowledged _, hcaps.setLb _⟩)

/-! ### BoardShowsTheLeastCap -/

theorem boardChange_onlyTouches (cs : List SlotChange) (s : State) : OnlyTouches [.lb, .ej, .rep, .pub] s (boardChange cs s) := by
  simp [onlyTouches_iff]

/-- Settles O47: every step moves the board by its events' changes, its own tick, a written T_ack or an acknowledgement, which all keep it in form;
one change of the board, by the rules about it. -/
theorem boardShowsTheLeastCap : Obligations.BoardShowsTheLeastCap := by
  refine ⟨fun s t hs hstep => ?_, fun cs s => ?_⟩
  · rcases step_next hstep with rfl | ⟨c, rest, hexec⟩
    · exact hs
    · exact exec_boardOk (s := { s with pending := rest }) hs hexec
  · intro t stamp moves next hs hnodup hslots hrange
    obtain ⟨hlb, -⟩ := (boardOk_iff s).1 hs
    have hok : BoardOk t := (BoardMove.changes cs s fun _ => hrange).boardOk hs
    have hslot : ∀ c ∈ cs, tget t.lb.slots c.slot = (tget s.lb.slots c.slot).apply s.cc.time (!s.cc.isSet) c.act := fun c hc =>
      boardChange_slot s (by rw [hlb.length]; exact hslots c hc) (filter_slot_eq_singleton hnodup hc)
    obtain ⟨hline, haGen, haCap, htAck⟩ := boardChange_keeps cs s
    obtain ⟨houtcome, htime, hunset⟩ := boardChange_keeps_expiry cs s
    refine ⟨hok, boardChange_onlyTouches cs s, fun c hc n k hact => ?_, fun c hc hact => ⟨fun hinactive => ?_, fun hactive => ?_⟩,
      fun k => boardChange_other cs s k, fun hstands => ⟨?_, ?_⟩, fun hmoves => ⟨?_, ?_⟩, boardChange_timer hlb cs, haGen, haCap, hline,
      htAck, houtcome, htime, hunset⟩
    · rw [hslot c hc, hact]
      exact ⟨⟨rfl, rfl, rfl⟩, rfl, rfl⟩
    · rw [hslot c hc, hact]
      simp [Slot.apply, hinactive]
    · rw [hslot c hc, hact]
      simp [Slot.apply, hactive]
    · exact (boardChange_gen cs s).trans (if_pos (by simpa [moves] using hstands))
    · exact (boardChange_ej cs s).trans (by rw [boardEntry_stands hstands]; rfl)
    · exact (boardChange_gen cs s).trans (if_neg (by simpa [moves, imp_iff_not_or] using hmoves))
    · exact (boardChange_ej cs s).trans (by rw [boardEntry_moves hmoves]; rfl)

/-! ### StopLineIsSafe (R123, R129 to R131) -/

theorem BoardMove.stopSafe {s t : State} (h : BoardMove s t) (hs : StopSafe s) : StopSafe t := by
  cases h with
  | stands hsame _ => unfold StopSafe; rw [hsame]; exact hs
  | changes cs _ _ =>
    obtain ⟨hline, haGen, -⟩ := boardChange_keeps cs s
    unfold StopSafe
    rw [hline, haGen, boardChange_gen]
    split
    next hsame => rw [hsame.1]; exact hs
    next => exact fun _ => .inr (nextGeneration_ne _ _)
  | ticks =>
    rcases boardTick_cases s with hsame | ⟨n, -, -, hsame⟩ | hsame
    · rw [hsame]; exact hs
    · rw [hsame]; exact hs
    · unfold StopSafe
      rw [hsame, ackExpire_lb]
      intro hline
      rcases Bool.or_eq_true_iff.1 hline with hline | hcap
      · exact hs hline
      · exact .inl (of_decide_eq_true hcap)
  | retimes => exact hs

theorem acknowledged_stopSafe (g : Nat) (s : State) : StopSafe (s.setLb (s.lb.acknowledged g)) := fun hline =>
  .inl (of_decide_eq_true (Bool.and_eq_true_iff.1 hline).2)

theorem exec_stopSafe {c : Instr} {s t : State} (hs : StopSafe s) (he : exec c s = .next t) : StopSafe t := by
  rcases exec_boardOutcome he with h | ⟨a, b, d, -, h⟩ | ⟨dt, p, arg, -, -, -, h⟩
  · exact h.keeps BoardMove.stopSafe hs
  · exact h.keeps BoardMove.stopSafe reset_stopSafe
  · exact h.keeps BoardMove.stopSafe (acknowledged_stopSafe _ s)

/-- No event of a block and no second tick releases the line. -/
theorem BoardMove.line {s t : State} (h : BoardMove s t) (hs : s.lb.line = true) : t.lb.line = true := by
  cases h with
  | stands hsame _ => rw [hsame]; exact hs
  | changes cs _ _ =>
    obtain ⟨hline, -⟩ := boardChange_keeps cs s
    rw [hline]; exact hs
  | ticks =>
    rcases boardTick_cases s with hsame | ⟨n, -, -, hsame⟩ | hsame
    · rw [hsame]; exact hs
    · rw [hsame]; exact hs
    · rw [hsame, ackExpire_lb]; simp [hs]
  | retimes => exact hs

/-- Settles O48: the moves of the board neither reach an acknowledged generation nor release the line; an acknowledgement releases it at a cap
above 0. -/
theorem stopLineIsSafe : Obligations.StopLineIsSafe := by
  refine ⟨fun s t hs hstep => ?_, fun c s t hline he hreleased => ?_⟩
  · rcases step_next hstep with rfl | ⟨c, rest, hexec⟩
    · exact hs
    · exact exec_stopSafe (s := { s with pending := rest }) hs hexec
  · rcases exec_boardOutcome he with h | ⟨a, b, d, hc, -⟩ | ⟨dt, p, arg, hc, hrole, hgen, h⟩
    · exact absurd (h.keeps (I := fun s => s.lb.line = true) BoardMove.line hline) (by simp [hreleased])
    · exact .inl ⟨a, b, d, hc⟩
    · refine .inr ⟨dt, p, arg, hc, hrole, hgen, Nat.pos_of_ne_zero fun hcap => ?_⟩
      have hkept : (s.setLb (s.lb.acknowledged s.lb.gen)).lb.line = true := by simp [Lb.acknowledged, hline, hcap]
      exact absurd (h.keeps (I := fun s => s.lb.line = true) BoardMove.line hkept) (by simp [hreleased])

end Sys2Proof.Machine

/-! PROOFS. ACK CAP, and the second tick that expires the ack timer (AckTimerAndAckCap). -/

namespace Sys2Proof.Machine

/-! ### ACK CAP (R131, R135) -/

/-- An acknowledgement that changes A_gen, A_cap or the line (R131). -/
def Lb.AckMoves (b : Lb) (g : Nat) : Prop :=
  (b.acknowledged g).aGen ≠ b.aGen ∨ (b.acknowledged g).aCap ≠ b.aCap ∨ (b.acknowledged g).line ≠ b.line

/-- The ACK entry (R131). -/
def ackEntry (b : Lb) (g : Nat) : EntryBody :=
  { source := .lb, kind := .ack, fromState := some (twoCode b.line), toState := some (twoCode (b.acknowledged g).line), value := g }

theorem acknowledge_stands {g : Nat} {s : State} (h : ¬s.lb.AckMoves g) : acknowledge g s = s.setLb (s.lb.acknowledged g) := by
  unfold Lb.AckMoves at h
  rw [not_or, not_or, not_not, not_not, not_not] at h
  exact if_pos h

theorem acknowledge_moves {g : Nat} {s : State} (h : s.lb.AckMoves g) :
    acknowledge g s = startPublish 10 [1] s ((s.setLb (s.lb.acknowledged g)).journal (ackEntry s.lb g)) :=
  if_neg fun hsame => h.elim (· hsame.1) fun h => h.elim (· hsame.2.1) (· hsame.2.2)

theorem exec_ackCap {dt : Nat} {p : PortId} {arg raw : Word} {s : State} (hrole : (s.pi.get p).role = .turbine)
    (hd : Delivers p .ackCap raw s) :
    exec (.ackCap dt p arg) s = .next (writeResult p raw arg (ackCap arg.toNat (s.advance dt))) :=
  exec_delivered (i := .ackCap dt p arg) (k := ⟨dt, p, .ackCap, arg⟩) rfl hd (List.mem_singleton.2 hrole)

/-! ### The board's tick among the other takers (R128, log entry 6) -/

/-- The hard-stop line and the last expiry, which a change of the board leaves. -/
def Lb.expiry (b : Lb) : Bool × ExpiryOutcome × Nat × Bool := (b.line, b.lastOutcome, b.lastTime, b.lastUnset)

theorem boardChange_expiry (cs : List SlotChange) (s : State) : (boardChange cs s).lb.expiry = s.lb.expiry := by
  obtain ⟨hline, -⟩ := boardChange_keeps cs s
  obtain ⟨houtcome, htime, hunset⟩ := boardChange_keeps_expiry cs s
  simp [Lb.expiry, hline, houtcome, htime, hunset]

theorem icingTick_expiry (s : State) : (icingTick s).lb.expiry = s.lb.expiry := by
  have hclosed : (intervalTick (freshnessTick s)).lb.expiry = s.lb.expiry := by
    rcases intervalTick_board (freshnessTick s) with h | ⟨st, h, -⟩
    · rw [h]; simp
    · rw [h, boardChange_expiry]; simp
  rcases thawTick_board s.icd.thaw (intervalTick (freshnessTick s)) with h | ⟨-, h⟩
  · rw [icingTick, h, hclosed]
  · rw [icingTick, h, boardChange_expiry, hclosed]

theorem scheduleTick_expiry (s : State) : (scheduleTick s).lb.expiry = s.lb.expiry := by
  have hposted : ∀ cs x, (boardChange cs ((scheduleJudged s).setMs x)).lb.expiry = s.lb.expiry := fun cs x => by
    rw [boardChange_expiry]; simp
  rw [(scheduleTick_parts s).1]
  unfold recomputeMaint; repeat' split
  · simp
  · exact hposted _ _
  · exact hposted _ _
  · simp
  · simp

/-- The detector and the schedule are disabled and no thaw timer runs: neither hands the board anything at a tick. -/
structure TakersIdle (s : State) : Prop where
  icing : s.jobs.icing = false
  thaw : s.icd.thaw = none
  maint : s.jobs.maint = false

theorem TakersIdle.congr {s t : State} (h : TakersIdle s) (hjobs : t.jobs = s.jobs) (hthaw : t.icd.thaw = s.icd.thaw) : TakersIdle t :=
  ⟨by rw [hjobs]; exact h.icing, hthaw.trans h.thaw, by rw [hjobs]; exact h.maint⟩

/-- The detector or the schedule takes its tick: line and last expiry stand, and where both takers are idle the whole board. -/
structure BesideBoard (s t : State) : Prop where
  cc : t.cc = s.cc
  expiry : t.lb.expiry = s.lb.expiry
  idle : TakersIdle s → TakersIdle t ∧ t.lb = s.lb
  reported : Reported s t

theorem besideBoard_refl (s : State) : BesideBoard s s := ⟨rfl, rfl, fun h => ⟨h, rfl⟩, .refl s⟩

theorem BesideBoard.trans {s t u : State} (h : BesideBoard s t) (h' : BesideBoard t u) : BesideBoard s u where
  cc := h'.cc.trans h.cc
  expiry := h'.expiry.trans h.expiry
  idle hs := by
    obtain ⟨ht, hlb⟩ := h.idle hs
    obtain ⟨hu, hlb'⟩ := h'.idle ht
    exact ⟨hu, hlb'.trans hlb⟩
  reported := h.reported.trans h'.reported

theorem besideBoard_icingTick (s : State) : BesideBoard s (icingTick s) where
  cc := by simp
  expiry := icingTick_expiry s
  idle h := by
    obtain ⟨hlb, hicd⟩ := icingTick_ordinary (.inl h.icing) fun n hn => absurd (h.thaw.symm.trans hn) (nofun)
    refine ⟨h.congr (by simp) ?_, hlb⟩
    rw [hicd, h.thaw]
    rfl
  reported := reported_icingTick s

theorem besideBoard_scheduleTick (s : State) : BesideBoard s (scheduleTick s) where
  cc := by simp
  expiry := scheduleTick_expiry s
  idle h := ⟨h.congr (by simp) (by simp), scheduleTick_unposted (.inl h.maint)⟩
  reported := reported_scheduleTick s

/-- In any order the board's tick stands between ticks beside it, and in two of them it is the first. -/
theorem handTick_board (order : TickOrder) (s : State) :
    ∃ w, BesideBoard s w ∧ BesideBoard (boardTick w) (handTick order s) ∧ (order = .lbIcdMs ∨ order = .lbMsIcd → w = s) := by
  have hicd := besideBoard_icingTick
  have hms := besideBoard_scheduleTick
  cases order with
  | icdLbMs => exact ⟨icingTick s, hicd s, hms _, nofun⟩
  | icdMsLb => exact ⟨_, (hicd s).trans (hms _), besideBoard_refl _, nofun⟩
  | lbIcdMs => exact ⟨s, besideBoard_refl s, (hicd _).trans (hms _), fun _ => rfl⟩
  | lbMsIcd => exact ⟨s, besideBoard_refl s, (hms _).trans (hicd _), fun _ => rfl⟩
  | msIcdLb => exact ⟨_, (hms s).trans (hicd _), besideBoard_refl _, nofun⟩
  | msLbIcd => exact ⟨scheduleTick s, hms s, hicd _, nofun⟩

/-! ### The expiry (R129, R130) -/

theorem ackExpire_flag (s : State) : FlagInEveryCopy (if s.lb.cap = 0 then .hardStop else .capUnacked) (ackExpire s) := fun p => by
  simp [ackExpire]

theorem Reported.flagInEveryCopy {s t : State} (h : Reported s t) {f : Flag} (hf : FlagInEveryCopy f s) : FlagInEveryCopy f t := fun p =>
  h.flags p f (hf p)

/-- The tick that expires the ack timer, where the board takes it first. -/
theorem handTick_expires_first {order : TickOrder} {s : State} (htimer : s.lb.timer = some 1)
    (hfirst : order = .lbIcdMs ∨ order = .lbMsIcd) :
    (handTick order s).lb.expiry = (ackExpire s).lb.expiry ∧
      FlagInEveryCopy (if s.lb.cap = 0 then .hardStop else .capUnacked) (handTick order s) := by
  obtain ⟨w, -, hafter, hw⟩ := handTick_board order s
  obtain rfl := hw hfirst
  rw [boardTick_expires htimer] at hafter
  exact ⟨hafter.expiry, hafter.reported.flagInEveryCopy (ackExpire_flag w)⟩

/-- The tick that expires the ack timer, where the two other takers are idle. -/
theorem handTick_expires_idle {order : TickOrder} {s : State} (htimer : s.lb.timer = some 1) (hidle : TakersIdle s) :
    (handTick order s).lb = (ackExpire s).lb ∧
      FlagInEveryCopy (if s.lb.cap = 0 then .hardStop else .capUnacked) (handTick order s) := by
  obtain ⟨w, hbefore, hafter, -⟩ := handTick_board order s
  obtain ⟨hw, hlb⟩ := hbefore.idle hidle
  rw [boardTick_expires (hlb ▸ htimer)] at hafter
  obtain ⟨-, hlb'⟩ := hafter.idle (hw.congr (by simp) (by simp))
  refine ⟨?_, ?_⟩
  · rw [hlb', ackExpire_lb, ackExpire_lb, hlb, hbefore.cc]
  · rw [← hlb]
    exact hafter.reported.flagInEveryCopy (ackExpire_flag w)

theorem exec_ackTimerExpiry {order : TickOrder} {s : State} (h : s.lb.timer = some 1) :
    exec (.ackTimerExpiry order) s = .next (handTick order (tickBegun (s.advance (40000000 - s.cc.phase)))) :=
  (congrArg Host.Outcome.next (if_pos h)).trans (congrArg Host.Outcome.next (phaseTick_eq order s))

/-- Settles O25: the answer and the acknowledgement of ACK CAP; the board's tick among those of the other takers. -/
theorem ackTimerAndAckCap : Obligations.AckTimerAndAckCap := by
  refine ⟨fun dt p arg raw s => ?_, fun order s => ?_⟩
  · intro u b moves hrole hd
    have hexec := exec_ackCap (s := s) (dt := dt) (arg := arg) hrole hd
    rw [ackCap] at hexec
    refine ⟨fun hgen => ?_, fun hgen hstands => ?_, fun hgen hmoves => ?_⟩
    · rw [if_neg hgen] at hexec
      exact hexec
    · rw [if_pos hgen, hgen, acknowledge_stands (by exact hstands)] at hexec
      exact hexec
    · rw [if_pos hgen, hgen, acknowledge_moves (by exact hmoves)] at hexec
      refine ⟨_, hexec, ?_, ?_, ⟨(u.setLb b).entryOf (ackEntry u.lb u.lb.gen), ?_, rfl, rfl, rfl, rfl, rfl⟩,
        ⟨_, List.mem_append_right _ List.mem_cons_self, rfl, by simp [u]⟩, ?_⟩
      · simp [onlyTouches_iff, u]
      · simp [b, u, Lb.acknowledged]
      · exact State.journal_mem_self (u.setLb b) (ackEntry u.lb u.lb.gen)
      · exact State.answered_pi_congr (by simp [u])
  · intro u
    refine ⟨fun htimer => congrArg Host.Outcome.next (if_neg htimer), fun htimer => ?_⟩
    have hbegun : (tickBegun u).lb = u.lb := by simp
    have hcc : (handTick order (tickBegun u)).cc = (tickBegun u).cc := by simp
    have hlb := ackExpire_lb (tickBegun u)
    have htimer' : (tickBegun u).lb.timer = some 1 := by rw [hbegun]; exact htimer
    refine ⟨_, exec_ackTimerExpiry htimer, onlyTouches_secondTick order u, fun hfirst => ?_, fun hicing hthaw hmaint => ?_⟩
    · obtain ⟨hexpiry, hflag⟩ := handTick_expires_first htimer' hfirst
      rw [hlb, hbegun, ← hcc] at hexpiry
      rw [hbegun] at hflag
      simp only [Lb.expiry, Prod.mk.injEq] at hexpiry
      obtain ⟨hline, houtcome, htime, hunset⟩ := hexpiry
      exact ⟨hline, houtcome, htime, hunset, hflag⟩
    · obtain ⟨hboard, hflag⟩ := handTick_expires_idle (order := order) htimer'
        (TakersIdle.congr (s := u) ⟨hicing, hthaw, hmaint⟩ (by simp) (by simp))
      rw [hlb, hbegun, ← hcc] at hboard
      rw [hbegun] at hflag
      exact ⟨hboard, hflag⟩

end Sys2Proof.Machine

/-! PROOFS. JOURNAL ADVANCE, ATTN MASK, a port's write to its status record, its attention causes and line (ReportingCommands). -/

namespace Sys2Proof.Machine

/-! ### Bits of words (R199) -/

theorem ne_zero_of_bit {w i : Nat} {x : BitVec w} (h : x.getLsbD i = true) : x ≠ 0 := by
  rintro rfl
  simp at h

theorem exists_bit {w : Nat} {x : BitVec w} (h : x ≠ 0) : ∃ i < w, x.getLsbD i = true := by
  have hbit := BitVec.getLsbD_true_ctz_of_ne_zero h
  exact ⟨_, BitVec.lt_of_getLsbD hbit, hbit⟩

/-- A field of a word, as a number and as bits. -/
theorem bitsOf_eq (w : Word) (hi lo : Nat) : bitsOf w hi lo = (w.extractLsb hi lo).toNat := by
  simp [bitsOf, BitVec.extractLsb_toNat, Nat.shiftRight_eq_div_pow]

/-- Bits 13 to 4, which name no cause, are those of 3FF0h. -/
theorem uncaused_iff (arg : Word) : arg &&& 0x3FF0 = 0 ↔ arg.extractLsb 13 4 = 0 := by
  have hmask : ∀ i < 16, (0x3FF0 : Word).getLsbD i = (decide (4 ≤ i) && decide (i < 14)) := by decide
  constructor
  · intro h
    refine BitVec.eq_of_getLsbD_eq fun i hi => ?_
    have hi' : i < 10 := hi
    have hbit : (arg &&& 0x3FF0).getLsbD (4 + i) = false := by rw [h]; simp
    rw [BitVec.getLsbD_and, hmask _ (by omega)] at hbit
    have : arg.getLsbD (4 + i) = false := by simpa [show 4 + i < 14 by omega] using hbit
    simp [this]
  · intro h
    refine BitVec.eq_of_getLsbD_eq fun i hi => ?_
    rw [BitVec.getLsbD_and, hmask i hi]
    by_cases hfield : 4 ≤ i ∧ i < 14
    · have hbit : (arg.extractLsb 13 4).getLsbD (i - 4) = false := by rw [h]; simp
      have : arg.getLsbD i = false := by
        rw [BitVec.getLsbD_extractLsb, show 4 + (i - 4) = i by omega] at hbit
        simpa [show i - 4 < 10 by omega] using hbit
      simp [this]
    · have : (decide (4 ≤ i) && decide (i < 14)) = false := by simpa using hfield
      simp [this]

/-! ### ATTN MASK (R181) -/

theorem setWidth_four (arg : Word) : arg.setWidth 4 = arg.extractLsb 3 0 :=
  BitVec.eq_of_toNat_eq (by simp [BitVec.extractLsb_toNat])

theorem maskAfter_outside {arg : Word} (h : arg &&& 0x3FF0 ≠ 0) (m : BitVec 4) : maskAfter arg m = none := by
  refine if_pos fun hzero => h ((uncaused_iff arg).2 (BitVec.eq_of_toNat_eq ?_))
  rw [← bitsOf_eq, hzero]
  rfl

theorem uncaused_bitsOf {arg : Word} (h : arg &&& 0x3FF0 = 0) : bitsOf arg 13 4 = 0 := by
  rw [bitsOf_eq, (uncaused_iff arg).1 h]
  rfl

theorem op_bitsOf {arg : Word} {op : BitVec 2} (h : arg.extractLsb 15 14 = op) : bitsOf arg 15 14 = op.toNat := by
  rw [bitsOf_eq, h]

theorem maskAfter_set {arg : Word} (h : arg &&& 0x3FF0 = 0) (hop : arg.extractLsb 15 14 = 1#2) (m : BitVec 4) :
    maskAfter arg m = some (m ||| arg.extractLsb 3 0) := by
  simp [maskAfter, uncaused_bitsOf h, op_bitsOf hop, setWidth_four]

theorem maskAfter_clear {arg : Word} (h : arg &&& 0x3FF0 = 0) (hop : arg.extractLsb 15 14 = 2#2) (m : BitVec 4) :
    maskAfter arg m = some (m &&& ~~~(arg.extractLsb 3 0)) := by
  simp [maskAfter, uncaused_bitsOf h, op_bitsOf hop, setWidth_four]

theorem maskAfter_noOp {arg : Word} (hop : arg.extractLsb 15 14 = 0#2 ∨ arg.extractLsb 15 14 = 3#2) (m : BitVec 4) :
    maskAfter arg m = none := by
  rcases hop with hop | hop
  · simp [maskAfter, op_bitsOf hop]
  · simp [maskAfter, op_bitsOf hop]

theorem attnMask_refused {p : PortId} {arg : Word} {s : State}
    (h : arg &&& 0x3FF0 ≠ 0 ∨ arg.extractLsb 15 14 = 0#2 ∨ arg.extractLsb 15 14 = 3#2) :
    attnMask p arg s = refuse .badArgument s := by
  have hnone : maskAfter arg (s.rep.get p).mask = none := h.elim (maskAfter_outside · _) (maskAfter_noOp · _)
  unfold attnMask
  rw [hnone]

theorem attnMask_stores {p : PortId} {arg : Word} {s : State} {m : BitVec 4} (h : maskAfter arg (s.rep.get p).mask = some m) :
    attnMask p arg s = accept (s.setRepPort p { s.rep.get p with mask := m }) := by
  unfold attnMask
  rw [h]

/-! ### A write of fewer words than the record holds (R189) -/

theorem maskedAt_bufferRecord {buf : List BufferWord} {r len n : Nat} (h : n < len) :
    maskedAt (bufferRecord buf r len) n = bufferAt buf r n := by
  simp [maskedAt, bufferRecord, h]

/-- The words of a whole write stand first in its record's buffer. -/
theorem maskedAt_wholeBuffer {r len n : Nat} {ws : List Word} (hl : ws.length ≤ len) (hn : n < ws.length) :
    maskedAt (bufferRecord (wholeBuffer r len (whole ws)) r len) n = ⟨wordAt ws n, true, true⟩ := by
  rw [maskedAt_bufferRecord (by omega), bufferAt_whole r len n ws hl, maskedAt_whole hn]

/-- A write of the first words of one record completes as the write of that record. -/
theorem completeWrite_first {p : PortId} {g r : Nat} {ws : List Word} {s : State} (hr : r < recordCount g) (hne : ws ≠ [])
    (hl : ws.length ≤ recordLength g r) :
    completeWrite p g (wholeBuffer r (recordLength g r) (whole ws)) s =
      let ms := bufferRecord (wholeBuffer r (recordLength g r) (whole ws)) r (recordLength g r)
      boardChange (writePostings s (writeRecord p g r ms s)) (writeRecord p g r ms s) := by
  have hpos := List.length_pos_of_ne_nil hne
  have hrecord : (List.range (recordCount g)).filter
      (fun k => (wholeBuffer r (recordLength g r) (whole ws)).any (·.record = k)) = [r] := by
    have hnames : ∀ k, (wholeBuffer r (recordLength g r) (whole ws)).any (·.record = k) = decide (k = r) := fun k => by
      obtain ⟨w, ws, rfl⟩ := List.exists_cons_of_ne_nil hne
      by_cases hk : k = r
      · subst hk; simp [wholeBuffer, whole]
      · simp [wholeBuffer, hk, Ne.symm hk]
    simp only [hnames]
    rw [List.filter_eq, List.nodup_range.count, if_pos (List.mem_range.2 hr)]
    rfl
  have hwritten : anyWritten (bufferRecord (wholeBuffer r (recordLength g r) (whole ws)) r (recordLength g r)) = true := by
    refine List.any_eq_true.2 ⟨_, List.mem_map.2 ⟨0, List.mem_range.2 (by omega), bufferAt_whole r _ 0 ws hl⟩, ?_⟩
    rw [maskedAt_whole hpos]
    rfl
  unfold completeWrite
  rw [hrecord]
  simp only [List.foldl_cons, List.foldl_nil, applyRecord, hwritten, if_true]

/-! ### The status record (R176 to R178) -/

theorem MaskedWord.ones_whole (w : Word) : MaskedWord.ones ⟨w, true, true⟩ = w := by
  have hover := MaskedWord.over_whole w 0
  simp only [MaskedWord.over, BitVec.ofNat_eq_ofNat, BitVec.zero_and, BitVec.zero_or] at hover
  exact hover

/-- What a write of the five words that a port may write leaves of its status. -/
theorem RepPort.write_first {ms : List MaskedWord} {ws : List Word} (h : ∀ n < 5, maskedAt ms n = ⟨wordAt ws n, true, true⟩) (r : RepPort) :
    r.write ms = { r with
      advisory := r.advisory &&& ~~~((wordAt ws 0).setWidth 9)
      degraded := r.degraded &&& ~~~((wordAt ws 1).setWidth 6)
      protective := r.protective &&& ~~~((wordAt ws 2).setWidth 5)
      latch := r.latch && !(wordAt ws 3).getLsbD 0
      enAdvisory := (wordAt ws 3).getLsbD 4
      enDegraded := (wordAt ws 3).getLsbD 5
      enProtective := (wordAt ws 3).getLsbD 6
      gap := if wordAt ws 4 = 0 then 0 else r.gap } := by
  simp [RepPort.write, h, MaskedWord.ones_whole, MaskedWord.written, bitOf]

theorem portNumber_lt (p : PortId) : portNumber p < recordCount 15 := by
  cases p <;> decide

theorem exec_statusWrite {dt : Nat} {p : PortId} {ws : List Word} {s : State} (hl : ws.length = 5) (hready : PortReady p s) :
    exec (.statusWrite dt p (whole ws)) s =
      .next (writeStatus p (bufferRecord (wholeBuffer (portNumber p) 13 (whole ws)) (portNumber p) 13) (s.advance dt)) := by
  have hne : ws ≠ [] := by rintro rfl; cases hl
  have hready' : PortReady p (s.advance dt) := hready
  have hwrite := writeWhole_ready (g := 15) (r := portNumber p) (ws := whole ws) hready' (by simpa [whole] using hne) (portNumber_lt p)
    (decide_eq_true rfl)
  rw [completeWrite_first (portNumber_lt p) hne (by rw [hl]; exact (by decide : 5 ≤ 13))] at hwrite
  refine congrArg Host.Outcome.next (hwrite.trans ?_)
  exact boardChange_sameCaps rfl rfl rfl rfl

/-! ### Causes and line (R133, R179, R180) -/

/-- Whether the class of a flag is enabled (R178). -/
def RepPort.reports (r : RepPort) : Flag → Bool
  | .linkLost | .freqOut | .unlocked | .staleLines | .opStale | .calLimit => r.enDegraded
  | .hsFault | .lsFault | .capUnacked | .hardStop | .roleConflict => r.enProtective
  | _ => r.enAdvisory

/-- The flags of each class, in the order of their bits. -/
def advisoryFlags : List Flag :=
  [.slip, .setDropped, .ratioMismatch, .badOrder, .gridFrameDropped, .accessDenied, .badValue, .writeWhileEnabled, .clockSetAbandoned]

def degradedFlags : List Flag := [.linkLost, .freqOut, .unlocked, .staleLines, .opStale, .calLimit]

def protectiveFlags : List Flag := [.hsFault, .lsFault, .capUnacked, .hardStop, .roleConflict]

theorem hasFlag_advisory (r : RepPort) {i : Nat} (hi : i < 9) :
    r.hasFlag (advisoryFlags.getD i .slip) = r.advisory.getLsbD i ∧ r.reports (advisoryFlags.getD i .slip) = r.enAdvisory := by
  interval_cases i <;> exact ⟨rfl, rfl⟩

theorem hasFlag_degraded (r : RepPort) {i : Nat} (hi : i < 6) :
    r.hasFlag (degradedFlags.getD i .linkLost) = r.degraded.getLsbD i ∧ r.reports (degradedFlags.getD i .linkLost) = r.enDegraded := by
  interval_cases i <;> exact ⟨rfl, rfl⟩

theorem hasFlag_protective (r : RepPort) {i : Nat} (hi : i < 5) :
    r.hasFlag (protectiveFlags.getD i .hsFault) = r.protective.getLsbD i ∧
      r.reports (protectiveFlags.getD i .hsFault) = r.enProtective := by
  interval_cases i <;> exact ⟨rfl, rfl⟩

theorem RepPort.errorCause_eq (r : RepPort) :
    r.errorCause = true ↔
      (r.enAdvisory = true ∧ r.advisory ≠ 0) ∨ (r.enDegraded = true ∧ r.degraded ≠ 0) ∨ (r.enProtective = true ∧ r.protective ≠ 0) := by
  simp [RepPort.errorCause, or_assoc]

/-- ERROR stands while some flag of an enabled class is set (R179). -/
theorem RepPort.errorCause_iff (r : RepPort) : r.errorCause = true ↔ ∃ f, r.hasFlag f = true ∧ r.reports f = true := by
  rw [RepPort.errorCause_eq]
  constructor
  · rintro (⟨hen, hset⟩ | ⟨hen, hset⟩ | ⟨hen, hset⟩)
    · obtain ⟨i, hi, hbit⟩ := exists_bit hset
      obtain ⟨hflag, hreports⟩ := hasFlag_advisory r hi
      exact ⟨_, hflag.trans hbit, hreports.trans hen⟩
    · obtain ⟨i, hi, hbit⟩ := exists_bit hset
      obtain ⟨hflag, hreports⟩ := hasFlag_degraded r hi
      exact ⟨_, hflag.trans hbit, hreports.trans hen⟩
    · obtain ⟨i, hi, hbit⟩ := exists_bit hset
      obtain ⟨hflag, hreports⟩ := hasFlag_protective r hi
      exact ⟨_, hflag.trans hbit, hreports.trans hen⟩
  · rintro ⟨f, hflag, hreports⟩
    cases f with
    | linkLost | freqOut | unlocked | staleLines | opStale | calLimit => exact .inr (.inl ⟨hreports, ne_zero_of_bit hflag⟩)
    | hsFault | lsFault | capUnacked | hardStop | roleConflict => exact .inr (.inr ⟨hreports, ne_zero_of_bit hflag⟩)
    | _ => exact .inl ⟨hreports, ne_zero_of_bit hflag⟩

theorem ofBool_bits : ∀ journal error cap latch : Bool,
    let x := BitVec.ofBool latch ++ BitVec.ofBool cap ++ BitVec.ofBool error ++ BitVec.ofBool journal
    x.getLsbD 0 = journal ∧ x.getLsbD 1 = error ∧ x.getLsbD 2 = cap ∧ x.getLsbD 3 = latch := by
  decide

theorem State.causes_bits (s : State) (p : PortId) :
    (s.causes p).getLsbD 0 = decide (0 < pendingCount s.ej (s.rep.get p)) ∧ (s.causes p).getLsbD 1 = (s.rep.get p).errorCause ∧
      (s.causes p).getLsbD 2 = s.lb.capCause ∧ (s.causes p).getLsbD 3 = (s.rep.get p).latch := by
  exact ofBool_bits _ _ _ _

/-- The line is active while a cause stands whose mask bit is set (R180). -/
theorem State.attentionLine_iff (s : State) (p : PortId) :
    s.attentionLine p = true ↔ ∃ i < 4, (s.rep.get p).mask.getLsbD i = true ∧ (s.causes p).getLsbD i = true := by
  have hbits : ∀ i, (s.causes p &&& (s.rep.get p).mask).getLsbD i = true ↔
      (s.rep.get p).mask.getLsbD i = true ∧ (s.causes p).getLsbD i = true := fun i => by
    rw [BitVec.getLsbD_and, Bool.and_eq_true, and_comm]
  unfold State.attentionLine
  rw [bne_iff_ne]
  constructor
  · intro h
    obtain ⟨i, hi, hbit⟩ := exists_bit h
    exact ⟨i, hi, (hbits i).1 hbit⟩
  · rintro ⟨i, -, hbit⟩
    exact ne_zero_of_bit ((hbits i).2 hbit)

theorem exists_lt_four {P : Nat → Prop} : (∃ i < 4, P i) ↔ P 0 ∨ P 1 ∨ P 2 ∨ P 3 := by
  rw [Nat.exists_lt_succ_right, Nat.exists_lt_succ_right, Nat.exists_lt_succ_right, Nat.exists_lt_succ_right]
  simp [or_assoc]

/-! ### Word 5 of the status record -/

theorem statusImage_word (p : PortId) (s : State) :
    wordAt (image 15 (portNumber p) s) 5 =
      word ((s.rep.get p).mask.toNat + 256 * (s.causes p).toNat + (if s.attentionLine p then 32768 else 0)) := by
  cases p <;> rfl

/-- A word of mask, causes and line, read back. -/
theorem attentionWord_fields (m c : BitVec 4) (b : Bool) :
    let w := word (m.toNat + 256 * c.toNat + (if b then 32768 else 0))
    w.extractLsb 3 0 = m ∧ w.extractLsb 11 8 = c ∧ w.getLsbD 15 = b := by
  have hm := m.isLt
  have hc := c.isLt
  refine ⟨BitVec.eq_of_toNat_eq ?_, BitVec.eq_of_toNat_eq ?_, ?_⟩
  · simp only [word, BitVec.extractLsb_toNat, BitVec.toNat_ofNat]
    cases b <;> simp <;> omega
  · simp only [word, BitVec.extractLsb_toNat, BitVec.toNat_ofNat, Nat.shiftRight_eq_div_pow]
    cases b <;> simp <;> omega
  · simp only [word, BitVec.getLsbD_ofNat, Nat.testBit_eq_decide_div_mod_eq]
    cases b <;> simp <;> omega

/-! ### ReportingCommands -/

/-- Settles O32: the two commands reach their owners; the status write is one write of the port's own record; causes, line and word 5 read off. -/
theorem reportingCommands : Obligations.ReportingCommands := by
  refine ⟨fun dt p arg raw s => ?_, fun dt p advisory degraded protective enables gap s => ?_, fun p s => ?_⟩
  · intro u r outside
    have hgiver : ∀ c, c = .journalAdvance ∨ c = .attnMask → (s.pi.get p).role ∈ givers c := by
      rintro c (rfl | rfl) <;> cases (s.pi.get p).role <;> decide
    refine ⟨fun hd => ?_, fun hd => ?_⟩
    · exact exec_delivered (i := .journalAdvance dt p arg) (k := ⟨dt, p, .journalAdvance, arg⟩) rfl hd (hgiver _ (.inl rfl))
    · have hexec : exec (.attnMask dt p arg) s = .next (writeResult p raw arg (attnMask p arg u)) :=
        exec_delivered (i := .attnMask dt p arg) (k := ⟨dt, p, .attnMask, arg⟩) rfl hd (hgiver _ (.inr rfl))
      refine ⟨fun h => ?_, fun h hop => ?_, fun h hop => ?_⟩
      · rw [attnMask_refused h] at hexec
        exact hexec
      · rw [attnMask_stores (maskAfter_set (not_not.1 h) hop _)] at hexec
        exact hexec
      · rw [attnMask_stores (maskAfter_clear (not_not.1 h) hop _)] at hexec
        exact hexec
  · intro u r hready
    rw [exec_statusWrite (ws := [advisory, degraded, protective, enables, gap]) rfl hready, writeStatus,
      RepPort.write_first fun n hn => maskedAt_wholeBuffer (ws := [advisory, degraded, protective, enables, gap]) (by simp) hn]
    rfl
  · intro r journal error cap word
    obtain ⟨hjournal, herror, hcap, hlatch⟩ := s.causes_bits p
    have hjournal' : (s.causes p).getLsbD 0 = true ↔ journal := by rw [hjournal]; exact decide_eq_true_iff
    have herror' : (s.causes p).getLsbD 1 = true ↔ error := by
      rw [herror, RepPort.errorCause_iff]
      exact exists_congr fun f => and_congr_right fun _ => by cases f <;> rfl
    have hcap' : (s.causes p).getLsbD 2 = true ↔ cap := by rw [hcap]; simp [Lb.capCause, cap]
    obtain ⟨hmask, hcauses, hline⟩ := attentionWord_fields r.mask (s.causes p) (s.attentionLine p)
    rw [← statusImage_word] at hmask hcauses hline
    refine ⟨hjournal', herror', hcap', hlatch, ?_, hmask, hcauses, hline⟩
    rw [State.attentionLine_iff, exists_lt_four, hjournal', herror', hcap', hlatch]

end Sys2Proof.Machine

/-! PROOFS. The operating counters under every operation of a step (CountersNeverDecrease). -/

namespace Sys2Proof.Machine

/-! ### Counters that rise within their widths (R149) -/

/-- An operation keeps every operating counter within its width and lowers none (R149). -/
def CountersRise (s t : State) : Prop :=
  CountersOk s → CountersOk t ∧ s.cc.seconds ≤ t.cc.seconds ∧ s.cc.damage ≤ t.cc.damage ∧
    ∀ b, tget s.cc.bins b ≤ tget t.cc.bins b

theorem CountersRise.refl (s : State) : CountersRise s s := fun h => ⟨h, Nat.le_refl _, Nat.le_refl _, fun _ => Nat.le_refl _⟩

theorem CountersRise.trans {s t u : State} (h : CountersRise s t) (h' : CountersRise t u) : CountersRise s u := fun hs => by
  obtain ⟨ht, hseconds, hdamage, hbins⟩ := h hs
  obtain ⟨hu, hseconds', hdamage', hbins'⟩ := h' ht
  exact ⟨hu, hseconds.trans hseconds', hdamage.trans hdamage', fun b => (hbins b).trans (hbins' b)⟩

/-- Whatever else of the counters and the calendar moves. -/
theorem countersRise_of_same {s t : State} (hseconds : t.cc.seconds = s.cc.seconds) (hbins : t.cc.bins = s.cc.bins)
    (hdamage : t.cc.damage = s.cc.damage) (hbases : t.cc.baseBins.length = s.cc.baseBins.length) : CountersRise s t := by
  unfold CountersRise CountersOk
  rw [hseconds, hbins, hdamage, hbases]
  exact fun h => ⟨h, Nat.le_refl _, Nat.le_refl _, fun _ => Nat.le_refl _⟩

theorem countersRise_of_cc {s t : State} (h : t.cc = s.cc) : CountersRise s t :=
  countersRise_of_same (by rw [h]) (by rw [h]) (by rw [h]) (by rw [h])

theorem countersRise_advance (dt : Nat) (s : State) : CountersRise s (s.advance dt) := countersRise_of_same rfl rfl rfl rfl

theorem le_satAdd {top n : Nat} (h : n ≤ top) (k : Nat) : n ≤ satAdd top n k := Nat.le_min.2 ⟨h, Nat.le_add_right n k⟩

theorem satAdd_le (top n k : Nat) : satAdd top n k ≤ top := Nat.min_le_left _ _

/-! ### Counted revolutions and seconds (R147, R148) -/

/-- The torque bins are the sixteen of R148. -/
theorem torqueBin_lt (torque : Int) : torqueBin torque < 16 := Nat.lt_of_le_of_lt (Nat.min_le_left _ _) (by decide)

theorem countersRise_countRevolution (s : State) : CountersRise s (countRevolution s) := by
  rintro ⟨hseconds, hbins, hbases, hwidth, hdamage⟩
  obtain ⟨k, hk⟩ : ∃ k, torqueBin s.icd.op.torque = k := ⟨_, rfl⟩
  have hlt : k < s.cc.bins.length := by rw [hbins, ← hk]; exact torqueBin_lt _
  unfold countRevolution
  rw [hk]
  have htop : ∀ x ∈ tmod s.cc.bins k (satAdd max48 · 1), x ≤ 281474976710655 := fun x hx => by
    rcases List.mem_or_eq_of_mem_set hx with hx | rfl
    · exact hwidth x hx
    · exact satAdd_le max48 _ 1
  have hlen : (tmod s.cc.bins k (satAdd max48 · 1)).length = 16 := (tmod_length _ _ _).trans hbins
  have hrise : ∀ b, tget s.cc.bins b ≤ tget (tmod s.cc.bins k (satAdd max48 · 1)) b := fun b => by
    by_cases hb : b = k
    · rw [hb, tget_tmod_self _ _ _ hlt]
      exact le_satAdd (hwidth _ (tget_mem _ _ hlt)) 1
    · rw [tget_tmod_other _ _ hb]
  exact ⟨⟨hseconds, hlen, hbases, htop, satAdd_le max64 _ _⟩, Nat.le_refl _, le_satAdd hdamage _, hrise⟩

theorem countersRise_countSecond (s : State) : CountersRise s (countSecond s) := by
  unfold countSecond; split
  · rintro ⟨hseconds, hrest⟩
    exact ⟨⟨satAdd_le max32 _ 1, hrest⟩, le_satAdd hseconds 1, Nat.le_refl _, fun _ => Nat.le_refl _⟩
  · exact .refl s

/-! ### Shaft lines (R14, R148) -/

theorem countersRise_revolutionEvent (sd : Side) (p v : Nat) (s : State) : CountersRise s (revolutionEvent sd p v s) := by
  have hbefore : CountersRise s (revolutionToRatio sd (revolutionToFrames sd p v s)) := countersRise_of_cc (by simp)
  cases sd with
  | hs => exact hbefore.trans (countersRise_countRevolution _)
  | ls => exact hbefore

theorem countersRise_forwardIndex (sd : Side) (s : State) : CountersRise s (forwardIndex sd s) := by
  by_cases hslip : IsSlip sd s
  · rw [forwardIndex_slip hslip]
    exact countersRise_of_cc (by simp)
  · rw [forwardIndex_noSlip hslip]
    split
    · rw [closePeriod_eq]
      exact (countersRise_of_cc (by simp [periodClosed])).trans (countersRise_revolutionEvent _ _ _ _)
    · exact countersRise_of_cc rfl

theorem countersRise_edgeMeaning (l : SauLine) (level : Bool) (s : State) : CountersRise s (edgeMeaning l level s) := by
  cases l with
  | a | b | t => exact countersRise_of_cc (by simp [edgeMeaning])
  | z =>
    change CountersRise s (takeIndex level s)
    unfold takeIndex; repeat' split
    · exact countersRise_of_cc rfl
    · exact countersRise_forwardIndex _ s
    · exact .refl s
  | lsz =>
    change CountersRise s (takeLsIndex level s)
    unfold takeLsIndex; split
    · exact countersRise_forwardIndex _ s
    · exact .refl s

theorem countersRise_onEdge (l : SauLine) (level : Bool) (s : State) :
    CountersRise s (onEdge l level (edgeMeaning l level) s) := by
  have hset : ∀ x : Sau, CountersRise s (s.setSau x) := fun _ => countersRise_of_cc rfl
  unfold onEdge; dsimp only; split
  · exact (hset _).trans (countersRise_edgeMeaning l level _)
  · exact hset _

/-! ### The clock (R137 to R145) -/

theorem countersRise_issueTick (order : TickOrder) (s : State) : CountersRise s (issueTick order s) := by
  have hcalendar : CountersRise s (calendarTick s) :=
    countersRise_of_same (by rw [calendarTick_cc]) (by rw [calendarTick_cc]) (by rw [calendarTick_cc]) (by rw [calendarTick_cc])
  have hhanded : CountersRise (countSecond (calendarTick s)) (issueTick order s) := countersRise_of_cc (by simp [issueTick])
  exact (hcalendar.trans (countersRise_countSecond _)).trans hhanded

theorem countersRise_phaseTick (order : TickOrder) (s : State) : CountersRise s (phaseTick order s) := by
  have htaken : ∀ u, CountersRise u (secondTaken u) := fun u =>
    countersRise_of_same (by rw [secondTaken_cc]) (by rw [secondTaken_cc]) (by rw [secondTaken_cc]) (by rw [secondTaken_cc])
  exact ((countersRise_advance _ s).trans (htaken _)).trans (countersRise_issueTick order _)

theorem countersRise_alignTick (order : TickOrder) (s : State) : CountersRise s (alignTick order s) := by
  have hzero : CountersRise s (zeroPhase s) := countersRise_of_same rfl rfl rfl rfl
  unfold alignTick; split
  · exact hzero.trans (countersRise_issueTick order _)
  · exact hzero

theorem countersRise_loadClock (value : Nat) (s : State) : CountersRise s (loadClock value s) :=
  countersRise_of_same (by simp [loadClock]) (by simp [loadClock]) (by simp [loadClock]) (by simp [loadClock])

theorem countersRise_takePps (order : TickOrder) (s : State) : CountersRise s (takePps order s) := by
  have haccept : CountersRise s (s.setCc (s.cc.acceptPps s.now)) := countersRise_of_same rfl rfl rfl rfl
  have halign := haccept.trans (countersRise_alignTick order _)
  unfold takePps; dsimp only; repeat' split
  · exact halign.trans (countersRise_loadClock _ _)
  · exact halign
  · exact haccept

theorem countersRise_abandonClock (s : State) : CountersRise s (abandonClock s) :=
  countersRise_of_same (by simp [abandonClock]) (by simp [abandonClock]) (by simp [abandonClock]) (by simp [abandonClock])

/-! ### Written records (R146, R150, R189) -/

/-- A written restore staging record keeps its sixteen bases. -/
theorem writeRestore_baseBins_length (ms : List MaskedWord) (s : State) :
    (writeRestore ms s).cc.baseBins.length = s.cc.baseBins.length := by
  simp [writeRestore, fieldWide]

theorem countersRise_writeRecord (p : PortId) (g r : Nat) (ms : List MaskedWord) (s : State) :
    CountersRise s (writeRecord p g r ms s) := by
  unfold writeRecord; repeat' split
  case h_8.isTrue => exact countersRise_of_same rfl rfl rfl rfl
  case h_9.isTrue => exact countersRise_of_same rfl rfl rfl rfl
  case h_9.isFalse.isTrue => exact countersRise_of_same rfl rfl rfl (writeRestore_baseBins_length ms s)
  all_goals exact countersRise_of_cc (by simp)

theorem countersRise_applyRecords (p : PortId) (g : Nat) (buf : List BufferWord) (rs : List Nat) (s : State) :
    CountersRise s (rs.foldl (applyRecord p g buf) s) := by
  induction rs generalizing s with
  | nil => exact .refl s
  | cons r rs ih =>
    refine CountersRise.trans ?_ (ih _)
    unfold applyRecord; dsimp only; split
    · exact countersRise_writeRecord _ _ _ _ _
    · exact .refl s

theorem countersRise_completeWrite (p : PortId) (g : Nat) (buf : List BufferWord) (s : State) :
    CountersRise s (completeWrite p g buf s) := by
  have hposted : ∀ cs t, CountersRise t (boardChange cs t) := fun _ _ => countersRise_of_cc (by simp)
  exact (countersRise_applyRecords p g buf _ s).trans (hposted _ _)

theorem countersRise_writeWhole (p : PortId) (g r : Nat) (ws : List MaskedWord) (s : State) :
    CountersRise s (writeWhole p g r ws s) := by
  unfold writeWhole; dsimp only; repeat' split
  · exact .refl s
  · exact countersRise_completeWrite _ _ _ s
  · exact countersRise_of_cc rfl
  · exact .refl s

theorem countersRise_completeTransaction (p : PortId) (s : State) : CountersRise s (completeTransaction p s) := by
  have hclosed : CountersRise s (s.setPort p (s.pi.get p).close) := countersRise_of_cc rfl
  unfold completeTransaction; dsimp only; repeat' split
  · exact hclosed.trans (countersRise_completeWrite _ _ _ _)
  · exact hclosed
  · exact hclosed

/-! ### Commands (R143, R151) -/

/-- Two tables of one length added entry by entry: no entry of the first is lowered. -/
theorem tget_le_zipWith_satAdd {top : Nat} {xs ys : List Nat} (hlen : xs.length = ys.length) (hwidth : ∀ x ∈ xs, x ≤ top) (n : Nat) :
    tget xs n ≤ tget (List.zipWith (satAdd top) xs ys) n := by
  by_cases hn : n < xs.length
  · rw [tget_eq _ _ hn, tget_eq _ _ (by simp; omega), List.getElem_zipWith]
    exact le_satAdd (hwidth _ (List.getElem_mem hn)) _
  · simp [tget, hn]

theorem countersRise_counterRestore (a : Nat) (s : State) : CountersRise s (counterRestore a s).state := by
  have hrestored : ∀ c : Cc, c = s.cc.addBases ∨ c = s.cc → CountersRise s (s.setCc { c with restored := true }) := by
    rintro c (rfl | rfl)
    · rintro ⟨hseconds, hbins, hbases, hwidth, hdamage⟩
      have htop : ∀ x ∈ List.zipWith (satAdd max48) s.cc.bins s.cc.baseBins, x ≤ 281474976710655 := fun x hx => by
        obtain ⟨n, hn, rfl⟩ := List.getElem_of_mem hx
        rw [List.getElem_zipWith]
        exact satAdd_le max48 _ _
      exact ⟨⟨satAdd_le max32 _ _, by simp [Cc.addBases, hbins, hbases], hbases, htop, satAdd_le max64 _ _⟩, le_satAdd hseconds _,
        le_satAdd hdamage _, tget_le_zipWith_satAdd (hbins.trans hbases.symm) hwidth⟩
    · exact countersRise_of_same rfl rfl rfl rfl
  unfold counterRestore; dsimp only; repeat' split
  · exact .refl s
  · exact .refl s
  · exact (hrestored _ (.inl rfl)).trans (countersRise_of_cc (by simp))
  · exact (hrestored _ (.inr rfl)).trans (countersRise_of_cc (by simp))

theorem countersRise_clockArm (mode : Nat) (s : State) : CountersRise s (clockArm mode s).state := by
  unfold clockArm; repeat' split
  case isFalse.isFalse.isFalse.isTrue => exact countersRise_loadClock _ s
  case isFalse.isFalse.isFalse.isFalse => exact countersRise_of_same rfl rfl rfl rfl
  all_goals exact .refl s

theorem countersRise_ownerAnswer (p : PortId) (arg : Word) (c : Command) (s : State) : CountersRise s (ownerAnswer p arg c s).state := by
  cases c with
  | clockArm => exact countersRise_clockArm _ s
  | counterRestore => exact countersRise_counterRestore _ s
  | enable j | disable j => cases j <;> exact countersRise_of_cc (by simp [ownerAnswer])
  | _ => exact countersRise_of_cc (by simp [ownerAnswer])

theorem countersRise_takeControl {p : PortId} {canonical : Word} {ok : Word → Bool} {arg : Word} {body : State → Reply} {s : State}
    (h : CountersRise s (body s).state) : CountersRise s (takeControl p canonical ok arg body s) := by
  unfold takeControl; split
  · exact .refl s
  · exact h.trans (countersRise_of_cc (by simp))

theorem countersRise_giveCommand (p : PortId) (arg : Word) (c : Command) (s : State) :
    CountersRise s (giveCommand c p arg (ownerAnswer p arg c) s) := by
  refine countersRise_takeControl ?_
  unfold permitted; split
  · exact countersRise_ownerAnswer p arg c s
  · exact .refl s

/-! ### A step -/

/-- Every command but a part reset. -/
theorem exec_countersRise {c : Instr} {s t : State} (hreset : ∀ a b d, c ≠ .partReset a b d) (he : exec c s = .next t) :
    CountersRise s t := by
  have hfrom : ∀ {t'}, CountersRise s t' → .next t' = exec c s → CountersRise s t := by
    intro t' hrise he'
    obtain rfl : t' = t := by rw [he] at he'; injection he'
    exact hrise
  have hafter : ∀ {dt t'}, CountersRise (s.advance dt) t' → .next t' = exec c s → CountersRise s t := fun hrise =>
    hfrom ((countersRise_advance _ s).trans hrise)
  have htick : ∀ (b : Prop) [Decidable b] (order : TickOrder), CountersRise s (if b then phaseTick order s else s) := by
    intro b _ order
    split
    · exact countersRise_phaseTick order s
    · exact .refl s
  have hedge : ∀ l dt level, c = edgeOf l dt level → CountersRise s t := fun l dt level hc =>
    hafter (countersRise_onEdge l level (s.advance dt)) (by rw [hc, exec_edgeOf])
  have hcontrol : ∀ k, controlOf c = some k → CountersRise s t := fun k hk =>
    hafter (countersRise_giveCommand _ _ _ (s.advance k.dt)) (exec_control hk s).symm
  cases c with
  | partReset a b d => exact absurd rfl (hreset a b d)
  | encoderEdge dt line level =>
    cases line with
    | a => exact hedge .a dt level rfl
    | b => exact hedge .b dt level rfl
  | indexEdge dt level => exact hedge .z dt level rfl
  | toothEdge dt level => exact hedge .t dt level rfl
  | lsIndexEdge dt level => exact hedge .lsz dt level rfl
  | standstillTimerExpiry sd =>
    cases hd : (s.sau.side sd).standstill with
    | none => exact hfrom (.refl s) (by simp only [exec, execStandstillTimerExpiry, hd])
    | some d =>
      exact hafter (dt := d - s.now) (t' := standstillExpire sd (s.advanceTo d)) (countersRise_of_cc (by simp; rfl))
        (by simp only [exec, execStandstillTimerExpiry, hd])
  | linkTimerExpiry =>
    cases hd : s.ocr.link.timer with
    | none => exact hfrom (.refl s) (by simp only [exec, execLinkTimerExpiry, hd])
    | some d =>
      exact hafter (dt := d - s.now) (t' := linkExpire (s.advanceTo d)) (countersRise_of_cc (by simp; rfl))
        (by simp only [exec, execLinkTimerExpiry, hd])
  | lossTimerExpiry =>
    cases hd : s.ghm.loss with
    | none => exact hfrom (.refl s) (by simp only [exec, execLossTimerExpiry, hd])
    | some d =>
      exact hafter (dt := d - s.now) (t' := lossExpire (s.advanceTo d)) (countersRise_of_cc (by simp; rfl))
        (by simp only [exec, execLossTimerExpiry, hd])
  | strobe =>
    cases hx : s.ghm.gen with
    | none => exact hfrom (.refl s) (by simp only [exec, execStrobe, hx])
    | some x =>
      cases hd : x.due with
      | none => exact hfrom (.refl s) (by simp only [exec, execStrobe, hx, hd])
      | some d => 
        exact hafter (dt := d - s.now) (t' := (s.advanceTo d).setGhm ((s.advanceTo d).ghm.strobe (s.advanceTo d).now x))
          (countersRise_of_cc rfl) (by simp only [exec, execStrobe, hx, hd])
  | clockSetDeadline =>
    cases ha : s.cc.armed with
    | none => exact hfrom (.refl s) (by simp only [exec, execClockSetDeadline, ha])
    | some a =>
      exact hafter (countersRise_abandonClock (s.advance (a.deadline - s.now))) (by simp only [exec, execClockSetDeadline, ha]; rfl)
  | gzxEdge dt rising =>
    refine hafter (dt := dt) (t' := _) ?_ rfl
    split
    · exact countersRise_of_cc (by simp)
    · exact .refl _
  | gridFrame dt words =>
    refine hafter (dt := dt) (t' := _) ?_ rfl
    split
    · exact countersRise_of_cc (by simp)
    · exact .refl _
  | ppsEdge dt rising order =>
    refine hafter (dt := dt) (t' := _) ?_ rfl
    repeat' split
    · exact countersRise_of_same rfl rfl rfl rfl
    · exact countersRise_takePps order _
    · exact .refl _
  | secondTick order => exact hfrom (countersRise_phaseTick order s) rfl
  | ackTimerExpiry order | thawTimerExpiry order | operatingRecordStale order | intervalClose order => exact hfrom (htick _ order) rfl
  | sampleSet dt | publishComplete dt | transactionStart dt | transactionHeader dt | headerWord dt | fillerWord dt
  | readDataWord dt | writeDataWord dt | commandWord dt | portReset dt | portResetRelease dt =>
    exact hafter (dt := dt) (countersRise_of_cc (by simp)) rfl
  | recordWrite dt p => exact hafter (countersRise_completeTransaction p (s.advance dt)) rfl
  | operatingArrival dt | statusWrite dt | shaftConfigurationWrite dt | gridConfigurationWrite dt | watchConfigurationWrite dt
  | icingConfigurationWrite dt => exact hafter (countersRise_writeWhole _ _ _ _ (s.advance dt)) rfl
  | lineDefinitionWrite dt p n ws =>
    refine hafter (dt := dt) (t' := _) ?_ rfl
    split
    · exact countersRise_writeWhole _ _ _ _ _
    · exact .refl _
  | itemDefinitionWrite dt p n ws =>
    refine hafter (dt := dt) (t' := _) ?_ rfl
    split
    · exact countersRise_writeWhole _ _ _ _ _
    · exact .refl _
  | unknownCommand dt p command arg =>
    refine hafter (dt := dt) (t' := takeUnknown p command arg (s.advance dt)) ?_ rfl
    unfold takeUnknown; split
    · exact countersRise_takeControl (.refl _)
    · exact .refl _
  | invalidJobCode dt p enable job arg =>
    refine hafter (dt := dt) (t' := takeNoJob p enable job arg (s.advance dt)) ?_ rfl
    unfold takeNoJob; split
    · exact countersRise_takeControl (.refl _)
    · exact .refl _
  | _ => exact hcontrol _ rfl

/-- Settles O55: a part reset starts every counter at 0, and every other command lets them rise within their widths. -/
theorem countersNeverDecrease : Obligations.CountersNeverDecrease := by
  unfold Obligations.CountersNeverDecrease
  intro c s t hs he
  by_cases hreset : ∃ a b d, c = .partReset a b d
  · obtain ⟨a, b, d, rfl⟩ := hreset
    obtain rfl : partReset a b d s = t := by injection he
    exact ⟨⟨Nat.zero_le _, rfl, rfl, fun _ h => (List.eq_of_mem_replicate h).trans_le (Nat.zero_le _), Nat.zero_le _⟩,
      fun h => absurd rfl (h a b d)⟩
  · obtain ⟨ht, hseconds, hdamage, hbins⟩ := exec_countersRise (fun a b d h => hreset ⟨a, b, d, h⟩) he hs
    exact ⟨ht, fun _ => ⟨hseconds, hdamage, fun b _ => hbins b⟩⟩

end Sys2Proof.Machine

/-! PROOFS. COUNTER RESTORE and CLOCK ARM, and the deadline of an ARMED set (CounterRestoreAddsTheBases, ClockSetCommands). -/

namespace Sys2Proof.Machine

/-! ### COUNTER RESTORE (R149, R151) -/

theorem counterRestore_refuses (a : Nat) (s : State) :
    (s.cc.restored = true → counterRestore a s = refuse .alreadyRestored s) ∧
      (s.cc.restored = false → 2 ≤ a → counterRestore a s = refuse .badArgument s) := by
  unfold counterRestore
  refine ⟨fun h => if_pos h, fun h ha => ?_⟩
  rw [if_neg (by simp [h]), if_pos ha]

theorem counterRestore_accepts {a : Nat} {s : State} (h : s.cc.restored = false) (ha : a < 2) :
    counterRestore a s = accept ((s.setCc { (if a = 0 then s.cc.addBases else s.cc) with restored := true }).journal
      { source := .cc, kind := .restore, fromState := some 0, toState := some 1, value := a }) := by
  unfold counterRestore
  rw [if_neg (by simp [h]), if_neg (Nat.not_le.2 ha)]

/-- Settles O29: the row reaches its owner, which refuses it or restores. -/
theorem counterRestoreAddsTheBases : Obligations.CounterRestoreAddsTheBases := by
  unfold Obligations.CounterRestoreAddsTheBases
  intro dt p arg raw s u c summed entry hrole hd
  have hexec : exec (.counterRestore dt p arg) s = .next (writeResult p raw arg (counterRestore arg.toNat u)) :=
    exec_delivered (k := ⟨dt, p, .counterRestore, arg⟩) rfl hd (List.mem_singleton.2 hrole)
  obtain ⟨hrestored, hargument⟩ := counterRestore_refuses arg.toNat u
  rw [hexec]
  refine ⟨fun h => ?_, fun h ha => ?_, fun h ha => ?_, fun h ha => ?_⟩
  · rw [hrestored h]
    rfl
  · rw [hargument h ha]
    rfl
  · subst ha
    rw [counterRestore_accepts h (by decide)]
    rfl
  · subst ha
    rw [counterRestore_accepts h (by decide)]
    rfl

/-! ### CLOCK ARM (R143, R145) -/

theorem ClockStaging.valid_iff (c : ClockStaging) :
    c.valid = true ↔ 2000 ≤ c.year.toNat ∧ c.year.toNat ≤ 2099 ∧ 1 ≤ c.month.toNat ∧ c.month.toNat ≤ 12 ∧ 1 ≤ c.day.toNat ∧
      c.day.toNat ≤ monthLength c.year.toNat c.month.toNat ∧ c.hour.toNat ≤ 23 ∧ c.minute.toNat ≤ 59 ∧ c.second.toNat ≤ 59 := by
  simp only [ClockStaging.valid, Bool.and_eq_true, decide_eq_true_eq, and_assoc]

theorem clockArm_refuses (mode : Nat) (s : State) :
    (s.cc.armed.isSome = true → clockArm mode s = refuse .busy s) ∧
      (s.cc.armed = none → 2 ≤ mode ∨ ¬s.cc.staging.valid = true → clockArm mode s = refuse .badArgument s) := by
  unfold clockArm
  refine ⟨fun h => if_pos h, fun h hbad => ?_⟩
  rw [if_neg (by simp [h])]
  split
  · rfl
  next hmode => exact if_pos (by simpa using hbad.resolve_left hmode)

theorem clockArm_accepts {s : State} (h : s.cc.armed = none) (hvalid : s.cc.staging.valid = true) :
    clockArm 0 s = accept (loadClock s.cc.staging.seconds s) ∧
      clockArm 1 s = accept (s.setCc { s.cc with armed := some ⟨s.cc.staging.seconds, s.now + 2 * second⟩ }) := by
  simp [clockArm, h, hvalid]

theorem loadClock_cc (value : Nat) (s : State) :
    (loadClock value s).cc = { s.cc with time := value, limit := false, phase := 0, isSet := true, armed := none } := by
  simp [loadClock]

/-- The CLOCK entry of a load carries the time that is loaded (R143). -/
theorem loadClock_journals (value : Nat) (s : State) :
    (⟨s.ej.next, value, false, .cc, none, .clock, some (twoCode s.cc.isSet), some (twoCode true),
      max (-2147483648) (min 2147483647 ((value : Int) - (s.cc.time : Int)))⟩ : Entry) ∈ (loadClock value s).ej.ring :=
  State.journal_mem_self _ _

/-- Settles O28: the command reaches its owner, which refuses, loads or captures; an ARMED set is abandoned at its deadline. -/
theorem clockSetCommands : Obligations.ClockSetCommands := by
  unfold Obligations.ClockSetCommands
  intro dt p arg raw s u c ok value
  have hvalid : u.cc.staging.valid = true ↔ ok := ClockStaging.valid_iff _
  refine ⟨fun hrole hd => ?_, fun h => ?_, fun a h => ?_⟩
  · have hexec : exec (.clockArm dt p arg) s = .next (writeResult p raw arg (clockArm arg.toNat u)) :=
      exec_delivered (k := ⟨dt, p, .clockArm, arg⟩) rfl hd (List.mem_singleton.2 hrole)
    obtain ⟨hbusy, hargument⟩ := clockArm_refuses arg.toNat u
    rw [hexec]
    refine ⟨fun h => ?_, fun h hbad => ?_, fun h ha hok => ?_, fun h ha hok => ?_⟩
    · rw [hbusy h]
      rfl
    · rw [hargument h (hbad.imp_right (mt hvalid.1))]
      rfl
    · subst ha
      have hload : clockArm (0 : Word).toNat u = accept (loadClock value u) := (clockArm_accepts h (hvalid.2 hok)).1
      rw [hload]
      refine ⟨_, rfl, by simp [onlyTouches_iff], ?_, ⟨_, by simpa using loadClock_journals value u, rfl, rfl, rfl, rfl, rfl, rfl, rfl, rfl⟩,
        State.answered_pi_congr (by simp)⟩
      simp only [writeResult_frame, accept_state, loadClock_cc]
      rw [h]
    · subst ha
      exact congrArg (fun r => Host.Outcome.next (writeResult p raw 1 r)) (clockArm_accepts h (hvalid.2 hok)).2
  · simp only [exec, execClockSetDeadline, h]
  · simp only [exec, execClockSetDeadline, h]
    rfl

end Sys2Proof.Machine

/-! PROOFS. The pulse-per-second input (PpsEdgeLoadsOrDisciplines). -/

namespace Sys2Proof.Machine

/-! ### A second tick issued early (R139, R144) -/

theorem issueTick_cc (order : TickOrder) (s : State) :
    (issueTick order s).cc = { s.cc with
      time := if s.cc.time ≥ 3155759999 then s.cc.time else s.cc.time + 1
      limit := if s.cc.time ≥ 3155759999 then true else s.cc.limit
      seconds := if s.cc.config.vRunHs ≤ s.sau.hs.speed ∨ s.cc.config.vRunLs ≤ s.sau.ls.speed then min 4294967295 (s.cc.seconds + 1)
        else s.cc.seconds } := by
  simp only [issueTick, handTick_frame, countSecond_cc, calendarTick_cc, calendarTick_frame]

theorem issueTick_age (order : TickOrder) (s : State) : (issueTick order s).icd.age = min 65535 (s.icd.age + 1) := by
  obtain ⟨w, hbefore, hafter⟩ := handTick_icing order (countSecond (calendarTick s))
  unfold issueTick
  rw [hafter.icd, icingTick_age, hbefore.icd]
  simp

/-- An edge finds the phase past half and issues its tick. -/
theorem alignTick_late {s : State} (order : TickOrder) (h : 20000000 ≤ min 39999999 s.cc.phase) :
    alignTick order s = issueTick order (zeroPhase s) := if_pos h

/-- An edge finds the phase in its first half. -/
theorem alignTick_early {s : State} (order : TickOrder) (h : ¬20000000 ≤ min 39999999 s.cc.phase) :
    alignTick order s = zeroPhase s := if_neg h

theorem alignTick_onlyTouches (order : TickOrder) (s : State) :
    OnlyTouches [.icd, .lb, .cc, .ms, .ej, .rep, .pub] s (alignTick order s) := by
  simp [onlyTouches_iff]

/-- What aligning leaves of the counters and the calendar beside the present time, LIMIT and the operating seconds. -/
theorem alignTick_keeps (order : TickOrder) (s : State) :
    (alignTick order s).cc.phase = 0 ∧ (alignTick order s).cc.ppsRef = s.cc.ppsRef ∧
      (alignTick order s).cc.ppsOffset = s.cc.ppsOffset ∧ (alignTick order s).cc.ppsAccepted = s.cc.ppsAccepted ∧
      (alignTick order s).cc.isSet = s.cc.isSet := by
  unfold alignTick; split
  · rw [issueTick_cc]
    exact ⟨rfl, rfl, rfl, rfl, rfl⟩
  · exact ⟨rfl, rfl, rfl, rfl, rfl⟩

theorem alignTick_age (order : TickOrder) (s : State) :
    (alignTick order s).icd.age = if 20000000 ≤ min 39999999 s.cc.phase then min 65535 (s.icd.age + 1) else s.icd.age := by
  split
  next h => rw [alignTick_late order h, issueTick_age]; simp
  next h => rw [alignTick_early order h]; simp

/-! ### An edge (R138, R139, R144) -/

theorem Cc.ppsHeldOff_iff (now : Nat) (c : Cc) : c.ppsHeldOff now = true ↔ ∃ r, c.ppsRef = some r ∧ now < r + 20000000 := by
  unfold Cc.ppsHeldOff
  cases c.ppsRef <;> simp

/-- The part after it accepts an edge, before the edge acts on phase and calendar (R138). -/
def ppsSeen (s : State) : State := s.setCc (s.cc.acceptPps s.now)

theorem exec_ppsEdge_accepted {dt : Nat} {order : TickOrder} {s : State}
    (h : ¬∃ r, (s.advance dt).cc.ppsRef = some r ∧ (s.advance dt).now < r + 20000000) :
    exec (.ppsEdge dt true order) s = .next (takePps order (s.advance dt)) :=
  congrArg Host.Outcome.next (if_neg (mt (Cc.ppsHeldOff_iff _ _).1 h))

theorem takePps_armed {s : State} {a : ArmedClock} (order : TickOrder) (h : s.cc.armed = some a) :
    takePps order s = loadClock a.value (alignTick order (ppsSeen s)) := by
  simp only [takePps, h, ppsSeen]

theorem takePps_unset {s : State} (order : TickOrder) (h : s.cc.armed = none) (hset : s.cc.isSet = false) :
    takePps order s = ppsSeen s := by
  simp only [takePps, h, hset]
  rfl

theorem takePps_set {s : State} (order : TickOrder) (h : s.cc.armed = none) (hset : s.cc.isSet = true) :
    takePps order s = alignTick order (ppsSeen s) := by
  simp only [takePps, h, hset]
  rfl

theorem takePps_onlyTouches (order : TickOrder) (s : State) :
    OnlyTouches [.icd, .lb, .cc, .ms, .ej, .rep, .pub] s (takePps order s) := by
  simp [onlyTouches_iff]

/-- Settles O27: an edge that is accepted is recorded, and then loads, disciplines, or leaves the calendar. -/
theorem ppsEdgeLoadsOrDisciplines : Obligations.PpsEdgeLoadsOrDisciplines := by
  unfold Obligations.PpsEdgeLoadsOrDisciplines
  intro dt rising order s u c early p offset seen
  obtain ⟨hphase, href, hoffset, haccepted, hisSet⟩ := alignTick_keeps order (ppsSeen u)
  have hage := alignTick_age order (ppsSeen u)
  have htouch := takePps_onlyTouches order u
  refine ⟨?_, ?_, ?_, ?_, ?_, ?_⟩ <;> rintro rfl
  · rfl
  · exact fun h => congrArg Host.Outcome.next (if_pos ((Cc.ppsHeldOff_iff _ _).2 h))
  all_goals intro h; rw [exec_ppsEdge_accepted h]
  · exact fun harmed hset => congrArg Host.Outcome.next (takePps_unset order harmed hset)
  · intro harmed hset hp
    exact congrArg Host.Outcome.next ((takePps_set order harmed hset).trans (alignTick_early order (Nat.not_le.2 hp)))
  · intro harmed hset hp
    refine ⟨_, rfl, htouch, ?_⟩
    have htime : (alignTick order (ppsSeen u)).cc.time = if c.time < 3155759999 then c.time + 1 else c.time := by
      rw [alignTick_late (s := ppsSeen u) order hp, issueTick_cc]
      simp only [ge_iff_le, ← Nat.not_lt, ite_not]
      rfl
    rw [takePps_set order harmed hset]
    exact ⟨hphase, href, hoffset, haccepted, htime, hisSet.trans hset, hage.trans (if_pos hp)⟩
  · intro a harmed
    refine ⟨_, rfl, htouch, ?_⟩
    rw [takePps_armed order harmed, loadClock_cc]
    exact ⟨rfl, href, hoffset, haccepted, rfl, rfl, rfl, rfl, (congrArg Icd.age (by simp)).trans hage⟩

end Sys2Proof.Machine

/-! PROOFS. Whole writes to an item slot and to the staging and argument records (ItemDefinitionWritePends). -/

namespace Sys2Proof.Machine

/-! ### Fields of several words, written whole (R189, R198) -/

theorem natWords_length (k n : Nat) : (natWords k n).length = k := by
  induction k with
  | zero => rfl
  | succ k ih => simp [natWords, ih]

theorem wideAt_succ {ws : List Word} {n k : Nat} (h : n + k < ws.length) :
    wideAt ws n (k + 1) = wideAt ws n k * 65536 + (wordAt ws (n + k)).toNat := by
  simp [wideAt, wordAt, List.take_add_one, h]

/-- A number in several words is the sum of its words by their places. -/
theorem wideAt_eq_sum {ws : List Word} {n k : Nat} (h : n + k ≤ ws.length) :
    wideAt ws n k = ((List.range k).map (fun i => (wordAt ws (n + i)).toNat * 65536 ^ (k - 1 - i))).sum := by
  induction k with
  | zero => rfl
  | succ k ih =>
    have hplace : ∀ i ∈ List.range k, (wordAt ws (n + i)).toNat * 65536 ^ (k + 1 - 1 - i) =
        (wordAt ws (n + i)).toNat * 65536 ^ (k - 1 - i) * 65536 := fun i hi => by
      have hlt := List.mem_range.1 hi
      rw [show k + 1 - 1 - i = k - 1 - i + 1 by omega, pow_succ, Nat.mul_assoc]
    rw [wideAt_succ (by omega), ih (by omega), List.range_succ, List.map_append, List.sum_append, List.map_congr_left hplace,
      List.sum_map_mul_right]
    simp

theorem wideAt_four {ws : List Word} {n : Nat} (h : n + 4 ≤ ws.length) :
    wideAt ws n 4 = ((wordAt ws n).toNat * 65536 + (wordAt ws (n + 1)).toNat) * 4294967296 +
      ((wordAt ws (n + 2)).toNat * 65536 + (wordAt ws (n + 3)).toNat) := by
  have hnone : wideAt ws n 0 = 0 := rfl
  rw [wideAt_succ (k := 3) (by omega), wideAt_succ (k := 2) (by omega), wideAt_succ (k := 1) (by omega),
    wideAt_succ (k := 0) (by omega), hnone, Nat.add_zero]
  omega

@[simp] theorem overlay_length (old : List Word) (ms : List MaskedWord) : (overlay old ms).length = old.length := by
  simp [overlay]

theorem wideAt_overlay_whole {old ws : List Word} {n k : Nat} (h : n + k ≤ old.length) (hw : n + k ≤ ws.length) :
    wideAt (overlay old (whole ws)) n k = wideAt ws n k := by
  induction k with
  | zero => rfl
  | succ k ih =>
    rw [wideAt_succ (by rw [overlay_length]; omega), wideAt_succ (by omega), ih (by omega) (by omega),
      wordAt_overlay_whole (by omega) (by omega)]

theorem field_wide_whole {α : Type} {ws : List Word} {n k : Nat} (h : n < ws.length) (hk : 0 < k) (old new : α) :
    field (whole ws) n k old new = new := by
  refine if_pos (List.any_eq_true.2 ⟨0, List.mem_range.2 hk, ?_⟩)
  rw [Nat.add_zero, maskedAt_whole h]
  rfl

/-- A list of fields of several words each, written whole. -/
theorem fieldWide_whole {image ws : List Word} {n k m : Nat} {old : List Nat} (hm : old.length = m) (hk : 0 < k)
    (h : n + k * m ≤ image.length) (hw : n + k * m ≤ ws.length) :
    fieldWide (whole ws) (overlay image (whole ws)) n k old = (List.range m).map (fun i => wideAt ws (n + k * i) k) := by
  unfold fieldWide
  rw [hm]
  refine List.map_congr_left fun i hi => ?_
  have hlast : k * i + k ≤ k * m := Nat.mul_le_mul_left k (List.mem_range.1 hi)
  rw [field_wide_whole (by omega) hk, wideAt_overlay_whole (by omega) (by omega)]

/-! ### The definition of an item slot (R154) -/

theorem itemDefImage_length (d : ItemDef) : (itemDefImage d).length = 29 := by
  simp [itemDefImage, natWords_length]

/-- The definition a write of a whole item slot leaves. -/
theorem ItemDef.write_whole {ws : List Word} (hl : ws.length = 48) (d : ItemDef) :
    d.write (whole ws) =
      ⟨(wordAt ws 0).getLsbD 0, (wordAt ws 1).toNat, (ItemKind.ofCode (wordAt ws 2).toNat).getD d.kind, max 1 (wideAt ws 3 4),
        wideAt ws 7 4, wideAt ws 11 4, wideAt ws 15 4, wideAt ws 19 4, wideAt ws 23 4, min 100 (wordAt ws 27).toNat,
        (wordAt ws 28).getLsbD 0⟩ := by
  have himage := itemDefImage_length d
  unfold ItemDef.write
  simp (disch := omega) only [field_wide_whole, numAt_overlay_whole, wordAt_overlay_whole, wideAt_overlay_whole]
  rfl

theorem itemKind_isNone (n : Nat) : (ItemKind.ofCode n).isNone = true ↔ 3 ≤ n := by
  match n with
  | 0 | 1 | 2 => simp [ItemKind.ofCode]
  | n + 3 => simp [ItemKind.ofCode]

theorem itemKind_getD (n : Nat) (old : ItemKind) :
    (ItemKind.ofCode n).getD old = match n with | 0 => .date | 1 => .hours | 2 => .damage | _ => old := by
  match n with
  | 0 | 1 | 2 => rfl
  | n + 3 => rfl

theorem ItemDef.bad_whole {ws : List Word} (hl : ws.length = 48) (d : ItemDef) :
    d.bad (whole ws) = true ↔ 3 ≤ (wordAt ws 2).toNat := by
  have himage := itemDefImage_length d
  unfold ItemDef.bad badEnum
  rw [wrote_whole (by omega), numAt_overlay_whole (by omega) (by omega), Bool.true_and, itemKind_isNone]

/-- A write that leaves the words of a definition unwritten. -/
theorem ItemDef.write_unwritten {ms : List MaskedWord} (h : ∀ n < 29, (maskedAt ms n).written = false) (d : ItemDef) :
    d.write ms = d ∧ d.bad ms = false := by
  have hwrote : ∀ {n k}, n + k ≤ 29 → wrote ms n k = false := fun hle => List.any_eq_false.2 fun i hi => by
    rw [h _ (by have := List.mem_range.1 hi; omega)]
    exact Bool.false_ne_true
  have hfield : ∀ {α : Type} {n k} {old new : α}, n + k ≤ 29 → field ms n k old new = old := fun hle => if_neg (by simp [hwrote hle])
  refine ⟨?_, by simp [ItemDef.bad, badEnum, hwrote]⟩
  unfold ItemDef.write
  simp (disch := decide) only [hfield]

/-! ### The buffer of a whole write, with its masks (R189) -/

theorem bufferAt_wholeBuffer_masks (r len o : Nat) (ws : List MaskedWord) (h : ws.length ≤ len) :
    (bufferAt (wholeBuffer r len ws) r o).hi = (maskedAt ws o).hi ∧ (bufferAt (wholeBuffer r len ws) r o).lo = (maskedAt ws o).lo := by
  induction ws using List.reverseRecOn with
  | nil => exact ⟨rfl, rfl⟩
  | append_singleton ws w ih =>
    rw [List.length_append, List.length_singleton] at h
    obtain ⟨hhi, hlo⟩ := ih (by omega)
    rw [bufferAt_wholeBuffer_snoc, Nat.mod_eq_of_lt (by omega)]
    split
    next ho =>
      subst ho
      simp [MaskedWord.merge, hhi, hlo, maskedAt, MaskedWord.blank]
    next ho =>
      have hsame : maskedAt (ws ++ [w]) o = maskedAt ws o := by
        simp only [maskedAt, List.getD_eq_getElem?_getD, List.getElem?_append, List.getElem?_singleton]
        grind
      rw [hsame]
      exact ⟨hhi, hlo⟩

/-- A whole write of a record, whatever its masks, completes as the write of that record when a byte of it is written. -/
theorem completeWrite_masked {p : PortId} {g r n : Nat} {ws : List MaskedWord} {s : State} (hr : r < recordCount g)
    (hl : ws.length ≤ recordLength g r) (hn : n < ws.length) (hwritten : (maskedAt ws n).written = true) :
    let ms := bufferRecord (wholeBuffer r (recordLength g r) ws) r (recordLength g r)
    completeWrite p g (wholeBuffer r (recordLength g r) ws) s =
      boardChange (writePostings s (writeRecord p g r ms s)) (writeRecord p g r ms s) := by
  intro ms
  have hnames : ∀ k, (wholeBuffer r (recordLength g r) ws).any (·.record = k) = decide (k = r) := fun k => by
    obtain ⟨w, ws, rfl⟩ := List.exists_cons_of_length_pos (Nat.zero_lt_of_lt hn)
    by_cases hk : k = r
    · subst hk; simp [wholeBuffer]
    · simp [wholeBuffer, hk, Ne.symm hk]
  have hrecord : (List.range (recordCount g)).filter (fun k => (wholeBuffer r (recordLength g r) ws).any (·.record = k)) = [r] := by
    simp only [hnames]
    rw [List.filter_eq, List.nodup_range.count, if_pos (List.mem_range.2 hr)]
    rfl
  have hany : anyWritten ms = true := by
    refine List.any_eq_true.2 ⟨_, List.mem_map.2 ⟨n, List.mem_range.2 (by omega), rfl⟩, ?_⟩
    obtain ⟨hhi, hlo⟩ := bufferAt_wholeBuffer_masks r (recordLength g r) n ws hl
    rw [MaskedWord.written, hhi, hlo]
    exact hwritten
  unfold completeWrite
  rw [hrecord]
  simp only [List.foldl_cons, List.foldl_nil, applyRecord]
  rw [if_pos hany]

/-! ### An item slot (R154, R155) -/

/-- The state with a new definition written to item slot `n`, TAKE_PENDING set (R154). -/
def itemRedefined (n : Nat) (d : ItemDef) (s : State) : State :=
  s.setMs { s.ms with items := s.ms.items.set n { tget s.ms.items n with written := d, takePending := true } }

theorem writeItem_eq (n : Nat) (ms : List MaskedWord) (s : State) :
    writeItem n ms s =
      (itemRedefined n ((tget s.ms.items n).written.write ms) s).raiseIf ((tget s.ms.items n).written.bad ms) .badValue := rfl

/-- The write of an item slot hands the board nothing. -/
theorem boardChange_writeItem (n : Nat) (ms : List MaskedWord) (s : State) :
    boardChange (writePostings s (writeItem n ms s)) (writeItem n ms s) = writeItem n ms s :=
  boardChange_sameCaps (by simp) (by simp) (by simp) (by simp)

theorem writeRecord_item {n : Nat} (hn : n < 32) (p : PortId) (ms : List MaskedWord) (s : State) :
    writeRecord p 13 n ms s = writeItem n ms s := if_pos hn

theorem recordLength_item {n : Nat} (hn : n < 32) : recordLength 13 n = 48 := if_pos hn

/-- A whole write of FARM to an item slot, whatever its masks, of which at least one byte is written. -/
theorem exec_itemDefinitionWrite {dt : Nat} {p : PortId} {n k : Nat} {ws : List MaskedWord} {s : State}
    (hrole : (s.pi.get p).role = .farm) (hready : PortReady p s) (hn : n < 32) (hl : ws.length = 48) (hk : k < 48)
    (hwritten : (maskedAt ws k).written = true) :
    exec (.itemDefinitionWrite dt p n ws) s =
      .next (writeItem n (bufferRecord (wholeBuffer n 48 ws) n 48) (s.advance dt)) := by
  have hlen := recordLength_item hn
  have hcount : n < recordCount 13 := Nat.lt_trans hn (by decide)
  have hready' : PortReady p (s.advance dt) := hready
  have hmay : mayWrite ((s.advance dt).pi.get p).role p 13 n = true := decide_eq_true hrole
  have hne : ws ≠ [] := by rintro rfl; cases hl
  have hwrite := writeWhole_ready hready' hne hcount hmay
  rw [completeWrite_masked hcount (by rw [hl, hlen]) (by rw [hl]; exact hk) hwritten, writeRecord_item hn, boardChange_writeItem,
    hlen] at hwrite
  exact congrArg Host.Outcome.next ((if_pos hn).trans hwrite)

/-- The words of an item slot, those of its definition part unwritten and the rest written. -/
def definitionSkipped (ws : List Word) : List MaskedWord :=
  ws.zipIdx.map (fun w => ⟨w.1, decide (29 ≤ w.2), decide (29 ≤ w.2)⟩)

theorem definitionSkipped_length (ws : List Word) : (definitionSkipped ws).length = ws.length := by
  simp [definitionSkipped]

theorem maskedAt_definitionSkipped {ws : List Word} {k : Nat} (hk : k < ws.length) :
    maskedAt (definitionSkipped ws) k = ⟨wordAt ws k, decide (29 ≤ k), decide (29 ≤ k)⟩ := by
  simp [maskedAt, definitionSkipped, wordAt, hk]

theorem definitionSkipped_written {ws : List Word} (hl : ws.length = 48) : (maskedAt (definitionSkipped ws) 29).written = true := by
  rw [maskedAt_definitionSkipped (by omega)]
  rfl

/-- The write buffer of such a write holds no byte of the definition. -/
theorem definitionSkipped_unwritten (n : Nat) {ws : List Word} (hl : ws.length = 48) :
    ∀ k < 29, (maskedAt (bufferRecord (wholeBuffer n 48 (definitionSkipped ws)) n 48) k).written = false := fun k hk => by
  obtain ⟨hhi, hlo⟩ := bufferAt_wholeBuffer_masks n 48 k (definitionSkipped ws) (by rw [definitionSkipped_length, hl])
  rw [maskedAt_bufferRecord (by omega), MaskedWord.written, hhi, hlo, maskedAt_definitionSkipped (by omega)]
  simp [hk]

/-! ### The staging and argument records (R142, R150, R164) -/

theorem writeStaging_whole {ws : List Word} (hl : ws.length = 6) (s : State) :
    writeStaging (whole ws) s = s.setCc { s.cc with staging :=
      ⟨wordAt ws 0, wordAt ws 1, wordAt ws 2, wordAt ws 3, wordAt ws 4, wordAt ws 5⟩ } := by
  have himage : (stagingImage s.cc.staging).length = 6 := rfl
  unfold writeStaging ClockStaging.write
  simp (disch := omega) only [wordAt_overlay_whole]

theorem restoreImage_length {c : Cc} (h : c.baseBins.length = 16) : (restoreImage c).length = 54 := by
  simp [restoreImage, natWords_length, h]

theorem writeRestore_whole {ws : List Word} {s : State} (hl : ws.length = 54) (hb : s.cc.baseBins.length = 16) :
    writeRestore (whole ws) s = s.setCc { s.cc with
      baseSeconds := wideAt ws 0 2
      baseBins := (List.range 16).map (fun k => wideAt ws (2 + 3 * k) 3)
      baseDamage := wideAt ws 50 4 } := by
  have himage := restoreImage_length hb
  unfold writeRestore
  dsimp only
  rw [fieldWide_whole hb (by decide) (by omega) (by omega)]
  simp (disch := omega) only [field_wide_whole, wideAt_overlay_whole]

theorem writeDeferArg_whole {ws : List Word} (hl : ws.length = 4) (s : State) :
    writeDeferArg (whole ws) s = s.setMs { s.ms with deferArg := wideAt ws 0 4 } := by
  have himage := natWords_length 4 s.ms.deferArg
  unfold writeDeferArg
  simp (disch := omega) only [field_wide_whole, wideAt_overlay_whole]

/-- Settles O44: each write reaches its record's own write, which stores what the words hold. -/
theorem itemDefinitionWritePends : Obligations.ItemDefinitionWritePends := by
  unfold Obligations.ItemDefinitionWritePends
  refine ⟨fun dt p n ws s => ?_, fun dt p ws s => ?_⟩
  · intro u x d quad kind new stands hrole hready hn hl
    have hexec : exec (.itemDefinitionWrite dt p n (whole ws)) s =
        .next ((stands (d.write (whole ws))).raiseIf (d.bad (whole ws)) .badValue) := by
      have hexec := exec_itemDefinitionWrite (dt := dt) (k := 0) hrole hready hn ((whole_length ws).trans hl) (by decide)
        (by rw [maskedAt_whole (by omega)]; rfl)
      have hbuffer := bufferRecord_whole n ws
      rw [hl] at hbuffer
      rw [hexec, hbuffer]
      rfl
    have hnew : d.write (whole ws) = new := by
      have hquad : ∀ k, k + 4 ≤ 48 → wideAt ws k 4 = quad k := fun k hk => wideAt_four (by omega)
      have hwrite := ItemDef.write_whole hl d
      rw [itemKind_getD, hquad 3 (by decide), hquad 7 (by decide), hquad 11 (by decide), hquad 15 (by decide), hquad 19 (by decide),
        hquad 23 (by decide)] at hwrite
      exact hwrite
    have hbad := ItemDef.bad_whole hl d
    refine ⟨fun hk => ?_, fun hk => ?_, ?_⟩
    · rw [hexec, hnew, State.raiseIf, if_neg (by rw [hbad]; exact Nat.not_le.2 hk)]
    · rw [hexec, hnew, State.raiseIf, if_pos (hbad.2 hk)]
    · obtain ⟨hwrite, hgood⟩ := ItemDef.write_unwritten (definitionSkipped_unwritten n hl) d
      have hexec := exec_itemDefinitionWrite (dt := dt) (k := 29) hrole hready hn (ws := definitionSkipped ws)
        ((definitionSkipped_length ws).trans hl) (by decide) (definitionSkipped_written hl)
      refine hexec.trans (congrArg Host.Outcome.next ((writeItem_eq n _ u).trans ?_))
      change (itemRedefined n (d.write _) u).raiseIf (d.bad _) .badValue = stands d
      rw [hwrite, hgood]
      rfl
  · intro u closed wide
    have hwide : ∀ k m, k + m ≤ ws.length → wideAt ws k m = wide k m := fun k m h => wideAt_eq_sum h
    refine ⟨fun hl hc => ?_, fun hl hb hc => ?_, fun hl hc => ?_⟩
    · exact exec_recordWrite_closing hc (by decide) hl (by rintro rfl; cases hl) (writeStaging_whole hl closed) rfl rfl rfl rfl
    · refine exec_recordWrite_closing hc (by decide) hl (by rintro rfl; cases hl)
        ((writeRestore_whole (s := closed) hl hb).trans ?_) rfl rfl rfl rfl
      have hbins : (List.range 16).map (fun k => wideAt ws (2 + 3 * k) 3) = (List.range 16).map (fun k => wide (2 + 3 * k) 3) :=
        List.map_congr_left fun k hk => hwide _ 3 (by have := List.mem_range.1 hk; omega)
      rw [hwide 0 2 (by omega), hwide 50 4 (by omega), hbins]
      rfl
    · refine exec_recordWrite_closing hc (by decide) hl (by rintro rfl; cases hl) ((writeDeferArg_whole hl closed).trans ?_)
        rfl rfl rfl rfl
      rw [hwide 0 4 (by omega)]
      rfl

end Sys2Proof.Machine

/-! PROOFS. One item of the schedule under a pull-forward signal (R159) and under the judgements of R157 and R158, and what an event of the
schedule makes of items, slot MAINT and journal (PendingItemsAreNotYetDue, ItemCommands, MaintJobCommands). -/

namespace Sys2Proof.Machine

/-! ### A pull-forward signal on one item (R154, R159) -/

/-- The PULL entry of a signal of line `line` on slot `n` (R159). -/
def pullEntry (n line : Nat) (a b : ItemState) : EntryBody :=
  { source := .ms, inst := some n, kind := .pull, fromState := some a.code, toState := some b.code, value := line }

section Pull

variable {d : ItemDef} {valid : Bool} {v : Nat} {g : Pull} {y : ItemPart}

theorem ItemPart.pull_later (hy : y.state = .pending) (h : valid = false ∨ y.due ≤ limited (v + d.lead g.level)) :
    y.pull d valid v g = y := by
  unfold ItemPart.pull
  rw [hy]
  rcases h with rfl | h
  · rfl
  · simp [Nat.not_lt.2 h]

theorem ItemPart.pull_earlier (hy : y.state = .pending) (hv : valid = true) (h : limited (v + d.lead g.level) < y.due) :
    y.pull d valid v g = { y with due := limited (v + d.lead g.level), pulledBy := some g.line } := by
  unfold ItemPart.pull
  rw [hy]
  simp [hv, h]

theorem ItemPart.pull_danger (hy : y.state = .deferred) (hg : g.level = .danger) :
    y.pull d valid v g = { y with state := .overdue, deferUntil := none, pulledBy := some g.line } := by
  unfold ItemPart.pull
  rw [hy]
  exact if_pos hg

theorem ItemPart.pull_unmoved (h : y.state = .due ∨ y.state = .overdue ∨ (y.state = .deferred ∧ g.level ≠ .danger)) :
    y.pull d valid v g = y := by
  unfold ItemPart.pull
  rcases h with hy | hy | ⟨hy, hg⟩
  · rw [hy]
  · rw [hy]
  · rw [hy]
    exact if_neg hg

end Pull

section ItemPull

variable {smp : Sample} {n : Nat} {g : Pull} {x : Item} {y : ItemPart}

theorem Item.pull_absent (h : x.part = none) : x.pull smp n g = (x, []) := by
  unfold Item.pull
  rw [h]

theorem Item.pull_stands (h : x.part = some y)
    (hy : y.pull x.inForce (smp.valid x.inForce.kind) (smp.value x.inForce.kind) g = y) : x.pull smp n g = (x, []) := by
  unfold Item.pull
  rw [h]
  exact if_pos hy

/-- A signal that changes an item has it judged at once, and makes a PULL entry before that of a change of state (R158, R159). -/
theorem Item.pull_changes {y1 : ItemPart} (h : x.part = some y)
    (hy : y.pull x.inForce (smp.valid x.inForce.kind) (smp.value x.inForce.kind) g = y1) (hne : y1 ≠ y) :
    x.pull smp n g =
      let y2 := judgeNow true (smp.valid x.inForce.kind) (smp.value x.inForce.kind) y1
      ({ x with part := some y2 }, pullEntry n g.line y.state y2.state :: changeEntry n x.inForce.code y y2) := by
  subst hy
  unfold Item.pull
  rw [h]
  exact if_neg hne

/-- The due of a PENDING item comes nearer; it becomes DUE at once where that due is reached. -/
theorem Item.pull_earlier (h : x.part = some y) (hy : y.state = .pending) (hv : smp.valid x.inForce.kind = true) {due : Nat}
    (hdue : limited (smp.value x.inForce.kind + x.inForce.lead g.level) = due) (hlt : due < y.due) :
    x.pull smp n g =
      if due ≤ smp.value x.inForce.kind then
        ({ x with part := some { y with due := due, pulledBy := some g.line, state := .due } },
          [pullEntry n g.line .pending .due, itemEntry n ItemState.pending.code ItemState.due.code x.inForce.code])
      else ({ x with part := some { y with due := due, pulledBy := some g.line } }, [pullEntry n g.line .pending .pending]) := by
  subst hdue
  rw [Item.pull_changes h (ItemPart.pull_earlier hy hv hlt) fun heq => absurd (congrArg ItemPart.due heq) hlt.ne]
  unfold judgeNow ItemPart.toDue changeEntry
  by_cases hreached : limited (smp.value x.inForce.kind + x.inForce.lead g.level) ≤ smp.value x.inForce.kind
  · simp [hv, hy, hreached]
  · simp [hv, hy, hreached]

/-- A DEFERRED item becomes OVERDUE at DANGER. -/
theorem Item.pull_danger (h : x.part = some y) (hy : y.state = .deferred) (hg : g.level = .danger) :
    x.pull smp n g =
      ({ x with part := some { y with state := .overdue, deferUntil := none, pulledBy := some g.line } },
        [pullEntry n g.line .deferred .overdue, itemEntry n ItemState.deferred.code ItemState.overdue.code x.inForce.code]) := by
  rw [Item.pull_changes h (ItemPart.pull_danger hy hg) fun heq => by have := congrArg ItemPart.state heq; simp [hy] at this]
  simp [judgeNow, ItemPart.toDue, changeEntry, hy]

end ItemPull

/-! ### PENDING items not yet due (R157, R158) -/

/-- A state part that is not PENDING at or past its due at value `v`. -/
def ItemPart.NotYetDue (v : Nat) (y : ItemPart) : Prop := y.state = .pending → v < y.due

/-- An item of a valid source that is not PENDING at or past its due. -/
def Item.NotYetDue (smp : Sample) (x : Item) : Prop :=
  ∀ y, x.part = some y → smp.valid x.inForce.kind = true → y.NotYetDue (smp.value x.inForce.kind)

theorem scheduleOk_iff (s : State) : ScheduleOk s ↔ (s.jobs.maint = true → ∀ x ∈ s.ms.items, x.NotYetDue s.ms.sample) :=
  ⟨fun h hm x hx y hy hv hp => h hm x hx y hy hp hv, fun h hm x hx y hy hp hv => h hm x hx y hy hv hp⟩

theorem evaluated_notYetDue (grace v : Nat) (y : ItemPart) : (evaluated grace v y).NotYetDue v := by
  unfold ItemPart.NotYetDue evaluated
  cases hy : y.state with
  | pending =>
    dsimp only
    split
    next h => exact fun _ => h
    next => split <;> exact nofun
  | due =>
    dsimp only
    split
    · simp [hy]
    · exact nofun
  | overdue => simp [hy]
  | deferred =>
    dsimp only
    split
    · simp [hy]
    · exact nofun

/-- The immediate judgement of R158. -/
theorem judgeNow_notYetDue (v : Nat) (y : ItemPart) : (judgeNow true true v y).NotYetDue v := by
  unfold ItemPart.NotYetDue
  change (y.toDue v).state = .pending → v < (y.toDue v).due
  unfold ItemPart.toDue
  split
  · exact nofun
  next h => exact fun hp => Nat.lt_of_not_le fun hle => h ⟨hp, hle⟩

theorem judged_notYetDue (smp : Sample) (x : Item) : (judged true smp x).NotYetDue smp := by
  intro z hz (hv : smp.valid x.inForce.kind = true)
  obtain ⟨y, -, rfl⟩ := Option.map_eq_some_iff.1 hz
  rw [if_pos (by simp [hv])]
  exact evaluated_notYetDue _ _ y

theorem Item.pull_notYetDue {smp : Sample} {x : Item} (h : x.NotYetDue smp) (n : Nat) (g : Pull) : (x.pull smp n g).1.NotYetDue smp := by
  cases hx : x.part with
  | none => rw [Item.pull_absent hx]; exact h
  | some y =>
    by_cases hy : y.pull x.inForce (smp.valid x.inForce.kind) (smp.value x.inForce.kind) g = y
    · rw [Item.pull_stands hx hy]; exact h
    · rw [Item.pull_changes hx rfl hy]
      rintro _ ⟨⟩ (hv : smp.valid x.inForce.kind = true)
      rw [hv]
      exact judgeNow_notYetDue _ _

/-- An empty slot holds no item. -/
theorem tget_notYetDue {smp : Sample} {xs : List Item} (h : ∀ x ∈ xs, x.NotYetDue smp) (n : Nat) : (tget xs n).NotYetDue smp := by
  by_cases hn : n < xs.length
  · exact h _ (tget_mem xs n hn)
  · rw [tget_past (Nat.not_lt.1 hn)]
    exact nofun

theorem set_notYetDue {smp : Sample} {xs : List Item} {x : Item} (h : ∀ x ∈ xs, x.NotYetDue smp) (n : Nat) (hx : x.NotYetDue smp) :
    ∀ z ∈ xs.set n x, z.NotYetDue smp := fun z hz => by
  rcases List.mem_or_eq_of_mem_set hz with hz | rfl
  · exact h z hz
  · exact hx

/-! ### An event of the schedule (R161, R164) -/

theorem scheduleEvent_ms (f : State → State) (s : State) :
    (scheduleEvent f s).ms = { (f s).ms with posted := if (f s).jobs.maint then maintCap (f s).ms.items else (f s).ms.posted } := by
  rw [(scheduleEvent_parts f s).2]
  cases hm : (f s).jobs.maint with
  | false => rw [recomputeMaint_same (.inl hm)]; rfl
  | true => rw [recomputeMaint_ms hm]; rfl

/-- A disabled schedule hands the board nothing. -/
theorem scheduleEvent_lb_disabled {f : State → State} {s : State} (h : (f s).jobs.maint = false) :
    (scheduleEvent f s).lb = (f s).lb := by
  rw [(scheduleEvent_parts f s).1, recomputeMaint_same (.inl h)]

theorem scheduleEvent_slots {f : State → State} {s : State} (h : (f s).lb = s.lb) : SlotsElsewhere [1] s (scheduleEvent f s) := by
  intro k hk
  rw [(scheduleEvent_parts f s).1, (recomputeMaint_slots (f s)).2 k (by simpa using hk), h]

/-- The entries of the event, and then at most the BOARD entry of what is handed to the board. -/
theorem logs_scheduleEvent {f : State → State} {s : State} {bs : List EntryBody} (h : Logs bs s (f s)) :
    ∃ rest, rest.length ≤ 1 ∧ Logs (bs ++ rest) s (scheduleEvent f s) := by
  have hposted : ∃ rest, rest.length ≤ 1 ∧ Logs rest (f s) (recomputeMaint (f s)) := by
    have hboard : ∀ cs x, ∃ rest, rest.length ≤ 1 ∧ Logs rest (f s) (boardChange cs ((f s).setMs x)) := fun cs x => by
      obtain ⟨rest, hrest, hlogs⟩ := (announces_boardChange cs ((f s).setMs x)).logs
      exact ⟨rest, hrest, hlogs.congr_left rfl rfl⟩
    have hnone : ∃ rest, rest.length ≤ 1 ∧ Logs rest (f s) (f s) := ⟨[], by simp, logs_nil rfl rfl⟩
    unfold recomputeMaint; repeat' split
    · exact hnone
    · exact hboard _ _
    · exact hboard _ _
    · exact hnone
    · exact hnone
  obtain ⟨rest, hrest, hlogs⟩ := hposted
  refine ⟨rest, hrest, (h.trans hlogs).congr ?_ (by simp)⟩
  unfold scheduleEvent; dsimp only; split <;> rfl

end Sys2Proof.Machine

/-! PROOFS. Every operation of a step as the schedule sees it, and what a pull-forward signal does to an item (PendingItemsAreNotYetDue). -/

namespace Sys2Proof.Machine

/-! ### Operations that keep the schedule (R157, R158) -/

/-- An operation keeps every PENDING item of a valid source short of its due while the schedule is enabled. -/
def KeepsSchedule (s t : State) : Prop := ScheduleOk s → ScheduleOk t

theorem KeepsSchedule.refl (s : State) : KeepsSchedule s s := id

theorem KeepsSchedule.trans {s t u : State} (h : KeepsSchedule s t) (h' : KeepsSchedule t u) : KeepsSchedule s u := h' ∘ h

/-- A change of items that keeps them short of their dues; the schedule is not enabled by it. -/
theorem keepsSchedule_of_items {s t : State} (hmaint : t.jobs.maint = s.jobs.maint)
    (hitems : s.jobs.maint = true → (∀ x ∈ s.ms.items, x.NotYetDue s.ms.sample) → ∀ x ∈ t.ms.items, x.NotYetDue t.ms.sample) :
    KeepsSchedule s t := by
  intro h
  rw [scheduleOk_iff] at h ⊢
  rw [hmaint]
  exact fun hm => hitems hm (h hm)

/-- An operation whose frame names schedule and job. -/
theorem keepsSchedule_of_frame {s t : State} (hmaint : t.jobs.maint = s.jobs.maint) (hms : t.ms = s.ms) : KeepsSchedule s t :=
  keepsSchedule_of_items hmaint fun _ h => by rw [hms]; exact h

theorem keepsSchedule_of_disabled {s t : State} (h : t.jobs.maint = false) : KeepsSchedule s t := fun _ hm => by simp [h] at hm

theorem PostersStand.keepsSchedule {s t : State} (h : PostersStand s t) : KeepsSchedule s t := keepsSchedule_of_frame h.maint h.ms

theorem keepsSchedule_advance (dt : Nat) (s : State) : KeepsSchedule s (s.advance dt) := keepsSchedule_of_frame rfl rfl

/-! ### Events of the schedule (R157 to R159, R165 to R168) -/

/-- Slot MAINT and the publish leave the items. -/
theorem keepsSchedule_scheduleEvent {f : State → State} {s : State} (h : KeepsSchedule s (f s)) :
    KeepsSchedule s (scheduleEvent f s) :=
  h.trans (keepsSchedule_of_items (by simp) fun _ h => by rw [scheduleEvent_ms]; exact h)

/-- Once judged, no item stands at or past its due, whatever stood before. -/
theorem map_judged_notYetDue {smp : Sample} {xs : List Item} : ∀ x ∈ xs.map (judged true smp), x.NotYetDue smp := fun _ hx => by
  obtain ⟨x, -, rfl⟩ := List.mem_map.1 hx
  exact judged_notYetDue smp x

theorem evaluateItems_scheduleOk (s : State) : ScheduleOk (evaluateItems s) := by
  rw [scheduleOk_iff, evaluateItems_ms]
  intro hm
  have hon : s.jobs.maint = true := by simpa using hm
  rw [hon]
  exact map_judged_notYetDue

theorem scheduleTick_scheduleOk (s : State) : ScheduleOk (scheduleTick s) := by
  rw [scheduleOk_iff, scheduleTick_ms]
  intro hm
  have hon : s.jobs.maint = true := by simpa using hm
  rw [hon]
  exact map_judged_notYetDue

theorem keepsSchedule_pullOne (s : State) (g : Pull) : KeepsSchedule s (pullOne s g) :=
  keepsSchedule_of_items (by simp) fun _ h => by
    simpa [pullOne] using set_notYetDue h g.item (Item.pull_notYetDue (tget_notYetDue h g.item) g.item g)

theorem keepsSchedule_takePulls (gs : List Pull) (s : State) : KeepsSchedule s (takePulls gs s) := by
  have hpulls : ∀ u, KeepsSchedule u (gs.foldl pullOne u) := by
    induction gs with
    | nil => exact .refl
    | cons g gs ih => exact fun u => (keepsSchedule_pullOne u g).trans (ih _)
  unfold takePulls; split
  · exact keepsSchedule_scheduleEvent (hpulls s)
  · exact .refl s

theorem finishItem_ms (n : Nat) (y : ItemPart) (s : State) :
    (finishItem n y s).ms = { s.ms with items := s.ms.items.set n { tget s.ms.items n with
      part := some (judgeNow s.jobs.maint (s.ms.sample.valid (tget s.ms.items n).inForce.kind)
        (s.ms.sample.value (tget s.ms.items n).inForce.kind)
        (y.done (s.ms.sample.value (tget s.ms.items n).inForce.kind) (tget s.ms.items n).inForce.interval)) } } := by
  simp [finishItem, setPart, tmod]

theorem postponeItem_ms (n : Nat) (y : ItemPart) (s : State) :
    (postponeItem n y s).ms = { s.ms with
      items := s.ms.items.set n { tget s.ms.items n with part := some (y.postpone s.ms.deferArg) } } := by
  simp [postponeItem, setPart, tmod]

theorem keepsSchedule_itemDone (n : Nat) (s : State) : KeepsSchedule s (itemDone n s).state := by
  unfold itemDone; repeat' split
  case h_2.isTrue =>
    refine keepsSchedule_scheduleEvent (keepsSchedule_of_items (by simp) fun hm h => ?_)
    rw [finishItem_ms, hm]
    refine set_notYetDue h n ?_
    rintro _ ⟨⟩ (hv : s.ms.sample.valid (tget s.ms.items n).inForce.kind = true)
    rw [hv]
    exact judgeNow_notYetDue _ _
  all_goals exact .refl s

theorem keepsSchedule_itemDefer (n : Nat) (s : State) : KeepsSchedule s (itemDefer n s).state := by
  unfold itemDefer; dsimp only; repeat' split
  case h_2.isFalse.isFalse.isFalse =>
    refine keepsSchedule_scheduleEvent (keepsSchedule_of_items (by simp) fun _ h => ?_)
    rw [postponeItem_ms]
    refine set_notYetDue h n ?_
    rintro _ ⟨⟩ -
    exact nofun
  all_goals exact .refl s

theorem keepsSchedule_enableMaint (s : State) : KeepsSchedule s (enableMaint s).state := by
  unfold enableMaint; repeat' split
  · exact .refl s
  · rw [accept_state]
    exact keepsSchedule_scheduleEvent (fun _ => evaluateItems_scheduleOk _)
  · exact .refl s

theorem keepsSchedule_disableMaint (s : State) : KeepsSchedule s (disableMaint s).state := by
  unfold disableMaint; split
  · exact keepsSchedule_of_disabled (by simp [stopMaint])
  · exact .refl s

/-! ### Frames and shaft lines (R14, R159) -/

theorem keepsSchedule_evaluateFrame (sd : Side) (f : Frame) (s : State) : KeepsSchedule s (evaluateFrame sd f s) := by
  have hjudged : KeepsSchedule s (linesJudged sd f s) :=
    keepsSchedule_of_frame (by simp [linesJudged]) (by simp [linesJudged])
  rw [evaluateFrame_eq]
  exact (hjudged.trans (keepsSchedule_takePulls (evaluation sd f s).2.pulls _)).trans (keepsSchedule_of_frame (by simp) (by simp))

theorem keepsSchedule_revolutionToFrames (sd : Side) (p v : Nat) (s : State) : KeepsSchedule s (revolutionToFrames sd p v s) := by
  unfold revolutionToFrames; dsimp only; repeat' split
  case h_2 => exact (keepsSchedule_evaluateFrame sd _ s).trans (postersStand_tryStart sd v _).keepsSchedule
  all_goals exact keepsSchedule_of_frame (by simp) (by simp)

theorem keepsSchedule_revolutionEvent (sd : Side) (p v : Nat) (s : State) : KeepsSchedule s (revolutionEvent sd p v s) := by
  refine (keepsSchedule_revolutionToFrames sd p v s).trans (keepsSchedule_of_frame ?_ ?_)
  all_goals unfold revolutionEvent; cases sd <;> simp

theorem keepsSchedule_forwardIndex (sd : Side) (s : State) : KeepsSchedule s (forwardIndex sd s) := by
  by_cases hslip : IsSlip sd s
  · rw [forwardIndex_slip hslip]
    exact keepsSchedule_of_frame (by simp) (by simp)
  · rw [forwardIndex_noSlip hslip]
    split
    · rw [closePeriod_eq]
      have hclosed : KeepsSchedule s (periodClosed sd (s.sau.side sd).reloaded s) :=
        keepsSchedule_of_frame (by simp [periodClosed]) (by simp [periodClosed])
      exact hclosed.trans (keepsSchedule_revolutionEvent sd _ _ _)
    · exact keepsSchedule_of_frame rfl rfl

theorem keepsSchedule_edgeMeaning (l : SauLine) (level : Bool) (s : State) : KeepsSchedule s (edgeMeaning l level s) := by
  cases l with
  | a | b | t => exact keepsSchedule_of_frame (by simp [edgeMeaning]) (by simp [edgeMeaning])
  | z =>
    change KeepsSchedule s (takeIndex level s)
    unfold takeIndex; repeat' split
    · exact keepsSchedule_of_frame (by simp) (by simp)
    · exact keepsSchedule_forwardIndex _ s
    · exact .refl s
  | lsz =>
    change KeepsSchedule s (takeLsIndex level s)
    unfold takeLsIndex; split
    · exact keepsSchedule_forwardIndex _ s
    · exact .refl s

theorem keepsSchedule_onEdge (l : SauLine) (level : Bool) (s : State) :
    KeepsSchedule s (onEdge l level (edgeMeaning l level) s) := by
  have hset : ∀ x : Sau, KeepsSchedule s (s.setSau x) := fun _ => keepsSchedule_of_frame rfl rfl
  unfold onEdge; dsimp only; split
  · exact (hset _).trans (keepsSchedule_edgeMeaning l level _)
  · exact hset _

/-! ### The clock (R137, R139) -/

/-- Of the three takers of a tick only the schedule changes the schedule. -/
theorem keepsSchedule_handTick (order : TickOrder) (s : State) : KeepsSchedule s (handTick order s) := by
  have hms : ∀ u, KeepsSchedule u (scheduleTick u) := fun u _ => scheduleTick_scheduleOk u
  have hlb : ∀ u, KeepsSchedule u (boardTick u) := fun u => (postersStand_boardTick u).keepsSchedule
  have hicd : ∀ u, KeepsSchedule u (icingTick u) := fun u => (postersStand_icingTick u).keepsSchedule
  unfold handTick
  cases order with
  | icdLbMs => exact ((hicd s).trans (hlb _)).trans (hms _)
  | icdMsLb => exact ((hicd s).trans (hms _)).trans (hlb _)
  | lbIcdMs => exact ((hlb s).trans (hicd _)).trans (hms _)
  | lbMsIcd => exact ((hlb s).trans (hms _)).trans (hicd _)
  | msIcdLb => exact ((hms s).trans (hicd _)).trans (hlb _)
  | msLbIcd => exact ((hms s).trans (hlb _)).trans (hicd _)

theorem keepsSchedule_issueTick (order : TickOrder) (s : State) : KeepsSchedule s (issueTick order s) :=
  (keepsSchedule_of_frame (by simp) (by simp)).trans (keepsSchedule_handTick order _)

theorem keepsSchedule_phaseTick (order : TickOrder) (s : State) : KeepsSchedule s (phaseTick order s) :=
  (keepsSchedule_of_frame (by simp) (by simp)).trans (keepsSchedule_issueTick order _)

theorem keepsSchedule_alignTick (order : TickOrder) (s : State) : KeepsSchedule s (alignTick order s) := by
  have hzero : KeepsSchedule s (zeroPhase s) := keepsSchedule_of_frame rfl rfl
  unfold alignTick; split
  · exact hzero.trans (keepsSchedule_issueTick order _)
  · exact hzero

theorem keepsSchedule_takePps (order : TickOrder) (s : State) : KeepsSchedule s (takePps order s) := by
  have haccept : KeepsSchedule s (s.setCc (s.cc.acceptPps s.now)) := keepsSchedule_of_frame rfl rfl
  have halign := haccept.trans (keepsSchedule_alignTick order _)
  unfold takePps; dsimp only; repeat' split
  · exact halign.trans (keepsSchedule_of_frame (by simp) (by simp))
  · exact halign
  · exact haccept

/-! ### Written records (R154, R164, R189) -/

/-- A written definition waits for its tick: state part and definition in force stand (R154, R155). -/
theorem keepsSchedule_writeItem (n : Nat) (ms : List MaskedWord) (s : State) : KeepsSchedule s (writeItem n ms s) :=
  keepsSchedule_of_items (by simp) fun _ h => by
    have hslot : Item.NotYetDue s.ms.sample { tget s.ms.items n with
        written := (tget s.ms.items n).written.write ms, takePending := true } := tget_notYetDue h n
    simpa [writeItem, tmod] using set_notYetDue h n hslot

theorem keepsSchedule_writeRecord (p : PortId) (g r : Nat) (ms : List MaskedWord) (s : State) :
    KeepsSchedule s (writeRecord p g r ms s) := by
  unfold writeRecord; repeat' split
  case h_10.isTrue => exact keepsSchedule_writeItem r ms s
  case h_10.isFalse.isTrue => exact keepsSchedule_of_items rfl fun _ h => h
  all_goals exact keepsSchedule_of_frame (by simp) (by simp)

theorem keepsSchedule_completeWrite (p : PortId) (g : Nat) (buf : List BufferWord) (s : State) :
    KeepsSchedule s (completeWrite p g buf s) := by
  have happlied : ∀ (rs : List Nat) u, KeepsSchedule u (rs.foldl (applyRecord p g buf) u) := by
    intro rs
    induction rs with
    | nil => exact .refl
    | cons r rs ih =>
      refine fun u => KeepsSchedule.trans ?_ (ih _)
      unfold applyRecord; dsimp only; split
      · exact keepsSchedule_writeRecord _ _ _ _ _
      · exact .refl u
  have hposted : ∀ cs t, KeepsSchedule t (boardChange cs t) := fun _ _ => keepsSchedule_of_frame (by simp) (by simp)
  exact (happlied _ s).trans (hposted _ _)

theorem keepsSchedule_writeWhole (p : PortId) (g r : Nat) (ws : List MaskedWord) (s : State) :
    KeepsSchedule s (writeWhole p g r ws s) := by
  unfold writeWhole; dsimp only; repeat' split
  · exact .refl s
  · exact keepsSchedule_completeWrite _ _ _ s
  · exact keepsSchedule_of_frame rfl rfl
  · exact .refl s

theorem keepsSchedule_completeTransaction (p : PortId) (s : State) : KeepsSchedule s (completeTransaction p s) := by
  have hclosed : KeepsSchedule s (s.setPort p (s.pi.get p).close) := keepsSchedule_of_frame rfl rfl
  unfold completeTransaction; dsimp only; repeat' split
  · exact hclosed.trans (keepsSchedule_completeWrite _ _ _ _)
  · exact hclosed
  · exact hclosed

/-! ### Commands (R165 to R168, R193) -/

/-- Only the job commands of MAINT move the schedule's job. -/
theorem jobCommands_maint (p : PortId) (arg : Word) {j : Job} (hj : j ≠ .maint) (s : State) :
    (ownerAnswer p arg (.enable j) s).state.jobs.maint = s.jobs.maint ∧
      (ownerAnswer p arg (.disable j) s).state.jobs.maint = s.jobs.maint := by
  cases j with
  | shaft => exact ⟨(postersStand_enableShaft s).maint, (postersStand_disableShaft s).maint⟩
  | gear => exact ⟨(postersStand_enableGear s).maint, (postersStand_disableGear s).maint⟩
  | icing => exact ⟨(postersStand_enableIcing s).maint, (postersStand_disableIcing s).maint⟩
  | grid =>
    dsimp only [ownerAnswer]
    unfold enableGrid disableGrid
    constructor
    · repeat' split
      all_goals simp
    · repeat' split
      all_goals simp
  | coinc =>
    dsimp only [ownerAnswer]
    unfold enableCoinc disableCoinc
    constructor
    · repeat' split
      all_goals simp
    · repeat' split
      all_goals simp
  | maint => exact absurd rfl hj

theorem keepsSchedule_ownerAnswer (p : PortId) (arg : Word) (c : Command) (s : State) :
    KeepsSchedule s (ownerAnswer p arg c s).state := by
  cases c with
  | enable j =>
    cases j with
    | maint => exact keepsSchedule_enableMaint s
    | shaft | gear | grid | coinc | icing =>
      exact keepsSchedule_of_frame (jobCommands_maint p arg (by decide) s).1 (by simp [ownerAnswer])
  | disable j =>
    cases j with
    | maint => exact keepsSchedule_disableMaint s
    | shaft | gear | grid | coinc | icing =>
      exact keepsSchedule_of_frame (jobCommands_maint p arg (by decide) s).2 (by simp [ownerAnswer])
  | itemDone => exact keepsSchedule_itemDone _ s
  | itemDefer => exact keepsSchedule_itemDefer _ s
  | _ => exact keepsSchedule_of_frame (by simp [ownerAnswer]) (by simp [ownerAnswer])

theorem keepsSchedule_takeControl {p : PortId} {canonical : Word} {ok : Word → Bool} {arg : Word} {body : State → Reply} {s : State}
    (h : KeepsSchedule s (body s).state) : KeepsSchedule s (takeControl p canonical ok arg body s) := by
  unfold takeControl; split
  · exact .refl s
  · exact h.trans (keepsSchedule_of_frame (by simp) (by simp))

theorem keepsSchedule_giveCommand (p : PortId) (arg : Word) (c : Command) (s : State) :
    KeepsSchedule s (giveCommand c p arg (ownerAnswer p arg c) s) := by
  refine keepsSchedule_takeControl ?_
  unfold permitted; split
  · exact keepsSchedule_ownerAnswer p arg c s
  · exact .refl s

/-! ### A step -/

theorem exec_keepsSchedule {c : Instr} {s t : State} (he : exec c s = .next t) : KeepsSchedule s t := by
  have hfrom : ∀ {t'}, KeepsSchedule s t' → .next t' = exec c s → KeepsSchedule s t := by
    intro t' hkeeps he'
    obtain rfl : t' = t := by rw [he] at he'; injection he'
    exact hkeeps
  have hafter : ∀ {dt t'}, KeepsSchedule (s.advance dt) t' → .next t' = exec c s → KeepsSchedule s t := fun hkeeps =>
    hfrom ((keepsSchedule_advance _ s).trans hkeeps)
  have htick : ∀ (b : Prop) [Decidable b] (order : TickOrder), KeepsSchedule s (if b then phaseTick order s else s) := by
    intro b _ order
    split
    · exact keepsSchedule_phaseTick order s
    · exact .refl s
  have hedge : ∀ l dt level, c = edgeOf l dt level → KeepsSchedule s t := fun l dt level hc =>
    hafter (keepsSchedule_onEdge l level (s.advance dt)) (by rw [hc, exec_edgeOf])
  cases hc : controlOf c with
  | some k => exact hafter (keepsSchedule_giveCommand _ _ _ (s.advance k.dt)) (exec_control hc s).symm
  | none =>
    cases c with
    | partReset a b d => exact hfrom (t' := partReset a b d s) (keepsSchedule_of_disabled rfl) rfl
    | encoderEdge dt line level =>
      cases line with
      | a => exact hedge .a dt level rfl
      | b => exact hedge .b dt level rfl
    | indexEdge dt level => exact hedge .z dt level rfl
    | toothEdge dt level => exact hedge .t dt level rfl
    | lsIndexEdge dt level => exact hedge .lsz dt level rfl
    | standstillTimerExpiry sd =>
      cases hd : (s.sau.side sd).standstill with
      | none => exact hfrom (.refl s) (by simp only [exec, execStandstillTimerExpiry, hd])
      | some d =>
        exact hafter (dt := d - s.now) (t' := standstillExpire sd (s.advanceTo d)) (keepsSchedule_of_frame (by simp) (by simp))
          (by simp only [exec, execStandstillTimerExpiry, hd])
    | linkTimerExpiry =>
      cases hd : s.ocr.link.timer with
      | none => exact hfrom (.refl s) (by simp only [exec, execLinkTimerExpiry, hd])
      | some d =>
        exact hafter (dt := d - s.now) (t' := linkExpire (s.advanceTo d)) (keepsSchedule_of_frame (by simp) (by simp))
          (by simp only [exec, execLinkTimerExpiry, hd])
    | lossTimerExpiry =>
      cases hd : s.ghm.loss with
      | none => exact hfrom (.refl s) (by simp only [exec, execLossTimerExpiry, hd])
      | some d =>
        exact hafter (dt := d - s.now) (t' := lossExpire (s.advanceTo d)) (keepsSchedule_of_frame (by simp) (by simp))
          (by simp only [exec, execLossTimerExpiry, hd])
    | strobe =>
      cases hx : s.ghm.gen with
      | none => exact hfrom (.refl s) (by simp only [exec, execStrobe, hx])
      | some x =>
        cases hd : x.due with
        | none => exact hfrom (.refl s) (by simp only [exec, execStrobe, hx, hd])
        | some d =>
          exact hafter (dt := d - s.now) (postersStand_strobe (s.advanceTo d).now x (s.advanceTo d)).keepsSchedule
            (by simp only [exec, execStrobe, hx, hd])
    | clockSetDeadline =>
      cases ha : s.cc.armed with
      | none => exact hfrom (.refl s) (by simp only [exec, execClockSetDeadline, ha])
      | some a =>
        exact hafter (dt := a.deadline - s.now) (t' := abandonClock (s.advanceTo a.deadline))
          (keepsSchedule_of_frame (by simp) (by simp)) (by simp only [exec, execClockSetDeadline, ha])
    | gzxEdge dt | gridFrame dt =>
      refine hafter (dt := dt) (t' := _) ?_ rfl
      split
      · exact keepsSchedule_of_frame (by simp) (by simp)
      · exact .refl _
    | ppsEdge dt rising order =>
      refine hafter (dt := dt) (t' := _) ?_ rfl
      repeat' split
      · exact keepsSchedule_of_frame rfl rfl
      · exact keepsSchedule_takePps order _
      · exact .refl _
    | secondTick order => exact hfrom (keepsSchedule_phaseTick order s) rfl
    | ackTimerExpiry order | thawTimerExpiry order | operatingRecordStale order | intervalClose order =>
      exact hfrom (htick _ order) rfl
    | sampleSet dt | publishComplete dt | transactionStart dt | transactionHeader dt | headerWord dt | fillerWord dt
    | readDataWord dt | writeDataWord dt | commandWord dt | portReset dt | portResetRelease dt =>
      exact hafter (dt := dt) (keepsSchedule_of_frame (by simp) (by simp)) rfl
    | recordWrite dt p => exact hafter (keepsSchedule_completeTransaction p (s.advance dt)) rfl
    | operatingArrival dt | statusWrite dt | shaftConfigurationWrite dt | gridConfigurationWrite dt | watchConfigurationWrite dt
    | icingConfigurationWrite dt => exact hafter (keepsSchedule_writeWhole _ _ _ _ (s.advance dt)) rfl
    | lineDefinitionWrite dt | itemDefinitionWrite dt =>
      refine hafter (dt := dt) (t' := _) ?_ rfl
      split
      · exact keepsSchedule_writeWhole _ _ _ _ _
      · exact .refl _
    | unknownCommand dt p command arg =>
      refine hafter (dt := dt) (t' := takeUnknown p command arg (s.advance dt)) ?_ rfl
      unfold takeUnknown; split
      · exact keepsSchedule_takeControl (.refl _)
      · exact .refl _
    | invalidJobCode dt p enable job arg =>
      refine hafter (dt := dt) (t' := takeNoJob p enable job arg (s.advance dt)) ?_ rfl
      unfold takeNoJob; split
      · exact keepsSchedule_takeControl (.refl _)
      · exact .refl _
    | _ => exact absurd hc (nofun)

theorem step_keepsSchedule {s t : State} (h : step s = .next t) : KeepsSchedule s t := by
  unfold step at h
  split at h
  · injection h with h
    exact h ▸ .refl s
  next c rest _ => exact (keepsSchedule_of_frame (t := { s with pending := rest }) rfl rfl).trans (exec_keepsSchedule h)

/-- Settles O59: each command of the queue keeps the schedule, and a signal does to an item what the table of R159 says. -/
theorem pendingItemsAreNotYetDue : Obligations.PendingItemsAreNotYetDue := by
  unfold Obligations.PendingItemsAreNotYetDue
  refine ⟨fun s t hs hstep => step_keepsSchedule hstep hs, fun smp n g x => ?_⟩
  intro d v due pull item
  refine ⟨Item.pull_absent, fun y hy => ⟨fun hp h => ?_, fun hp hv hlt => ?_, fun h => ?_, fun hd hg => ?_⟩⟩
  · exact Item.pull_stands hy (ItemPart.pull_later hp h)
  · exact Item.pull_earlier hy hp hv rfl hlt
  · exact Item.pull_stands hy (ItemPart.pull_unmoved h)
  · exact Item.pull_danger hy hd hg

end Sys2Proof.Machine

/-! PROOFS. ITEM DONE, ITEM DEFER, ENABLE MAINT and DISABLE MAINT (ItemCommands, MaintJobCommands). -/

namespace Sys2Proof.Machine

/-! ### ITEM DONE (R156, R158, R165) -/

/-- The state part that ITEM DONE at value `v` leaves, judged at once while the schedule is enabled (R158). -/
theorem judgeNow_done (enabled : Bool) (v interval : Nat) (y : ItemPart) :
    judgeNow enabled true v (y.done v interval) =
      ⟨if enabled = true ∧ limited (v + interval) ≤ v then .due else .pending, limited (v + interval), some v, none, none, false⟩ := by
  unfold judgeNow ItemPart.toDue ItemPart.done
  cases enabled with
  | false => rfl
  | true => by_cases hdue : limited (v + interval) ≤ v <;> simp [hdue]

/-- The DONE entry comes first, and at most the ITEM entry of the immediate judgement follows (log entry 24). -/
theorem logs_finishItem (n : Nat) (y : ItemPart) (s : State) :
    ∃ rest, rest.length ≤ 1 ∧
      Logs (itemCommandEntry .done n y.state .pending (tget s.ms.items n).inForce.code :: rest) s (finishItem n y s) := by
  refine ⟨changeEntry n (tget s.ms.items n).inForce.code _ _, ?_, Logs.congr_left (logs_journalAll _ (setPart n _ s)) rfl rfl⟩
  unfold changeEntry; split <;> simp

/-- The checks of ITEM DONE, in their order. -/
theorem itemDone_checks (n : Nat) (s : State) :
    (32 ≤ n → itemDone n s = refuse .badArgument s) ∧
      (n < 32 → (tget s.ms.items n).part = none → itemDone n s = refuse .wrongState s) ∧
      (∀ y, n < 32 → (tget s.ms.items n).part = some y → itemDone n s =
        if s.ms.sample.valid (tget s.ms.items n).inForce.kind then accept (scheduleEvent (finishItem n y) s)
        else refuse (invalidSource (tget s.ms.items n).inForce.kind) s) := by
  unfold itemDone
  refine ⟨fun h => if_pos h, fun h hp => ?_, fun y h hp => ?_⟩
  · rw [if_neg (Nat.not_le.2 h), hp]
  · rw [if_neg (Nat.not_le.2 h), hp]

theorem invalidSource_eq (k : ItemKind) : invalidSource k = if k = .date then .clockUnset else .unrestored := by
  cases k <;> rfl

/-! ### ITEM DEFER (R166) -/

theorem logs_postponeItem (n : Nat) (y : ItemPart) (s : State) :
    Logs [itemCommandEntry .defer n y.state .deferred (tget s.ms.items n).inForce.code] s (postponeItem n y s) :=
  Logs.congr_left (logs_journal _ (setPart n _ s)) rfl rfl

/-- The checks of ITEM DEFER, in their order. -/
theorem itemDefer_checks (n : Nat) (s : State) :
    let v := s.ms.sample.value (tget s.ms.items n).inForce.kind
    (32 ≤ n → itemDefer n s = refuse .badArgument s) ∧
      (n < 32 → (∀ y, (tget s.ms.items n).part = some y → y.state = .pending) → itemDefer n s = refuse .wrongState s) ∧
      (∀ y, n < 32 → (tget s.ms.items n).part = some y → y.state ≠ .pending → itemDefer n s =
        if y.state = .deferred ∨ y.mark then refuse .alreadyDeferred s
        else if s.ms.deferArg ≤ v ∨ y.due + (tget s.ms.items n).inForce.maxDefer < s.ms.deferArg then refuse .deferLimit s
        else accept (scheduleEvent (postponeItem n y) s)) := by
  intro v
  unfold itemDefer
  refine ⟨fun h => if_pos h, fun h hp => ?_, fun y h hp hy => ?_⟩
  · rw [if_neg (Nat.not_le.2 h)]
    dsimp only
    cases hx : (tget s.ms.items n).part with
    | none => rfl
    | some y => exact if_pos (hp y hx)
  · rw [if_neg (Nat.not_le.2 h)]
    dsimp only
    rw [hp]
    exact if_neg hy

/-! ### What the two item commands leave -/

/-- What an accepted item command leaves: the items `xs`, slot MAINT as they ask for it while the schedule is enabled, and an entry of slot `n`. -/
structure ItemCommanded (n : Nat) (k : Kind) (a b : ItemState) (xs : List Item) (u t : State) : Prop where
  touches : OnlyTouches [.ms, .lb, .ej, .rep, .pi, .pub] u t
  items : t.ms.items = xs
  sample : t.ms.sample = u.ms.sample
  deferArg : t.ms.deferArg = u.ms.deferArg
  disabled : u.jobs.maint = false → t.ms.posted = u.ms.posted ∧ t.lb = u.lb
  enabled : u.jobs.maint = true → t.ms.posted = maintCap t.ms.items ∧ SlotsElsewhere [1] u t
  entry : ∃ e ∈ t.ej.ring, e.seq = u.ej.next ∧ e.source = .ms ∧ e.inst = some n ∧ e.kind = k ∧ e.fromState = some a.code ∧
    e.toState = some b.code

/-- An event of the schedule that changes items alone and whose first entry is that of a command, once answered. -/
theorem itemCommanded_answered {n code : Nat} {k : Kind} {a b : ItemState} {xs : List Item} {f : State → State} {u : State}
    (p : PortId) (raw arg : Word) (htouch : OnlyTouches [.ms, .ej, .rep] u (f u)) (hms : (f u).ms = { u.ms with items := xs })
    (hlogs : ∃ rest, rest.length ≤ 1 ∧ Logs (itemCommandEntry k n a b code :: rest) u (f u)) :
    ItemCommanded n k a b xs u (writeResult p raw arg (accept (scheduleEvent f u))) ∧
      (writeResult p raw arg (accept (scheduleEvent f u))).pi = (u.answered p raw arg .accepted .none).pi := by
  have hjobs : (f u).jobs = u.jobs := htouch .jobs (by decide)
  have hlb : (f u).lb = u.lb := htouch .lb (by decide)
  have hpi : (f u).pi = u.pi := htouch .pi (by decide)
  obtain ⟨rest, hrest, hfirst⟩ := hlogs
  obtain ⟨board, hboard, hall⟩ := logs_scheduleEvent hfirst
  have hshort : (rest ++ board).length < 256 := by rw [List.length_append]; omega
  refine ⟨⟨?_, ?_, ?_, ?_, fun hoff => ⟨?_, ?_⟩, fun hon => ⟨?_, ?_⟩, ?_⟩, State.answered_pi_congr (by simpa using hpi)⟩
  · simp_all [onlyTouches_iff]
  · simp [scheduleEvent_ms, hms]
  · simp [scheduleEvent_ms, hms]
  · simp [scheduleEvent_ms, hms]
  · simp [scheduleEvent_ms, hms, hjobs, hoff]
  · exact (scheduleEvent_lb_disabled (by rw [hjobs]; exact hoff)).trans hlb
  · simp [scheduleEvent_ms, hms, hjobs, hon]
  · exact scheduleEvent_slots hlb
  · exact ⟨_, Logs.mem (first := []) (hall.congr rfl rfl) hshort, rfl, rfl, rfl, rfl, rfl, rfl⟩

/-- Settles O30: the checks of the two commands in their order, and one event of the schedule for each that is accepted. -/
theorem itemCommands : Obligations.ItemCommands := by
  unfold Obligations.ItemCommands
  intro dt p arg raw s u n x v done deferred
  refine ⟨fun hr hd => ?_, fun hr hd => ?_⟩
  · have hexec := exec_delivered (i := .itemDone dt p arg) (k := ⟨dt, p, .itemDone, arg⟩) rfl hd (List.mem_singleton.2 hr)
    dsimp only [ownerAnswer] at hexec
    obtain ⟨hrange, habsent, hpresent⟩ := itemDone_checks n u
    refine ⟨fun h => ?_, fun h hp => ?_, fun h hp hv => ?_, fun y h hp hv => ?_⟩
    · rw [hrange h] at hexec
      exact hexec
    · rw [habsent h hp] at hexec
      exact hexec
    · obtain ⟨y, hy⟩ := Option.ne_none_iff_exists'.1 hp
      rw [hpresent y h hy, if_neg (by simp [x, hv]), invalidSource_eq] at hexec
      exact hexec
    · rw [hpresent y h hp, if_pos hv] at hexec
      intro due
      have hms := finishItem_ms n y u
      rw [hv, judgeNow_done] at hms
      obtain ⟨hleft, hpi⟩ := itemCommanded_answered p raw arg (f := finishItem n y) (by simp [onlyTouches_iff]) hms (logs_finishItem n y u)
      exact ⟨_, hexec, hleft.touches, hleft.items, hleft.sample, hleft.deferArg, hleft.disabled, hleft.enabled, hleft.entry, hpi⟩
  · have hexec := exec_delivered (i := .itemDefer dt p arg) (k := ⟨dt, p, .itemDefer, arg⟩) rfl hd (List.mem_singleton.2 hr)
    dsimp only [ownerAnswer] at hexec
    obtain ⟨hrange, hpending, hopen⟩ := itemDefer_checks n u
    refine ⟨fun h => ?_, fun h hp => ?_, fun y h hp hy hagain => ?_, fun y h hp hy hmark hlimit => ?_, fun y h hp hy hmark hv hlimit => ?_⟩
    · rw [hrange h] at hexec
      exact hexec
    · rw [hpending h hp] at hexec
      exact hexec
    · rw [hopen y h hp hy, if_pos hagain] at hexec
      exact hexec
    · have hstate : y.state ≠ .pending ∧ y.state ≠ .deferred := by rcases hy with hy | hy <;> simp [hy]
      rw [hopen y h hp hstate.1, if_neg (by simp [hstate.2, hmark]), if_pos hlimit] at hexec
      exact hexec
    · have hstate : y.state ≠ .pending ∧ y.state ≠ .deferred := by rcases hy with hy | hy <;> simp [hy]
      rw [hopen y h hp hstate.1, if_neg (by simp [hstate.2, hmark]), if_neg (not_or.2 ⟨Nat.not_le.2 hv, Nat.not_lt.2 hlimit⟩)] at hexec
      obtain ⟨hleft, hpi⟩ := itemCommanded_answered p raw arg (f := postponeItem n y) (by simp [onlyTouches_iff]) (postponeItem_ms n y u)
        ⟨[], by simp, logs_postponeItem n y u⟩
      exact ⟨_, hexec, hleft.touches, hleft.items, hleft.sample, hleft.deferArg, hleft.disabled, hleft.enabled, hleft.entry, hpi⟩

/-! ### ENABLE MAINT and DISABLE MAINT (R157, R161, R167, R168) -/

/-- ENABLE MAINT before slot MAINT is recomputed: the job is on and every item is judged. -/
def maintStarted (s : State) : State := evaluateItems (s.setJobs { s.jobs with maint := true })

theorem enableMaint_accepts {s : State} (h : s.jobs.maint = false) (hi : ∃ x ∈ s.ms.items, x.inForce.present = true) :
    enableMaint s = accept (scheduleEvent maintStarted s) := by
  unfold enableMaint
  rw [if_neg (by simp [h]), if_pos (by simpa using hi)]
  rfl

theorem maintStarted_ms (s : State) :
    (maintStarted s).ms = { s.ms with items := s.ms.items.map (judged true s.ms.sample) } := evaluateItems_ms _

theorem disableMaint_accepts {s : State} (h : s.jobs.maint = true) : disableMaint s = accept (stopMaint s) := if_pos h

/-- The board takes the withdrawal of slot MAINT where a cap stood posted, and nothing otherwise. -/
theorem stopMaint_lb (s : State) :
    (stopMaint s).lb = (boardChange (if s.ms.posted.isSome then [⟨1, .withdraw⟩] else []) s).lb :=
  boardChange_lb_congr _ rfl rfl

/-- Settles O31: ENABLE MAINT is an event of the schedule that judges every item, DISABLE MAINT is `stopMaint`. -/
theorem maintJobCommands : Obligations.MaintJobCommands := by
  unfold Obligations.MaintJobCommands
  intro dt p arg raw s u each
  refine ⟨fun hr hd h hi => ?_, fun hr hd h => ?_⟩
  · have hexec := exec_delivered (i := .enableMaint dt p arg) (k := ⟨dt, p, .enable .maint, arg⟩) rfl hd hr
    dsimp only [ownerAnswer] at hexec
    rw [enableMaint_accepts h hi] at hexec
    have hjobs : (maintStarted u).jobs = { u.jobs with maint := true } := by simp [maintStarted]
    have hitems : (maintStarted u).ms.items = u.ms.items.map each := by rw [maintStarted_ms]; rfl
    refine ⟨_, hexec, by simp [onlyTouches_iff, maintStarted], by simp [hjobs], ?_, ?_, ?_, ?_, ?_, ?_⟩
    · simpa [scheduleEvent_ms] using hitems
    · simp [scheduleEvent_ms, maintStarted_ms]
    · simp [scheduleEvent_ms, maintStarted_ms]
    · simp [scheduleEvent_ms, hjobs]
    · exact scheduleEvent_slots (by simp [maintStarted])
    · exact State.answered_pi_congr (by simp [maintStarted])
  · have hexec := exec_delivered (i := .disableMaint dt p arg) (k := ⟨dt, p, .disable .maint, arg⟩) rfl hd hr
    dsimp only [ownerAnswer] at hexec
    rw [disableMaint_accepts h] at hexec
    have hlb := stopMaint_lb u
    refine ⟨_, hexec, by simp [onlyTouches_iff, stopMaint], by simp [stopMaint], by simp [stopMaint], fun hposted => ?_, fun hposted => ?_,
      fun k hk => ?_, State.answered_pi_congr (by simp [stopMaint])⟩
    · rw [if_pos (Option.isSome_iff_ne_none.2 hposted)] at hlb
      exact (congrArg (fun b : Lb => (tget b.slots 1).active) hlb).trans (boardChange_withdrawn 1 u)
    · rw [hposted] at hlb
      exact hlb
    · change tget (stopMaint u).lb.slots k = _
      rw [hlb]
      refine boardChange_other _ u k fun c hc => ?_
      split at hc
      · rw [List.mem_singleton.1 hc]
        simpa [eq_comm] using hk
      · cases hc

end Sys2Proof.Machine

/-! PROOFS. Every operation of a step as journal, cursors and flags see it: entries appended, copies that lose no flag, and nothing else short of
part reset (JournalStaysConsecutive, FlagsStayUntilTheirPortClearsThem). -/

namespace Sys2Proof.Machine

/-! ### The moves of journal and status copies -/

/-- A cursor in range stays in range, and no more is pending than before (R170, R174). -/
def RepPort.ReachesIn (e : Ej) (r r' : RepPort) : Prop :=
  r.cursor < 4294967296 → r'.cursor < 4294967296 ∧ pendingCount e r' ≤ pendingCount e r

/-- What an operation can be to the journal and the ports' copies: an entry appended, or copies whose cursors stay in reach and that lose no flag,
except those of the ports of `C`, which may clear theirs. -/
inductive ReportMove (C : PortId → Prop) : State → State → Prop
  | appends (time : Nat) (unset : Bool) (b : EntryBody) (s : State) : ReportMove C s (s.appendStamped time unset b)
  | copies {s t : State} : t.ej = s.ej → (∀ p, (s.rep.get p).ReachesIn s.ej (t.rep.get p)) →
      (∀ p f, ¬C p → (s.rep.get p).hasFlag f = true → (t.rep.get p).hasFlag f = true) → ReportMove C s t

/-- Such operations, one after the other. -/
def ReportMoves (C : PortId → Prop) : State → State → Prop := Relation.ReflTransGen (ReportMove C)

theorem RepPort.reachesIn_of_cursor {r r' : RepPort} (h : r'.cursor = r.cursor) (e : Ej) : r.ReachesIn e r' := by
  intro hr
  exact ⟨h ▸ hr, by rw [pendingCount, h]; exact Nat.le_refl _⟩

theorem ReportMoves.refl {C : PortId → Prop} (s : State) : ReportMoves C s s := Relation.ReflTransGen.refl

theorem ReportMoves.trans {C : PortId → Prop} {s t u : State} (h : ReportMoves C s t) (h' : ReportMoves C t u) : ReportMoves C s u :=
  Relation.ReflTransGen.trans h h'

/-- What every move keeps, a chain of moves keeps. -/
theorem ReportMoves.keeps {C : PortId → Prop} {I : State → Prop} (hI : ∀ {s t}, ReportMove C s t → I s → I t) {s t : State}
    (h : ReportMoves C s t) (hs : I s) : I t := by
  induction h with
  | refl => exact hs
  | tail _ hmove ih => exact hI hmove ih

section Closure
variable {C : PortId → Prop} {s t : State} (h : ReportMoves C s t)
include h

theorem ReportMoves.appendStamped (time : Nat) (unset : Bool) (b : EntryBody) : ReportMoves C s (t.appendStamped time unset b) :=
  h.tail (.appends time unset b t)

theorem ReportMoves.journal (b : EntryBody) : ReportMoves C s (t.journal b) := h.appendStamped _ _ b

theorem ReportMoves.journalAll (bs : List EntryBody) : ReportMoves C s (t.journalAll bs) := by
  induction bs generalizing t with
  | nil => exact h
  | cons b bs ih => exact ih (h.journal b)

/-- Copies whose cursors stand and that lose no flag. -/
theorem ReportMoves.copies {u : State} (hej : u.ej = t.ej) (hcursor : ∀ p, (u.rep.get p).cursor = (t.rep.get p).cursor)
    (hflag : ∀ p f, ¬C p → (t.rep.get p).hasFlag f = true → (u.rep.get p).hasFlag f = true) : ReportMoves C s u :=
  h.tail (.copies hej (fun p => RepPort.reachesIn_of_cursor (hcursor p) t.ej) hflag)

/-- One port's copy, with its cursor in reach; the flags stand where the port is not one of `C`. -/
theorem ReportMoves.setRepPort {p : PortId} {r : RepPort} (hreach : (t.rep.get p).ReachesIn t.ej r)
    (hflag : ¬C p → ∀ f, (t.rep.get p).hasFlag f = true → r.hasFlag f = true) : ReportMoves C s (t.setRepPort p r) := by
  have hcopy : ∀ q, (p = q ∧ (t.setRepPort p r).rep.get q = r) ∨ (t.setRepPort p r).rep.get q = t.rep.get q := fun q => by
    by_cases hq : p = q
    · subst hq; exact .inl ⟨rfl, by simp⟩
    · exact .inr (by simp [hq])
  refine h.tail (.copies rfl (fun q => ?_) fun q f hC hf => ?_)
  · rcases hcopy q with ⟨rfl, hq⟩ | hq
    · rw [hq]; exact hreach
    · exact RepPort.reachesIn_of_cursor (by rw [hq]) _
  · rcases hcopy q with ⟨rfl, hq⟩ | hq
    · rw [hq]; exact hflag hC f hf
    · rw [hq]; exact hf

theorem ReportMoves.raise (f : Flag) : ReportMoves C s (t.raise f) := by
  refine h.copies (by simp) (fun p => ?_) fun p g _ => t.raise_keeps f g p
  cases f <;> simp [State.raise, RepPort.setFlag]

theorem ReportMoves.raiseIf (b : Bool) (f : Flag) : ReportMoves C s (t.raiseIf b f) := by
  unfold State.raiseIf; split
  · exact h.raise f
  · exact h

theorem ReportMoves.setCoincLatches : ReportMoves C s (setCoincLatches t) :=
  h.copies rfl (fun p => by simp [Machine.setCoincLatches])
    fun p f _ hf => by rw [Machine.setCoincLatches, State.setRep_rep, Trio.get_map]; cases f <;> exact hf

/-- An operation that leaves journal and copies. -/
theorem ReportMoves.stands {u : State} (hej : u.ej = t.ej) (hrep : u.rep = t.rep) : ReportMoves C s u :=
  h.copies hej (fun p => by rw [hrep]) fun p f _ hf => by rw [hrep]; exact hf

theorem ReportMoves.setJobs (x : Jobs) : ReportMoves C s (t.setJobs x) := h.stands rfl rfl
theorem ReportMoves.setSau (x : Sau) : ReportMoves C s (t.setSau x) := h.stands rfl rfl
theorem ReportMoves.setOcr (x : Ocr) : ReportMoves C s (t.setOcr x) := h.stands rfl rfl
theorem ReportMoves.setGcm (x : Gcm) : ReportMoves C s (t.setGcm x) := h.stands rfl rfl
theorem ReportMoves.setGhm (x : Ghm) : ReportMoves C s (t.setGhm x) := h.stands rfl rfl
theorem ReportMoves.setCw (x : Cw) : ReportMoves C s (t.setCw x) := h.stands rfl rfl
theorem ReportMoves.setIcd (x : Icd) : ReportMoves C s (t.setIcd x) := h.stands rfl rfl
theorem ReportMoves.setLb (x : Lb) : ReportMoves C s (t.setLb x) := h.stands rfl rfl
theorem ReportMoves.setCc (x : Cc) : ReportMoves C s (t.setCc x) := h.stands rfl rfl
theorem ReportMoves.setMs (x : Ms) : ReportMoves C s (t.setMs x) := h.stands rfl rfl
theorem ReportMoves.setPort (p : PortId) (x : PiPort) : ReportMoves C s (t.setPort p x) := h.stands rfl rfl

theorem ReportMoves.startPublish (g : Nat) (recs : List Nat) (u : State) : ReportMoves C s (startPublish g recs u t) := h.stands rfl rfl

/-! ### Limit Board (R123, R129, R131) -/

theorem ReportMoves.boardChange (cs : List SlotChange) : ReportMoves C s (boardChange cs t) := by
  unfold Machine.boardChange; dsimp only; split
  · exact h
  · exact ((h.setLb _).journalAll _).startPublish _ _ t

theorem ReportMoves.boardTick : ReportMoves C s (boardTick t) := by
  have hexpired : ReportMoves C s (ackExpire t) := (((h.setLb _).raise _).journal _).startPublish _ _ t
  unfold Machine.boardTick; repeat' split
  · exact h
  · exact hexpired
  · exact h.stands rfl rfl

theorem ReportMoves.acknowledge (g : Nat) : ReportMoves C s (acknowledge g t) := by
  unfold Machine.acknowledge; dsimp only; split
  · exact h.stands rfl rfl
  · exact ((h.setLb _).journal _).startPublish _ _ t

/-! ### Maintenance Schedule (R155 to R161) -/

theorem ReportMoves.overItems (f : Nat → Item → Item × List EntryBody) : ReportMoves C s (overItems f t) :=
  (h.setMs _).journalAll _

theorem ReportMoves.evaluateItems : ReportMoves C s (evaluateItems t) := by
  unfold Machine.evaluateItems; split
  · exact h.overItems _
  · exact h

theorem ReportMoves.recomputeMaint : ReportMoves C s (recomputeMaint t) := by
  have hposted : ∀ cs x, ReportMoves C s (Machine.boardChange cs (t.setMs x)) := fun cs x => (h.setMs x).boardChange cs
  unfold Machine.recomputeMaint; repeat' split
  · exact h
  · exact hposted _ _
  · exact hposted _ _
  · exact h
  · exact h

theorem ReportMoves.scheduleTick : ReportMoves C s (scheduleTick t) := by
  have hsampled : ReportMoves C s (takeSample t) := h.setMs _
  have hjudged := ((hsampled.overItems Item.take).evaluateItems).recomputeMaint
  unfold Machine.scheduleTick scheduleEvent; dsimp only; split
  · exact hjudged
  · exact hjudged.startPublish _ _ t

end Closure

/-- An event of the schedule adds the report of slot MAINT to those of its change. -/
theorem reportMoves_scheduleEvent {C : PortId → Prop} {f : State → State} {s : State} (h : ReportMoves C s (f s)) :
    ReportMoves C s (scheduleEvent f s) := by
  unfold scheduleEvent; dsimp only; split
  · exact h.recomputeMaint
  · exact h.recomputeMaint.startPublish _ _ s

end Sys2Proof.Machine

/-! PROOFS. Journal, cursors and flags under the events of the watch, the gear lines, the frames and the shaft lines
(JournalStaysConsecutive, FlagsStayUntilTheirPortClearsThem). -/

namespace Sys2Proof.Machine

section Closure
variable {C : PortId → Prop} {s t : State} (h : ReportMoves C s t)
include h

/-! ### Pull-forward signals and the Coincidence Watch (R91 to R93, R159) -/

theorem ReportMoves.pulls (gs : List Pull) : ReportMoves C s (gs.foldl pullOne t) := by
  induction gs generalizing t with
  | nil => exact h
  | cons g gs ih => exact ih ((h.setMs _).journalAll _)

theorem ReportMoves.takePulls (gs : List Pull) : ReportMoves C s (takePulls gs t) := by
  unfold Machine.takePulls; split
  · exact h.trans (reportMoves_scheduleEvent ((ReportMoves.refl t).pulls gs))
  · exact h

theorem ReportMoves.latchReport (before : Cw) : ReportMoves C s (latchReport before t) := by
  unfold Machine.latchReport; split
  · exact (h.journal _).setCoincLatches
  · exact h

theorem ReportMoves.coincEvent (cause : EvalCause) (f : Cw → Cw) : ReportMoves C s (coincEvent cause f t) := by
  unfold Machine.coincEvent; dsimp only
  refine ReportMoves.startPublish (ReportMoves.boardChange ?_ _) _ _ t
  split
  · exact (h.setCw _).latchReport _
  · exact h.setCw _

theorem ReportMoves.coincTakeFrame (sd : Side) (v : Nat) (ls : List ListedLine) : ReportMoves C s (coincTakeFrame sd v ls t) :=
  h.coincEvent _ _

theorem ReportMoves.coincTakeBlock (slots : List Nat) : ReportMoves C s (coincTakeBlock slots t) := h.coincEvent _ _

/-! ### Gear lines and frames (R28 to R31, R50 to R54) -/

theorem ReportMoves.gcmEvaluated (sd : Side) (seq : Nat) (ls : List ListedLine) : ReportMoves C s (gcmEvaluated sd seq ls t) :=
  (h.setGcm _).journalAll _

theorem ReportMoves.gcmDiscarded (sd : Side) : ReportMoves C s (gcmDiscarded sd t) := by
  unfold Machine.gcmDiscarded; dsimp only; split
  · split
    · exact h.setGcm _
    · exact ((h.setGcm _).raise _).journal _
  · exact h

theorem ReportMoves.discardAs (sd : Side) (cause : DiscardCause) (f : Frame) : ReportMoves C s (discardAs sd cause f t) :=
  ((h.setOcr _).gcmDiscarded sd).startPublish _ _ t

theorem ReportMoves.discardFrame (sd : Side) (cause : DiscardCause) : ReportMoves C s (discardFrame sd cause t) := by
  unfold Machine.discardFrame; split
  · exact h.discardAs _ _ _
  · exact h

theorem ReportMoves.evaluateFrame (sd : Side) (f : Frame) : ReportMoves C s (evaluateFrame sd f t) := by
  exact (((((h.setOcr _).raiseIf _ .badOrder).gcmEvaluated sd _ _).boardChange _).takePulls _).coincTakeFrame sd _ _ |>.startPublish 4 _ t

theorem ReportMoves.tryStart (sd : Side) (v : Nat) : ReportMoves C s (tryStart sd v t) := h.stands (by simp) (by simp)

theorem ReportMoves.revolutionToFrames (sd : Side) (p v : Nat) : ReportMoves C s (revolutionToFrames sd p v t) := by
  unfold Machine.revolutionToFrames; dsimp only; repeat' split
  · exact h.tryStart _ _
  · exact (h.discardAs _ _ _).tryStart _ _
  · exact (h.discardAs _ _ _).tryStart _ _
  · exact (h.evaluateFrame _ _).tryStart _ _
  · exact h.setOcr _

theorem ReportMoves.angleToFrames (sd : Side) : ReportMoves C s (angleToFrames sd t) := by
  unfold Machine.angleToFrames; dsimp only; repeat' split
  · exact h.setOcr _
  · exact (h.setOcr _).discardFrame _ _
  · exact (h.setOcr _).setOcr _

theorem ReportMoves.takeSet (ws : List LinkWord) : ReportMoves C s (takeSet ws t) := by
  unfold Machine.takeSet; dsimp only; repeat' split
  · exact h.setOcr _
  · exact (h.setOcr _).journal _
  · exact (h.setOcr _).raise _

theorem ReportMoves.linkExpire : ReportMoves C s (linkExpire t) := by
  unfold Machine.linkExpire; dsimp only; split
  · exact ((((h.setOcr _).raise _).journal _).discardFrame _ _).discardFrame _ _
  · exact h.setOcr _

/-! ### Shaft lines (R4 to R14) -/

theorem ReportMoves.setDirection (rev : Bool) : ReportMoves C s (setDirection rev t) := by
  unfold Machine.setDirection; split
  · exact h
  · exact ((h.setSau _).discardFrame _ _).discardFrame _ _

theorem ReportMoves.anglePoint (sd : Side) (index : Nat) : ReportMoves C s (anglePoint sd index t) := (h.setSau _).angleToFrames sd

theorem ReportMoves.decodeEdge (line : EncoderLine) (level : Bool) : ReportMoves C s (decodeEdge line level t) := by
  have hmoved : ∀ x rev, ReportMoves C s (Machine.setDirection rev (t.setSide .hs x)) := fun _ rev => (h.setSau _).setDirection rev
  unfold Machine.decodeEdge countEdge; dsimp only; repeat' split
  · exact (hmoved _ _).anglePoint _ _
  · exact hmoved _ _
  · exact h

theorem ReportMoves.takeTooth (level : Bool) : ReportMoves C s (takeTooth level t) := by
  unfold Machine.takeTooth; dsimp only; split
  · exact (h.setSau _).anglePoint _ _
  · exact h

theorem ReportMoves.slipIndex (sd : Side) : ReportMoves C s (slipIndex sd t) := by
  have hslipped : ∀ x, ReportMoves C s ((disarmRatio (t.setSide sd x)).raise .slip) := fun _ => ((h.setSau _).setSau _).raise _
  unfold Machine.slipIndex; split
  · exact ((hslipped _).journal _).discardFrame _ _
  · have hfault := (((hslipped (t.sau.side sd).slip.reload.enterFault).journal (slipEntry sd (t.sau.side sd).position)).raise
      (faultFlag sd)).journal (stateEntry sd (t.sau.side sd).state .fault 0)
    cases sd with
    | hs => exact (hfault.setDirection _).discardFrame _ _
    | ls => exact hfault.discardFrame _ _

theorem ReportMoves.ratioTest : ReportMoves C s (ratioTest t) := by
  unfold Machine.ratioTest; dsimp only; repeat' split
  · exact ((h.setSau _).raise _).journal _
  · exact h.setSau _
  · exact h.setSau _

theorem ReportMoves.revolutionEvent (sd : Side) (p v : Nat) : ReportMoves C s (revolutionEvent sd p v t) := by
  have hframes := h.revolutionToFrames sd p v
  cases sd with
  | hs => exact (hframes.setSau _).setCc _
  | ls => exact hframes.ratioTest

theorem ReportMoves.forwardIndex (sd : Side) : ReportMoves C s (forwardIndex sd t) := by
  by_cases hslip : IsSlip sd t
  · rw [forwardIndex_slip hslip]
    exact h.slipIndex sd
  · rw [forwardIndex_noSlip hslip]
    split
    · rw [closePeriod_eq]
      exact ((h.setSau _).journalAll _).revolutionEvent _ _ _
    · exact h.setSau _

/-- What follows an edge of any line of the shaft unit. -/
theorem ReportMoves.edgeMeaning (l : SauLine) (level : Bool) : ReportMoves C s (edgeMeaning l level t) := by
  cases l with
  | a => exact h.decodeEdge .a level
  | b => exact h.decodeEdge .b level
  | t => exact h.takeTooth level
  | z =>
    change ReportMoves C s (takeIndex level t)
    unfold takeIndex; repeat' split
    · exact h.setSau _
    · exact h.forwardIndex _
    · exact h
  | lsz =>
    change ReportMoves C s (takeLsIndex level t)
    unfold takeLsIndex; split
    · exact h.forwardIndex _
    · exact h

theorem ReportMoves.onEdge (l : SauLine) (level : Bool) : ReportMoves C s (onEdge l level (Machine.edgeMeaning l level) t) := by
  unfold Machine.onEdge; dsimp only; split
  · exact (h.setSau _).edgeMeaning l level
  · exact h.setSau _

theorem ReportMoves.standstillExpire (sd : Side) : ReportMoves C s (standstillExpire sd t) :=
  (((h.setSau _).setSau _).journal _).discardFrame sd _

end Closure

end Sys2Proof.Machine

/-! PROOFS. Journal, cursors and flags under the events of the grid monitor, the icing detector, the clock and written records
(JournalStaysConsecutive, FlagsStayUntilTheirPortClearsThem). -/

namespace Sys2Proof.Machine

section Closure
variable {C : PortId → Prop} {s t : State} (h : ReportMoves C s t)
include h

/-! ### Grid Harmonic Monitor (R63 to R79) -/

theorem ReportMoves.tryBlock : ReportMoves C s (tryBlock t) := by
  unfold Machine.tryBlock evaluateBlock; repeat' split
  · exact (h.setGhm _).startPublish _ _ t
  · exact ((((h.setGhm _).journalAll _).boardChange _).startPublish 6 _ t).coincTakeBlock _
  · exact h

theorem ReportMoves.windowDiscarded (cause : WindowCause) : ReportMoves C s (windowDiscarded cause t) := by
  unfold Machine.windowDiscarded; split
  · exact ((h.setGhm _).startPublish _ _ t).tryBlock
  · exact h

theorem ReportMoves.countCycle : ReportMoves C s (countCycle t) := by
  unfold Machine.countCycle completeWindow; dsimp only; repeat' split
  · exact h
  · exact h.setGhm _
  · exact h.windowDiscarded _
  · exact ((h.setGhm _).startPublish _ _ t).tryBlock

theorem ReportMoves.leaveLocked (cause : WindowCause) : ReportMoves C s (leaveLocked cause t) := (h.setGhm _).windowDiscarded cause

theorem ReportMoves.lockedEdge : ReportMoves C s (lockedEdge t) := by
  unfold Machine.lockedEdge; dsimp only; split
  · exact ((h.setGhm _).countCycle).setGhm _
  · exact h.setGhm _

theorem ReportMoves.lockReport (a b : LockState) (value : Nat) : ReportMoves C s (lockReport a b value t) := by
  unfold Machine.lockReport; split
  · exact h
  · exact (h.raiseIf _ _).journal _

theorem ReportMoves.takeZeroCross : ReportMoves C s (takeZeroCross t) := by
  unfold Machine.takeZeroCross measuredEdge; dsimp only; repeat' split
  · exact h.setGhm _
  · exact ((h.setGhm _).lockReport _ _ _).lockedEdge
  · exact ((h.setGhm _).lockReport _ _ _).leaveLocked _
  · exact (h.setGhm _).lockReport _ _ _
  · exact h.setGhm _

theorem ReportMoves.lossExpire : ReportMoves C s (lossExpire t) := by
  unfold Machine.lossExpire; dsimp only; repeat' split
  · exact h.setGhm _
  · exact (((h.setGhm _).raise _).journal _).leaveLocked _
  · exact ((h.setGhm _).raise _).journal _

theorem ReportMoves.takeGridFrame (ws : List LinkWord) : ReportMoves C s (takeGridFrame ws t) := by
  unfold Machine.takeGridFrame dropGridFrame; repeat' split
  · exact h.setGhm _
  · exact (h.setGhm _).raise _
  · exact (h.setGhm _).raise _

/-! ### Icing Detector (R99 to R113) -/

theorem ReportMoves.operatingArrived : ReportMoves C s (operatingArrived t) := by
  unfold Machine.operatingArrived; dsimp only; split
  · exact (h.setIcd _).journal _
  · exact h.setIcd _

theorem ReportMoves.icingChange (st : IcingState) (value : Int) (f : Icd → Icd) : ReportMoves C s (icingChange st value f t) :=
  (((h.setIcd _).journal _).boardChange _).startPublish _ _ t

theorem ReportMoves.closeInterval : ReportMoves C s (closeInterval t) := by
  unfold Machine.closeInterval; dsimp only; split
  · exact (h.setIcd _).startPublish _ _ t
  · exact h.icingChange _ _ _

theorem ReportMoves.freshnessTick : ReportMoves C s (freshnessTick t) := by
  unfold Machine.freshnessTick; dsimp only; split
  · exact ((h.setIcd _).raise _).journal _
  · exact h.setIcd _

theorem ReportMoves.intervalTick : ReportMoves C s (intervalTick t) := by
  unfold Machine.intervalTick; repeat' split
  · exact h.closeInterval
  · exact h.setIcd _
  · exact h

theorem ReportMoves.thawTick (before : Option Nat) : ReportMoves C s (thawTick before t) := by
  unfold Machine.thawTick thawExpire; repeat' split
  · exact h.icingChange _ _ _
  · exact h.setIcd _
  · exact h.setIcd _
  · exact h

theorem ReportMoves.icingTick : ReportMoves C s (icingTick t) := h.freshnessTick.intervalTick.thawTick _

/-! ### The clock (R137 to R145) -/

theorem ReportMoves.calendarTick : ReportMoves C s (calendarTick t) := by
  unfold Machine.calendarTick; repeat' split
  · exact h.setCc _
  · exact h
  · exact ((h.setCc _).raise _).journal _

theorem ReportMoves.handTick (order : TickOrder) : ReportMoves C s (handTick order t) := by
  cases order with
  | icdLbMs => exact h.icingTick.boardTick.scheduleTick
  | icdMsLb => exact h.icingTick.scheduleTick.boardTick
  | lbIcdMs => exact h.boardTick.icingTick.scheduleTick
  | lbMsIcd => exact h.boardTick.scheduleTick.icingTick
  | msIcdLb => exact h.scheduleTick.icingTick.boardTick
  | msLbIcd => exact h.scheduleTick.boardTick.icingTick

theorem ReportMoves.issueTick (order : TickOrder) : ReportMoves C s (issueTick order t) :=
  (h.calendarTick.stands (u := countSecond _) (by simp) (by simp)).handTick order

theorem ReportMoves.phaseTick (order : TickOrder) : ReportMoves C s (phaseTick order t) := by
  have hadvanced : ReportMoves C s (t.advance (second - t.cc.phase)) := h.stands rfl rfl
  exact (hadvanced.setCc _).issueTick order

theorem ReportMoves.loadClock (value : Nat) : ReportMoves C s (loadClock value t) := (h.setCc _).journal _

theorem ReportMoves.abandonClock : ReportMoves C s (abandonClock t) := ((h.setCc _).raise _).journal _

theorem ReportMoves.alignTick (order : TickOrder) : ReportMoves C s (alignTick order t) := by
  unfold Machine.alignTick; split
  · exact (h.setCc _).issueTick order
  · exact h.setCc _

theorem ReportMoves.takePps (order : TickOrder) : ReportMoves C s (takePps order t) := by
  unfold Machine.takePps; dsimp only; repeat' split
  · exact ((h.setCc _).alignTick order).loadClock _
  · exact (h.setCc _).alignTick order
  · exact h.setCc _

/-! ### Written records (R176, R189) -/

/-- A status write moves no cursor; it may clear flags of its own port. -/
theorem ReportMoves.writeStatus {p : PortId} (hp : C p) (ms : List MaskedWord) : ReportMoves C s (writeStatus p ms t) :=
  h.setRepPort (RepPort.reachesIn_of_cursor (by rfl) _) fun hn => absurd hp hn

theorem ReportMoves.writeRecord {p : PortId} {g : Nat} (hp : g = 15 → C p) (r : Nat) (ms : List MaskedWord) :
    ReportMoves C s (writeRecord p g r ms t) := by
  unfold Machine.writeRecord; repeat' split
  case h_1 =>
    unfold writeShaft; split
    · exact h.raise _
    · exact (h.setSau _).raiseIf _ _
  case h_2.isTrue => exact (h.setGcm _).raiseIf _ _
  case h_5.isTrue => exact ((h.setIcd _).raiseIf _ _).operatingArrived
  case h_6.isTrue =>
    unfold writeIcing; dsimp only; split
    · exact ((h.setIcd _).startPublish _ _ t).raiseIf _ _
    · exact (h.setIcd _).raiseIf _ _
  case h_10.isTrue => exact (h.setMs _).raiseIf _ _
  case h_11 => exact h.writeStatus (hp rfl) ms
  all_goals exact h.stands (by simp) (by simp)

theorem ReportMoves.applyRecords {p : PortId} {g : Nat} (hp : g = 15 → C p) (buf : List BufferWord) (rs : List Nat) :
    ReportMoves C s (rs.foldl (applyRecord p g buf) t) := by
  induction rs generalizing t with
  | nil => exact h
  | cons r rs ih =>
    refine ih ?_
    unfold applyRecord; dsimp only; split
    · exact h.writeRecord hp _ _
    · exact h

theorem ReportMoves.completeWrite {p : PortId} {g : Nat} (hp : g = 15 → C p) (buf : List BufferWord) :
    ReportMoves C s (completeWrite p g buf t) :=
  (h.applyRecords hp buf _).boardChange _

theorem ReportMoves.writeWhole {p : PortId} {g : Nat} (hp : g = 15 → C p) (r : Nat) (ws : List MaskedWord) :
    ReportMoves C s (writeWhole p g r ws t) := by
  unfold Machine.writeWhole; dsimp only; repeat' split
  · exact h
  · exact h.completeWrite hp _
  · exact h.raise _
  · exact h

/-! ### Transactions and resets (R183, R189, R190) -/

theorem ReportMoves.takeWrite (p : PortId) (m : MaskedWord) : ReportMoves C s (takeWrite p m t) := by
  unfold Machine.takeWrite discardWord; dsimp only; repeat' split
  · exact (h.setPort _ _).raiseIf _ _
  · exact h.setPort _ _
  · exact ((h.setPort _ _).raiseIf _ _).setPort _ _
  · exact (h.setPort _ _).setPort _ _
  · exact h
  · exact h

theorem ReportMoves.completeTransaction {p : PortId}
    (hp : ∀ x, (t.pi.get p).header = some x → x.write = true → x.control = false → x.group = 15 → C p) :
    ReportMoves C s (completeTransaction p t) := by
  unfold Machine.completeTransaction; dsimp only; repeat' split
  next _ x _ hx hwrite =>
    simp only [Bool.not_eq_true'] at hwrite
    exact (h.setPort _ _).completeWrite (hp x hx hwrite.1 hwrite.2) _
  · exact h.setPort _ _
  · exact h.setPort _ _

theorem ReportMoves.resetPort {p : PortId} (hp : C p) : ReportMoves C s (resetPort p t) :=
  (h.setPort _ _).setRepPort (RepPort.reachesIn_of_cursor (by rfl) _) fun hn => absurd hp hn

end Closure

end Sys2Proof.Machine

/-! PROOFS. Every command as journal, cursors and flags see it, and what a step leaves of them (JournalStaysConsecutive,
FlagsStayUntilTheirPortClearsThem). -/

namespace Sys2Proof.Machine

/-! ### Commands (R174, R181, R193) -/

/-- JOURNAL ADVANCE moves a cursor over at most what is pending (R174). -/
theorem RepPort.reachesIn_advance (e : Ej) (r : RepPort) (n : Nat) :
    r.ReachesIn e { r with cursor := (r.cursor + min n (pendingCount e r)) % seqModulus } := by
  intro hr
  refine ⟨Nat.mod_lt _ (by decide), ?_⟩
  unfold pendingCount seqModulus
  dsimp only
  omega

section Commands
variable {C : PortId → Prop}

theorem reportMoves_enableShaft (s : State) : ReportMoves C s (enableShaft s).state := by
  unfold enableShaft; repeat' split
  · exact .refl s
  · exact (((ReportMoves.refl s).setSau _).setJobs _).journalAll _
  · exact .refl s

theorem reportMoves_disableShaft (s : State) : ReportMoves C s (disableShaft s).state := by
  unfold disableShaft; repeat' split
  · exact .refl s
  · exact (((ReportMoves.refl s).setSau _).setJobs _).journalAll _
  · exact .refl s

theorem reportMoves_disableGear (s : State) : ReportMoves C s (disableGear s).state := by
  have hforgotten : ∀ {t}, ReportMoves C s t → ReportMoves C s (coincForgetLines t) := fun h => h.stands (by simp) (by simp)
  have hstopped : ReportMoves C s (stopGear s) := by
    unfold stopGear; dsimp only
    refine hforgotten ?_
    split
    · exact ((((ReportMoves.refl s).setOcr _).setGcm _).journalAll _).boardChange _
    · exact (((((ReportMoves.refl s).setOcr _).setGcm _).journalAll _).boardChange _).startPublish _ _ s
  unfold disableGear; repeat' split
  · exact .refl s
  · exact hstopped.setJobs _
  · exact .refl s

theorem reportMoves_disableGrid (s : State) : ReportMoves C s (disableGrid s).state := by
  have hforgotten : ∀ {t}, ReportMoves C s t → ReportMoves C s (coincForgetGrid t) := fun h => h.stands (by simp) (by simp)
  have hstopped : ReportMoves C s (stopGrid s) :=
    hforgotten (((((ReportMoves.refl s).setGhm _).journalAll _).boardChange _).startPublish _ _ s)
  unfold disableGrid; repeat' split
  · exact .refl s
  · exact hstopped.setJobs _
  · exact .refl s

theorem reportMoves_enableCoinc (s : State) : ReportMoves C s (enableCoinc s).state := by
  unfold enableCoinc; repeat' split
  case isFalse.isFalse.isFalse => exact ((((ReportMoves.refl s).setCw _).setJobs _).boardChange _).startPublish _ _ s
  all_goals exact .refl s

theorem reportMoves_disableCoinc (s : State) : ReportMoves C s (disableCoinc s).state := by
  unfold disableCoinc; split
  · exact ((((((ReportMoves.refl s).setCw _).boardChange _).setCw _).journalAll _).setJobs _).startPublish _ _ s
  · exact .refl s

theorem reportMoves_clearCoincidence (s : State) : ReportMoves C s (clearCoincidence s).state := by
  unfold clearCoincidence; split
  · exact (((ReportMoves.refl s).setCw _).journalAll _).startPublish _ _ s
  · exact .refl s

theorem reportMoves_enableIcing (s : State) : ReportMoves C s (enableIcing s).state := by
  unfold enableIcing; repeat' split
  · exact .refl s
  · exact .refl s
  · exact (((((ReportMoves.refl s).setIcd _).setJobs _).journal _).boardChange _).startPublish _ _ s

theorem reportMoves_disableIcing (s : State) : ReportMoves C s (disableIcing s).state := by
  unfold disableIcing; split
  · exact (((((ReportMoves.refl s).setIcd _).setJobs _).journal _).boardChange _).startPublish _ _ s
  · exact .refl s

theorem reportMoves_icingReport (s : State) : ReportMoves C s (icingReport s).state := by
  unfold icingReport; split
  · exact .refl s
  · exact .refl s
  · exact (ReportMoves.refl s).icingChange _ _ _

theorem reportMoves_icingRelease (s : State) : ReportMoves C s (icingRelease s).state := by
  unfold icingRelease; repeat' split
  · exact .refl s
  · exact (ReportMoves.refl s).icingChange _ _ _
  · exact .refl s

theorem reportMoves_learnBaseline (s : State) : ReportMoves C s (learnBaseline s).state := by
  unfold learnBaseline; split
  · exact .refl s
  · exact (((ReportMoves.refl s).setIcd _).journal _).startPublish _ _ s

theorem reportMoves_ackCap (g : Nat) (s : State) : ReportMoves C s (ackCap g s).state := by
  unfold ackCap; split
  · exact (ReportMoves.refl s).acknowledge _
  · exact .refl s

theorem reportMoves_clockArm (mode : Nat) (s : State) : ReportMoves C s (clockArm mode s).state := by
  unfold clockArm; repeat' split
  case isFalse.isFalse.isFalse.isTrue => exact (ReportMoves.refl s).loadClock _
  case isFalse.isFalse.isFalse.isFalse => exact (ReportMoves.refl s).setCc _
  all_goals exact .refl s

theorem reportMoves_counterRestore (a : Nat) (s : State) : ReportMoves C s (counterRestore a s).state := by
  unfold counterRestore; dsimp only; repeat' split
  · exact .refl s
  · exact .refl s
  · exact ((ReportMoves.refl s).setCc _).journal _
  · exact ((ReportMoves.refl s).setCc _).journal _

theorem reportMoves_enableMaint (s : State) : ReportMoves C s (enableMaint s).state := by
  unfold enableMaint; repeat' split
  · exact .refl s
  · rw [accept_state]
    exact reportMoves_scheduleEvent ((ReportMoves.refl s).setJobs { s.jobs with maint := true }).evaluateItems
  · exact .refl s

theorem reportMoves_disableMaint (s : State) : ReportMoves C s (disableMaint s).state := by
  unfold disableMaint; split
  · exact ((((ReportMoves.refl s).setJobs _).setMs _).boardChange _).startPublish _ _ s
  · exact .refl s

theorem reportMoves_itemDone (n : Nat) (s : State) : ReportMoves C s (itemDone n s).state := by
  have hfinished : ∀ y, ReportMoves C s (finishItem n y s) := fun _ => ((ReportMoves.refl s).setMs _).journalAll _
  unfold itemDone; repeat' split
  case h_2.isTrue => exact reportMoves_scheduleEvent (hfinished _)
  all_goals exact .refl s

theorem reportMoves_itemDefer (n : Nat) (s : State) : ReportMoves C s (itemDefer n s).state := by
  have hpostponed : ∀ y, ReportMoves C s (postponeItem n y s) := fun _ => ((ReportMoves.refl s).setMs _).journal _
  unfold itemDefer; dsimp only; repeat' split
  case h_2.isFalse.isFalse.isFalse => exact reportMoves_scheduleEvent (hpostponed _)
  all_goals exact .refl s

theorem reportMoves_journalAdvance (p : PortId) (n : Nat) (s : State) : ReportMoves C s (journalAdvance p n s).state :=
  (ReportMoves.refl s).setRepPort (RepPort.reachesIn_advance _ _ _) fun _ f hf => by cases f <;> exact hf

theorem reportMoves_attnMask (p : PortId) (arg : Word) (s : State) : ReportMoves C s (attnMask p arg s).state := by
  unfold attnMask; split
  · exact (ReportMoves.refl s).setRepPort (RepPort.reachesIn_of_cursor (by rfl) _) fun _ f hf => by cases f <;> exact hf
  · exact .refl s

theorem reportMoves_ownerAnswer (p : PortId) (arg : Word) (c : Command) (s : State) : ReportMoves C s (ownerAnswer p arg c s).state := by
  have hstands : ∀ {t : State}, t.ej = s.ej → t.rep = s.rep → ReportMoves C s t := (ReportMoves.refl s).stands
  cases c with
  | enable j =>
    cases j with
    | shaft => exact reportMoves_enableShaft s
    | gear | grid => exact hstands (by simp [ownerAnswer]) (by simp [ownerAnswer])
    | coinc => exact reportMoves_enableCoinc s
    | icing => exact reportMoves_enableIcing s
    | maint => exact reportMoves_enableMaint s
  | disable j =>
    cases j with
    | shaft => exact reportMoves_disableShaft s
    | gear => exact reportMoves_disableGear s
    | grid => exact reportMoves_disableGrid s
    | coinc => exact reportMoves_disableCoinc s
    | icing => exact reportMoves_disableIcing s
    | maint => exact reportMoves_disableMaint s
  | clearCoincidence => exact reportMoves_clearCoincidence s
  | icingReport => exact reportMoves_icingReport s
  | icingRelease => exact reportMoves_icingRelease s
  | learnBaseline => exact reportMoves_learnBaseline s
  | restartRequest => exact hstands (by simp [ownerAnswer]) (by simp [ownerAnswer])
  | ackCap => exact reportMoves_ackCap _ s
  | clockArm => exact reportMoves_clockArm _ s
  | counterRestore => exact reportMoves_counterRestore _ s
  | itemDone => exact reportMoves_itemDone _ s
  | itemDefer => exact reportMoves_itemDefer _ s
  | journalAdvance => exact reportMoves_journalAdvance p _ s
  | attnMask => exact reportMoves_attnMask p arg s

theorem ReportMoves.takeControl {s t : State} (h : ReportMoves C s t) {p : PortId} {canonical : Word} {ok : Word → Bool} {arg : Word}
    {body : State → Reply} (hbody : ReportMoves C t (body t).state) : ReportMoves C s (takeControl p canonical ok arg body t) := by
  unfold Machine.takeControl; split
  · exact h
  · exact (h.trans hbody).setPort _ _

theorem ReportMoves.giveCommand {s t : State} (h : ReportMoves C s t) (p : PortId) (arg : Word) (c : Command) :
    ReportMoves C s (giveCommand c p arg (ownerAnswer p arg c) t) := by
  refine h.takeControl ?_
  unfold permitted; split
  · exact reportMoves_ownerAnswer p arg c t
  · exact .refl t

end Commands

/-! ### A step -/

/-- Every command but a part reset appends entries and keeps the flags of every port that it may not clear. -/
theorem exec_reportMoves {c : Instr} {s t : State} (hreset : ∀ a b d, c ≠ .partReset a b d) (he : exec c s = .next t) :
    ReportMoves (fun p => ClearsFlags c p s) s t := by
  have hfrom : ∀ {t'}, ReportMoves (fun p => ClearsFlags c p s) s t' → .next t' = exec c s →
      ReportMoves (fun p => ClearsFlags c p s) s t := by
    intro t' hmoves he'
    obtain rfl : t' = t := by rw [he] at he'; injection he'
    exact hmoves
  have h := ReportMoves.refl (C := fun p => ClearsFlags c p s) s
  have hdt : ∀ dt, ReportMoves (fun p => ClearsFlags c p s) s (s.advance dt) := fun dt => h.stands rfl rfl
  have htick : ∀ (b : Prop) [Decidable b] (order : TickOrder),
      ReportMoves (fun p => ClearsFlags c p s) s (if b then phaseTick order s else s) := by
    intro b _ order
    split
    · exact h.phaseTick order
    · exact h
  have hwrite : ∀ dt p g r ws, g ≠ 15 → ReportMoves (fun p => ClearsFlags c p s) s (writeWhole p g r ws (s.advance dt)) :=
    fun dt _ _ r ws hg => (hdt dt).writeWhole (absurd · hg) r ws
  have hedge : ∀ l dt level, c = edgeOf l dt level → ReportMoves (fun p => ClearsFlags c p s) s t := fun l dt level hc =>
    hfrom ((hdt dt).onEdge l level) (by rw [hc, exec_edgeOf])
  have hcontrol : ∀ k, controlOf c = some k → ReportMoves (fun p => ClearsFlags c p s) s t := fun k hk =>
    hfrom ((hdt k.dt).giveCommand _ _ _) (exec_control hk s).symm
  cases c with
  | partReset a b d => exact absurd rfl (hreset a b d)
  | encoderEdge dt line level =>
    cases line with
    | a => exact hedge .a dt level rfl
    | b => exact hedge .b dt level rfl
  | indexEdge dt level => exact hedge .z dt level rfl
  | toothEdge dt level => exact hedge .t dt level rfl
  | lsIndexEdge dt level => exact hedge .lsz dt level rfl
  | standstillTimerExpiry sd =>
    cases hd : (s.sau.side sd).standstill with
    | none => exact hfrom h (by simp only [exec, execStandstillTimerExpiry, hd])
    | some d => exact hfrom ((hdt (d - s.now)).standstillExpire sd) (by simp only [exec, execStandstillTimerExpiry, hd]; rfl)
  | linkTimerExpiry =>
    cases hd : s.ocr.link.timer with
    | none => exact hfrom h (by simp only [exec, execLinkTimerExpiry, hd])
    | some d => exact hfrom (hdt (d - s.now)).linkExpire (by simp only [exec, execLinkTimerExpiry, hd]; rfl)
  | lossTimerExpiry =>
    cases hd : s.ghm.loss with
    | none => exact hfrom h (by simp only [exec, execLossTimerExpiry, hd])
    | some d => exact hfrom (hdt (d - s.now)).lossExpire (by simp only [exec, execLossTimerExpiry, hd]; rfl)
  | strobe =>
    cases hx : s.ghm.gen with
    | none => exact hfrom h (by simp only [exec, execStrobe, hx])
    | some x =>
      cases hd : x.due with
      | none => exact hfrom h (by simp only [exec, execStrobe, hx, hd])
      | some d => exact hfrom ((hdt (d - s.now)).setGhm _) (by simp only [exec, execStrobe, hx, hd]; rfl)
  | clockSetDeadline =>
    cases ha : s.cc.armed with
    | none => exact hfrom h (by simp only [exec, execClockSetDeadline, ha])
    | some a => exact hfrom (hdt (a.deadline - s.now)).abandonClock (by simp only [exec, execClockSetDeadline, ha]; rfl)
  | sampleSet dt words => exact hfrom ((hdt dt).takeSet words) rfl
  | gzxEdge dt rising =>
    refine hfrom (t' := if rising ∧ (s.advance dt).jobs.grid then takeZeroCross (s.advance dt) else s.advance dt) ?_ rfl
    split
    · exact (hdt dt).takeZeroCross
    · exact hdt dt
  | gridFrame dt words =>
    refine hfrom (t' := if (s.advance dt).jobs.grid then takeGridFrame words (s.advance dt) else s.advance dt) ?_ rfl
    split
    · exact (hdt dt).takeGridFrame words
    · exact hdt dt
  | ppsEdge dt rising order =>
    refine hfrom (t' := _) ?_ rfl
    repeat' split
    · exact (hdt dt).setCc _
    · exact (hdt dt).takePps order
    · exact hdt dt
  | secondTick order => exact hfrom (h.phaseTick order) rfl
  | ackTimerExpiry order | thawTimerExpiry order | operatingRecordStale order | intervalClose order => exact hfrom (htick _ order) rfl
  | publishComplete dt | transactionStart dt | transactionHeader dt | headerWord dt | fillerWord dt | readDataWord dt | commandWord dt
  | portResetRelease dt => exact hfrom ((hdt dt).stands (by simp) (by simp)) rfl
  | writeDataWord dt p m => exact hfrom ((hdt dt).takeWrite p m) rfl
  | recordWrite dt p =>
    exact hfrom ((hdt dt).completeTransaction fun x hx hw hc hg => .inr (.inr (.inr ⟨dt, x, rfl, hx, hw, hc, hg⟩))) rfl
  | statusWrite dt p ws => exact hfrom ((hdt dt).writeWhole (fun _ => .inr (.inr (.inl ⟨dt, ws, rfl⟩))) _ ws) rfl
  | operatingArrival dt | shaftConfigurationWrite dt | gridConfigurationWrite dt | watchConfigurationWrite dt
  | icingConfigurationWrite dt => exact hfrom (hwrite dt _ _ _ _ (by decide)) rfl
  | lineDefinitionWrite dt p n ws =>
    refine hfrom (t' := if n < 24 then writeWhole p 3 n ws (s.advance dt) else s.advance dt) ?_ rfl
    split
    · exact hwrite dt _ _ _ _ (by decide)
    · exact hdt dt
  | itemDefinitionWrite dt p n ws =>
    refine hfrom (t' := if n < 32 then writeWhole p 13 n ws (s.advance dt) else s.advance dt) ?_ rfl
    split
    · exact hwrite dt _ _ _ _ (by decide)
    · exact hdt dt
  | portReset dt p => exact hfrom ((hdt dt).resetPort (.inl ⟨dt, rfl⟩)) rfl
  | unknownCommand dt p command arg =>
    refine hfrom (t' := takeUnknown p command arg (s.advance dt)) ?_ rfl
    unfold takeUnknown; split
    · exact (hdt dt).takeControl (.refl _)
    · exact hdt dt
  | invalidJobCode dt p enable job arg =>
    refine hfrom (t' := takeNoJob p enable job arg (s.advance dt)) ?_ rfl
    unfold takeNoJob; split
    · exact (hdt dt).takeControl (.refl _)
    · exact hdt dt
  | _ => exact hcontrol _ rfl

/-! ### Flags (R175, R176, R183) -/

theorem ReportMove.keepsFlag {C : PortId → Prop} {p : PortId} {f : Flag} (hp : ¬C p) {s t : State} (h : ReportMove C s t)
    (hf : (s.rep.get p).hasFlag f = true) : (t.rep.get p).hasFlag f = true := by
  cases h with
  | appends time unset b => rw [State.appendStamped_hasFlag]; exact hf
  | copies _ _ hflag => exact hflag p f hp hf

/-- Settles O56: no move of a command loses a flag of a port that the command may not clear. -/
theorem flagsStayUntilTheirPortClearsThem : Obligations.FlagsStayUntilTheirPortClearsThem := by
  unfold Obligations.FlagsStayUntilTheirPortClearsThem
  intro c p f s t hf hclears he
  have hmoves := exec_reportMoves (fun a b d hc => hclears (.inr (.inl ⟨a, b, d, hc⟩))) he
  exact hmoves.keeps (I := fun s => (s.rep.get p).hasFlag f = true) (fun hmove => hmove.keepsFlag hclears) hf

/-! ### Journal and cursors (R170, R172, R174) -/

/-- Consecutive sequence numbers, the newest one below `next` (R170). -/
def RingOk (ring : List Entry) (next : Nat) : Prop :=
  ∀ i, i < ring.length → (tget ring i).seq = (next + 4294967296 - (ring.length - i)) % 4294967296

/-- Oldest entries may leave, and the next sequence number may follow. -/
theorem RingOk.follow {ring : List Entry} {next : Nat} (h : RingOk ring next) (hlen : ring.length ≤ 256) (hnext : next < 4294967296)
    (d : Nat) {e : Entry} (he : e.seq = next) : RingOk (ring.drop d ++ [e]) ((next + 1) % 4294967296) := by
  intro i hi
  have hlen' : (ring.drop d ++ [e]).length = ring.length - d + 1 := by simp
  rw [hlen'] at hi ⊢
  by_cases hold : i < ring.length - d
  · have hkept : tget (ring.drop d ++ [e]) i = tget ring (d + i) := by
      have hdrop : i < (ring.drop d).length := by rw [List.length_drop]; exact hold
      rw [tget_eq _ _ (by rw [hlen']; exact hi), List.getElem_append_left hdrop, List.getElem_drop, tget_eq ring _ (by omega)]
    rw [hkept, h _ (by omega)]
    omega
  · have hnew : tget (ring.drop d ++ [e]) i = e := by
      rw [tget_eq _ _ (by rw [hlen']; exact hi), List.getElem_append_right (by rw [List.length_drop]; omega)]
      simp
    rw [hnew, he]
    omega

/-- An appended entry takes the next sequence number; of a full ring the oldest entry leaves, and a cursor on it moves on (R172). -/
theorem State.appendStamped_cases (s : State) (time : Nat) (unset : Bool) (b : EntryBody) :
    ∃ e : Entry, e.seq = s.ej.next ∧
      ((s.ej.ring.length < 256 ∧ (s.appendStamped time unset b).rep = s.rep ∧
          (s.appendStamped time unset b).ej = ⟨s.ej.ring.drop 0 ++ [e], (s.ej.next + 1) % 4294967296⟩) ∨
        (256 ≤ s.ej.ring.length ∧
          (s.appendStamped time unset b).rep = s.rep.map (·.passOver (tget s.ej.ring 0).seq (tget s.ej.ring 1).seq) ∧
          (s.appendStamped time unset b).ej = ⟨s.ej.ring.drop 1 ++ [e], (s.ej.next + 1) % 4294967296⟩)) := by
  refine ⟨⟨s.ej.next, time, unset, b.source, b.inst, b.kind, b.fromState, b.toState, journalValue b.value⟩, rfl, ?_⟩
  unfold State.appendStamped ringSize seqModulus
  dsimp only
  split
  next hshort => exact .inl ⟨hshort, rfl, rfl⟩
  next hfull =>
    refine .inr ⟨Nat.le_of_not_lt hfull, ?_, by rw [List.drop_one]; rfl⟩
    obtain ⟨x, y, ring, hring⟩ : ∃ x y ring, s.ej.ring = x :: y :: ring := by
      rcases hs : s.ej.ring with _ | ⟨x, _ | ⟨y, ring⟩⟩
      · simp [hs] at hfull
      · simp [hs] at hfull
      · exact ⟨x, y, ring, rfl⟩
    simp [hring, tget]

/-- A cursor in range of a full ring stays in range when the oldest entry leaves. -/
theorem RepPort.passOver_inRange {next : Nat} {r : RepPort} (hnext : next < 4294967296) (hr : r.cursor < 4294967296)
    (hp : (next + 4294967296 - r.cursor) % 4294967296 ≤ 256) :
    let r' := r.passOver ((next + 4294967296 - 256) % 4294967296) ((next + 4294967296 - 255) % 4294967296)
    r'.cursor < 4294967296 ∧ ((next + 1) % 4294967296 + 4294967296 - r'.cursor) % 4294967296 ≤ 256 := by
  dsimp only
  unfold RepPort.passOver
  split
  · dsimp only
    omega
  · omega

theorem journalOk_appendStamped {s : State} (h : JournalOk s) (time : Nat) (unset : Bool) (b : EntryBody) :
    JournalOk (s.appendStamped time unset b) := by
  obtain ⟨-, hlen, hnext, hring, hcursors⟩ := h
  have hring' : RingOk s.ej.ring s.ej.next := hring
  obtain ⟨e, he, ⟨hshort, hrep, hej⟩ | ⟨hfull, hrep, hej⟩⟩ := s.appendStamped_cases time unset b
  · rw [JournalOk, hej, hrep]
    refine ⟨by simp, by simp; omega, Nat.mod_lt _ (by decide), hring'.follow hlen hnext 0 he, fun p => ?_⟩
    obtain ⟨hcursor, hpending⟩ := hcursors p
    refine ⟨hcursor, ?_⟩
    unfold pendingCount seqModulus at hpending ⊢
    simp only [List.drop_zero, List.length_append, List.length_singleton]
    omega
  · have hlength : s.ej.ring.length = 256 := Nat.le_antisymm hlen hfull
    have hleft := hring 0 (by omega)
    have holdest := hring 1 (by omega)
    rw [hlength] at hleft holdest
    rw [JournalOk, hej, hrep, hleft, holdest]
    refine ⟨by simp, by simp; omega, Nat.mod_lt _ (by decide), hring'.follow hlen hnext 1 he, fun p => ?_⟩
    obtain ⟨hcursor, hpending⟩ := hcursors p
    rw [hlength] at hpending
    rw [Trio.get_map]
    simpa [pendingCount, seqModulus, hlength] using RepPort.passOver_inRange hnext hcursor hpending

theorem ReportMove.keepsJournal {C : PortId → Prop} {s t : State} (h : ReportMove C s t) (hs : JournalOk s) : JournalOk t := by
  cases h with
  | appends time unset b => exact journalOk_appendStamped hs time unset b
  | copies hej hreach _ =>
    obtain ⟨hne, hlen, hnext, hring, hcursors⟩ := hs
    rw [JournalOk, hej]
    refine ⟨hne, hlen, hnext, hring, fun p => ?_⟩
    obtain ⟨hcursor, hpending⟩ := hcursors p
    obtain ⟨hcursor', hpending'⟩ := hreach p hcursor
    exact ⟨hcursor', hpending'.trans hpending⟩

/-- Right after a part reset the ring holds one entry, and every cursor stands on it (R182). -/
theorem journalOk_partReset (a b c : Role) (s : State) : JournalOk (partReset a b c s) := by
  refine ⟨nofun, (by decide : 1 ≤ 256), (by decide : 2 < 4294967296), fun i hi => ?_, fun p => ?_⟩
  · obtain rfl : i = 0 := Nat.lt_one_iff.1 hi
    exact (by decide : 1 = (2 + 4294967296 - (1 - 0)) % 4294967296)
  · have hrep : (partReset a b c s).rep.get p = .initial (decide (0 < demotedCount a b c)) := by cases p <;> rfl
    rw [hrep]
    exact ⟨(by decide : 1 < 4294967296), (by decide : (2 + 4294967296 - 1) % 4294967296 ≤ 1)⟩

/-- Settles O52: every move of a command keeps the journal in form, and a part reset begins it anew. -/
theorem journalStaysConsecutive : Obligations.JournalStaysConsecutive := by
  unfold Obligations.JournalStaysConsecutive
  intro s t hs hstep
  unfold step at hstep
  split at hstep
  · injection hstep with hst
    exact hst ▸ hs
  next c rest _ =>
    by_cases hreset : ∃ a b d, c = .partReset a b d
    · obtain ⟨a, b, d, rfl⟩ := hreset
      obtain rfl : partReset a b d { s with pending := rest } = t := by injection hstep
      exact journalOk_partReset a b d _
    · have hmoves := exec_reportMoves (fun a b d hc => hreset ⟨a, b, d, hc⟩) hstep
      exact hmoves.keeps ReportMove.keepsJournal hs

end Sys2Proof.Machine


/-! PROOFS. The words that open a transaction (TransactionOpens). -/

namespace Sys2Proof.Machine

/-! ### Select and header words (R185) -/

theorem startTransaction_ready {p : PortId} {s : State} (h : PortReady p s) :
    startTransaction p s = s.setPort p (s.pi.get p).opened :=
  if_pos ⟨h.1, by simp [h.2]⟩

theorem startTransaction_notReady {p : PortId} {s : State} (h : ¬PortReady p s) : startTransaction p s = s :=
  if_neg fun ⟨hphase, hheld⟩ => h ⟨hphase, by simpa using hheld⟩

theorem takeHeaderWord_waits {p : PortId} {s : State} (w : Word) (hphase : (s.pi.get p).phase = .header)
    (hwords : (s.pi.get p).words.length < 2) :
    takeHeaderWord p w s = s.setPort p { s.pi.get p with words := (s.pi.get p).words ++ [w] } :=
  if_pos ⟨hphase, hwords⟩

/-- The third header word is decoded and answered, and places the sweep. -/
theorem takeHeader_third {p : PortId} {s : State} {w0 w1 : Word} (w : Word) (hphase : (s.pi.get p).phase = .header)
    (hwords : (s.pi.get p).words = [w0, w1]) :
    takeHeader p w s = s.setPort p { s.pi.get p with
      phase := .wait
      words := [w0, w1, w]
      header := some (decodeHeader w0 w1 w)
      answer := some (waitAnswer (decodeHeader w0 w1 w) s)
      filler := 0
      bound := s.pub.next
      record := (decodeHeader w0 w1 w).record
      offset := (decodeHeader w0 w1 w).offset
      firstPass := true
      snapshot := []
      headCursor := (s.rep.get p).cursor } := by
  simp only [takeHeader, hphase, hwords]

/-! ### The wait answer (R186) -/

/-- The condition of a HELD answer: a RECORD read in range of a group with a publish in flight. -/
theorem waitAnswer_eq (h : Header) (s : State) :
    waitAnswer h s =
      if h.write = false ∧ h.control = false ∧ h.outOfRange = false ∧ ∃ f ∈ s.pub.flights, f.group = h.group then .held
      else .prompt := by
  simp [waitAnswer, inFlight, and_assoc]

/-! ### Filler words (R186) -/

/-- The port after a filler word that is not the last. -/
def PiPort.filled (a : WaitAnswer) (x : PiPort) : PiPort :=
  { x with dataOut := if x.filler = 0 ∧ a = .held then 1 else 0, filler := x.filler + 1 }

section Filler
variable {p : PortId} {s : State} {h : Header} (hphase : (s.pi.get p).phase = .wait) (hh : (s.pi.get p).header = some h)
include hphase hh

theorem takeFiller_more {a : WaitAnswer} (ha : (s.pi.get p).answer = some a) (hmore : (s.pi.get p).filler + 1 < fillerCount a) :
    takeFiller p s = s.setPort p ((s.pi.get p).filled a) := by
  simp only [takeFiller, PiPort.filled, fillerWord, hphase, ha, hh, hmore, if_true]

theorem takeFiller_last_prompt (ha : (s.pi.get p).answer = some .prompt) (hlast : ¬(s.pi.get p).filler + 1 < 2) :
    takeFiller p s = s.setPort p { (s.pi.get p).filled .prompt with phase := .data } := by
  simp only [takeFiller, PiPort.filled, fillerWord, fillerCount, hphase, ha, hh, hlast, if_false]

theorem takeFiller_last_held (ha : (s.pi.get p).answer = some .held) (hlast : ¬(s.pi.get p).filler + 1 < 34) :
    takeFiller p s =
      (completeBefore h.group (s.pi.get p).bound s).setPort p { (s.pi.get p).filled .held with phase := .data } := by
  simp only [takeFiller, PiPort.filled, fillerWord, fillerCount, hphase, ha, hh, hlast, if_false]

end Filler

/-- The publishes that the last filler word of a HELD read ends are those of the group that were in flight at its header. -/
theorem mem_completeBefore {g bound : Nat} {s : State} {f : Flight} :
    f ∈ (completeBefore g bound s).pub.flights ↔ f ∈ s.pub.flights ∧ ¬(f.group = g ∧ f.number < bound) := by
  simp [completeBefore, Classical.or_iff_not_imp_left]

/-! ### TransactionOpens -/

/-- Settles O33, word by word of a transaction that opens. -/
theorem transactionOpens : Obligations.TransactionOpens := by
  unfold Obligations.TransactionOpens
  intro dt p w s u x
  refine ⟨fun hready => ?_, fun hbusy => ?_, fun hphase hwords => ?_, fun w0 w1 hphase hwords => ?_, fun a h hphase ha hh => ?_⟩
  · exact congrArg Host.Outcome.next (startTransaction_ready (s := u) hready)
  · exact congrArg Host.Outcome.next (startTransaction_notReady (s := u) hbusy)
  · exact congrArg Host.Outcome.next (takeHeaderWord_waits w hphase hwords)
  · intro h held
    have hanswer := waitAnswer_eq h u
    exact ⟨waitAnswer h u, fun hheld => hanswer.trans (if_pos hheld), fun hheld => hanswer.trans (if_neg hheld),
      congrArg Host.Outcome.next (takeHeader_third w hphase hwords)⟩
  · intro count y
    have hcount : count = fillerCount a := by cases a <;> rfl
    refine ⟨fun hmore => ?_, fun hlast hprompt => ?_, fun hlast hheld => ?_⟩
    · exact congrArg Host.Outcome.next (takeFiller_more (s := u) hphase hh ha (hcount ▸ hmore))
    · subst hprompt
      exact congrArg Host.Outcome.next (takeFiller_last_prompt (s := u) hphase hh ha (Nat.not_lt.2 hlast))
    · subst hheld
      refine ⟨_, congrArg Host.Outcome.next (takeFiller_last_held (s := u) hphase hh ha (Nat.not_lt.2 hlast)), by simp [onlyTouches_iff],
        by simp; rfl, fun f hf => mem_completeBefore.1 hf, fun f hf hstays => mem_completeBefore.2 ⟨hf, hstays⟩⟩

end Sys2Proof.Machine

/-! PROOFS. What a write buffer holds, byte by byte (TransactionDataWords). -/

namespace Sys2Proof.Machine

/-! ### The two bytes of a word (R189) -/

/-- A word is its two bytes. -/
theorem word_eq_of_bytes {v w : Word} (hhi : v.extractLsb' 8 8 = w.extractLsb' 8 8) (hlo : v.extractLsb' 0 8 = w.extractLsb' 0 8) :
    v = w := by
  refine BitVec.eq_of_getLsbD_eq fun i hi => ?_
  by_cases h : i < 8
  · simpa [h] using congrArg (·.getLsbD i) hlo
  · have hbit := congrArg (·.getLsbD (i - 8)) hhi
    simpa [show i - 8 < 8 by omega, show 8 + (i - 8) = i by omega] using hbit

theorem MaskedWord.mask_bit (m : MaskedWord) {i : Nat} (hi : i < 16) : m.mask.getLsbD i = if i < 8 then m.lo else m.hi := by
  have hbits : ∀ hi lo : Bool, ∀ i < 16, (⟨0, hi, lo⟩ : MaskedWord).mask.getLsbD i = if i < 8 then lo else hi := by decide
  exact hbits m.hi m.lo i hi

theorem MaskedWord.over_bit (m : MaskedWord) (old : Word) {i : Nat} (hi : i < 16) :
    (m.over old).getLsbD i = if (if i < 8 then m.lo else m.hi) then m.value.getLsbD i else old.getLsbD i := by
  rw [MaskedWord.over, BitVec.getLsbD_or, BitVec.getLsbD_and, BitVec.getLsbD_and, BitVec.getLsbD_not, MaskedWord.mask_bit m hi]
  generalize (if i < 8 then m.lo else m.hi) = half
  cases half <;> simp [hi]

/-- Each half of a word is replaced when it is written, and stands otherwise. -/
theorem MaskedWord.over_bytes (m : MaskedWord) (old : Word) :
    (m.over old).extractLsb' 8 8 = (if m.hi then m.value.extractLsb' 8 8 else old.extractLsb' 8 8) ∧
      (m.over old).extractLsb' 0 8 = (if m.lo then m.value.extractLsb' 0 8 else old.extractLsb' 0 8) := by
  constructor
  · refine BitVec.eq_of_getLsbD_eq fun i hi => ?_
    rw [BitVec.getLsbD_extractLsb', MaskedWord.over_bit m old (by omega), if_neg (by omega : ¬8 + i < 8)]
    split <;> simp [hi]
  · refine BitVec.eq_of_getLsbD_eq fun i hi => ?_
    rw [BitVec.getLsbD_extractLsb', MaskedWord.over_bit m old (by omega), if_pos (by omega : 0 + i < 8)]
    split <;> simp [hi]

theorem MaskedWord.over_unwritten {m : MaskedWord} (h : m.written = false) (old : Word) : m.over old = old := by
  obtain ⟨hhi, hlo⟩ : m.hi = false ∧ m.lo = false := by simpa [MaskedWord.written] using h
  obtain ⟨hbyte, hbyte'⟩ := MaskedWord.over_bytes m old
  exact word_eq_of_bytes (by rw [hbyte, hhi]; rfl) (by rw [hbyte', hlo]; rfl)

/-! ### The last byte of each half (R189) -/

/-- Whether a buffered word writes a half of a position. -/
def BufferWord.writesHalf (high : Bool) (r o : Nat) (b : BufferWord) : Prop :=
  b.record = r ∧ b.offset = o ∧ (if high then b.word.hi else b.word.lo) = true

theorem lastByte_snoc (high : Bool) (buf : List BufferWord) (b : BufferWord) (r o : Nat) :
    (b.writesHalf high r o → lastByte high (buf ++ [b]) r o = some (b.word.value.extractLsb' (if high then 8 else 0) 8)) ∧
      (¬b.writesHalf high r o → lastByte high (buf ++ [b]) r o = lastByte high buf r o) := by
  unfold lastByte BufferWord.writesHalf
  constructor
  · rintro ⟨hr, ho, hhalf⟩
    simp [List.filter_append, hr, ho, hhalf]
  · intro h
    have hnone : (decide (b.record = r) && decide (b.offset = o) && (if high then b.word.hi else b.word.lo)) = false := by
      rw [Bool.eq_false_iff]
      simpa [and_assoc] using h
    rw [List.filter_append, List.filter_cons, hnone]
    simp

theorem lastByte_none {high : Bool} {buf : List BufferWord} {r o : Nat} (h : ∀ b ∈ buf, ¬b.writesHalf high r o) :
    lastByte high buf r o = none := by
  unfold lastByte
  rw [List.filter_eq_nil_iff.2 fun b hb => by simpa [BufferWord.writesHalf, and_assoc] using h b hb]
  rfl

theorem bufferAt_snoc (buf : List BufferWord) (b : BufferWord) (r o : Nat) :
    bufferAt (buf ++ [b]) r o = if b.record = r ∧ b.offset = o then (bufferAt buf r o).merge b.word else bufferAt buf r o := by
  rw [bufferAt, List.foldl_append]
  rfl

/-- Each half of what the buffer holds is the last byte written there, 0 where none is. -/
theorem bufferAt_bytes (buf : List BufferWord) (r o : Nat) :
    (bufferAt buf r o).hi = (lastByte true buf r o).isSome ∧ (bufferAt buf r o).lo = (lastByte false buf r o).isSome ∧
      (bufferAt buf r o).value.extractLsb' 8 8 = (lastByte true buf r o).getD 0 ∧
      (bufferAt buf r o).value.extractLsb' 0 8 = (lastByte false buf r o).getD 0 := by
  induction buf using List.reverseRecOn with
  | nil => exact ⟨rfl, rfl, (by decide : BitVec.extractLsb' 8 8 (0 : Word) = 0), (by decide : BitVec.extractLsb' 0 8 (0 : Word) = 0)⟩
  | append_singleton buf b ih =>
    obtain ⟨hhi, hlo, hbyte, hbyte'⟩ := ih
    obtain ⟨hlast, hkept⟩ := lastByte_snoc true buf b r o
    obtain ⟨hlast', hkept'⟩ := lastByte_snoc false buf b r o
    rw [bufferAt_snoc]
    split
    next hpos =>
      obtain ⟨hmerge, hmerge'⟩ := MaskedWord.over_bytes b.word (bufferAt buf r o).value
      have hhigh : b.word.hi = true ↔ b.writesHalf true r o := by simp [BufferWord.writesHalf, hpos.1, hpos.2]
      have hlow : b.word.lo = true ↔ b.writesHalf false r o := by simp [BufferWord.writesHalf, hpos.1, hpos.2]
      unfold MaskedWord.merge
      dsimp only
      rw [hmerge, hmerge']
      refine ⟨?_, ?_, ?_, ?_⟩
      · by_cases h : b.word.hi = true
        · simp [hlast (hhigh.1 h), h]
        · simp [hkept (mt hhigh.2 h), h, hhi]
      · by_cases h : b.word.lo = true
        · simp [hlast' (hlow.1 h), h]
        · simp [hkept' (mt hlow.2 h), h, hlo]
      · by_cases h : b.word.hi = true
        · simp [hlast (hhigh.1 h), h]
        · simp [hkept (mt hhigh.2 h), h, hbyte]
      · by_cases h : b.word.lo = true
        · simp [hlast' (hlow.1 h), h]
        · simp [hkept' (mt hlow.2 h), h, hbyte']
    next hpos =>
      rw [hkept fun h => hpos ⟨h.1, h.2.1⟩, hkept' fun h => hpos ⟨h.1, h.2.1⟩]
      exact ⟨hhi, hlo, hbyte, hbyte'⟩

/-- What the buffer holds for a position, as the statements say it. -/
theorem bufferAt_eq_bufferedWord (buf : List BufferWord) (r o : Nat) : bufferAt buf r o = bufferedWord buf r o := by
  obtain ⟨hhi, hlo, hbyte, hbyte'⟩ := bufferAt_bytes buf r o
  have happend : ∀ a b : Byte, BitVec.extractLsb' 8 8 (a ++ b) = a ∧ BitVec.extractLsb' 0 8 (a ++ b) = b := fun a b =>
    ⟨BitVec.extractLsb'_append_eq_left, BitVec.extractLsb'_append_eq_right⟩
  have hvalue : (bufferAt buf r o).value = (lastByte true buf r o).getD 0 ++ (lastByte false buf r o).getD 0 :=
    word_eq_of_bytes (hbyte.trans (happend _ _).1.symm) (hbyte'.trans (happend _ _).2.symm)
  unfold bufferedWord
  rw [← hvalue, ← hhi, ← hlo]

/-- What a word becomes under the buffer: in each half the last byte written there, if one is. -/
theorem bufferAt_over_bytes (buf : List BufferWord) (r o : Nat) (old : Word) :
    ((bufferAt buf r o).over old).extractLsb' 8 8 = (lastByte true buf r o).getD (old.extractLsb' 8 8) ∧
      ((bufferAt buf r o).over old).extractLsb' 0 8 = (lastByte false buf r o).getD (old.extractLsb' 0 8) := by
  obtain ⟨hhi, hlo, hbyte, hbyte'⟩ := bufferAt_bytes buf r o
  obtain ⟨hover, hover'⟩ := MaskedWord.over_bytes (bufferAt buf r o) old
  rw [hover, hover', hhi, hlo, hbyte, hbyte']
  constructor
  · cases lastByte true buf r o <;> rfl
  · cases lastByte false buf r o <;> rfl

/-- A buffer that writes no byte of a record holds none for it. -/
theorem bufferAt_unwritten {buf : List BufferWord} {r : Nat}
    (h : ∀ b ∈ buf, b.record = r → b.word.hi = false ∧ b.word.lo = false) (o : Nat) : (bufferAt buf r o).written = false := by
  obtain ⟨hhi, hlo, -, -⟩ := bufferAt_bytes buf r o
  have hnone : ∀ high, lastByte high buf r o = none := fun high => lastByte_none fun b hb ⟨hr, _, hhalf⟩ => by
    obtain ⟨hbhi, hblo⟩ := h b hb hr
    cases high
    · exact absurd (hblo.symm.trans hhalf) nofun
    · exact absurd (hbhi.symm.trans hhalf) nofun
  rw [MaskedWord.written, hhi, hlo, hnone, hnone]
  rfl

/-! ### The buffer sent again as one whole write (R189) -/

/-- A buffered word merged into an empty position is itself: its unwritten bytes are 0. -/
theorem blank_merge_bufferAt (buf : List BufferWord) (r o : Nat) : MaskedWord.blank.merge (bufferAt buf r o) = bufferAt buf r o := by
  obtain ⟨hhi, hlo, hbyte, hbyte'⟩ := bufferAt_bytes buf r o
  obtain ⟨hover, hover'⟩ := bufferAt_over_bytes buf r o 0
  have hvalue : (bufferAt buf r o).over 0 = (bufferAt buf r o).value :=
    word_eq_of_bytes (hover.trans hbyte.symm) (hover'.trans hbyte'.symm)
  change MaskedWord.mk ((bufferAt buf r o).over 0) (false || _) (false || _) = _
  rw [hvalue, Bool.false_or, Bool.false_or]

/-- Each position of the buffer of a whole write holds its own word. -/
theorem bufferAt_wholeBuffer (r len o : Nat) (ws : List MaskedWord) (h : ws.length ≤ len) :
    bufferAt (wholeBuffer r len ws) r o = MaskedWord.blank.merge (maskedAt ws o) := by
  have hblank : MaskedWord.blank.merge .blank = .blank := by decide
  induction ws using List.reverseRecOn with
  | nil => exact hblank.symm
  | append_singleton ws w ih =>
    rw [List.length_append, List.length_singleton] at h
    rw [bufferAt_wholeBuffer_snoc, ih (by omega), Nat.mod_eq_of_lt (by omega)]
    split
    next ho =>
      subst ho
      have hempty : maskedAt ws ws.length = .blank := by simp [maskedAt]
      have hlast : maskedAt (ws ++ [w]) ws.length = w := by simp [maskedAt]
      rw [hempty, hlast, hblank]
    next ho =>
      congr 1
      unfold maskedAt
      rcases Nat.lt_or_gt_of_ne ho with hlt | hgt
      · rw [List.getD_eq_default _ _ hlt.le, List.getD_eq_default _ _ (by simpa using hlt)]
      · rw [List.getD_append _ _ _ _ hgt]

theorem bufferRecord_again (buf : List BufferWord) (r len : Nat) :
    bufferRecord (wholeBuffer r len (bufferRecord buf r len)) r len = bufferRecord buf r len := by
  refine List.map_congr_left fun o ho => ?_
  rw [bufferAt_wholeBuffer _ _ _ _ (by simp [bufferRecord]), maskedAt_bufferRecord (List.mem_range.1 ho), blank_merge_bufferAt]

end Sys2Proof.Machine

/-! PROOFS. What the end of a RECORD write leaves of each record (TransactionDataWords). -/

namespace Sys2Proof.Machine

/-! ### One record at the completion (R189) -/

/-- The state with every written record of a buffer changed, before the board takes the postings (R189). -/
def recordsWritten (p : PortId) (g : Nat) (buf : List BufferWord) (s : State) : State :=
  ((List.range (recordCount g)).filter (fun r => buf.any (·.record = r))).foldl (applyRecord p g buf) s

theorem completeWrite_eq (p : PortId) (g : Nat) (buf : List BufferWord) (s : State) :
    completeWrite p g buf s = boardChange (writePostings s (recordsWritten p g buf s)) (recordsWritten p g buf s) := rfl

theorem anyWritten_bufferRecord {buf : List BufferWord} {r : Nat} (h : ∀ b ∈ buf, b.record = r → b.word.hi = false ∧ b.word.lo = false)
    (len : Nat) : anyWritten (bufferRecord buf r len) = false := by
  refine List.any_eq_false.2 fun m hm => ?_
  obtain ⟨o, -, rfl⟩ := List.mem_map.1 hm
  rw [bufferAt_unwritten h]
  exact Bool.false_ne_true

section Records
variable {p : PortId} {g : Nat} {buf : List BufferWord}

/-- A record without a written byte stands. -/
theorem applyRecord_unwritten {r : Nat} (h : ∀ b ∈ buf, b.record = r → b.word.hi = false ∧ b.word.lo = false) (s : State) :
    applyRecord p g buf s r = s :=
  if_neg (by rw [anyWritten_bufferRecord h]; exact Bool.false_ne_true)

theorem applyRecord_absent {r : Nat} (h : ∀ b ∈ buf, b.record ≠ r) (s : State) : applyRecord p g buf s r = s :=
  applyRecord_unwritten (fun b hb hr => absurd hr (h b hb)) s

/-- A buffer without a written byte completes as nothing. -/
theorem completeWrite_unwritten (h : ∀ b ∈ buf, b.word.hi = false ∧ b.word.lo = false) (s : State) : completeWrite p g buf s = s := by
  have hidle : ∀ rs : List Nat, rs.foldl (applyRecord p g buf) s = s := fun rs => by
    induction rs with
    | nil => rfl
    | cons r rs ih => rw [List.foldl_cons, applyRecord_unwritten fun b hb _ => h b hb, ih]
  rw [completeWrite_eq, recordsWritten, hidle]
  exact boardChange_sameCaps rfl rfl rfl rfl

variable {r : Nat} {α : Type} {part : State → α}

/-- What the writes of other records leave, and the write of record `r` takes from itself alone, the fold over all records leaves as the write of
record `r` does. -/
theorem part_foldRecords {rs : List Nat} (hnodup : rs.Nodup)
    (hother : ∀ k ∈ rs, k ≠ r → ∀ s, part (applyRecord p g buf s k) = part s)
    (hown : ∀ s s', part s = part s' → part (applyRecord p g buf s r) = part (applyRecord p g buf s' r)) (s : State) :
    part (rs.foldl (applyRecord p g buf) s) = part (if r ∈ rs then applyRecord p g buf s r else s) := by
  induction rs generalizing s with
  | nil => rfl
  | cons k rs ih =>
    obtain ⟨hk, hrs⟩ := List.nodup_cons.1 hnodup
    have hrest := ih hrs (fun j hj => hother j (List.mem_cons_of_mem _ hj)) (applyRecord p g buf s k)
    rw [List.foldl_cons, hrest]
    by_cases hkr : k = r
    · subst hkr
      rw [if_neg hk, if_pos List.mem_cons_self]
    · have hstands := hother k List.mem_cons_self hkr s
      by_cases hr : r ∈ rs
      · rw [if_pos hr, if_pos (List.mem_cons_of_mem _ hr)]
        exact hown _ _ hstands
      · rw [if_neg hr, if_neg (by simp [hr, Ne.symm hkr])]
        exact hstands

theorem part_recordsWritten (hr : r < recordCount g)
    (hother : ∀ k, k < recordCount g → k ≠ r → ∀ s, part (applyRecord p g buf s k) = part s)
    (hown : ∀ s s', part s = part s' → part (applyRecord p g buf s r) = part (applyRecord p g buf s' r)) (s : State) :
    part (recordsWritten p g buf s) = part (applyRecord p g buf s r) := by
  refine (part_foldRecords (List.nodup_range.filter _)
    (fun k hk => hother k (List.mem_range.1 (List.mem_filter.1 hk).1)) hown s).trans ?_
  split
  · rfl
  next hnot =>
    rw [applyRecord_absent fun b hb hb' => hnot (List.mem_filter.2 ⟨List.mem_range.2 hr, List.any_eq_true.2 ⟨b, hb, by simp [hb']⟩⟩)]

/-- A buffer of one record completes as the write of that record. -/
theorem completeWrite_single (hr : r < recordCount g) (h : ∀ b ∈ buf, b.record = r) (s : State) :
    completeWrite p g buf s = boardChange (writePostings s (applyRecord p g buf s r)) (applyRecord p g buf s r) := by
  have hwritten : recordsWritten p g buf s = applyRecord p g buf s r :=
    part_recordsWritten (part := id) hr (fun k _ hk s => applyRecord_absent (fun b hb hb' => hk (hb'.symm.trans (h b hb))) s)
      (fun s s' heq => by rw [show s = s' from heq]) s
  rw [completeWrite_eq, hwritten]

/-- The whole write of what the buffer holds for a record, as the buffer itself writes it. -/
theorem completeWrite_again (hr : r < recordCount g) (s : State) :
    completeWrite p g (wholeBuffer r (recordLength g r) (bufferRecord buf r (recordLength g r))) s =
      boardChange (writePostings s (applyRecord p g buf s r)) (applyRecord p g buf s r) := by
  rw [completeWrite_single hr fun b hb => by obtain ⟨w, -, rfl⟩ := List.mem_map.1 hb; rfl]
  unfold applyRecord
  rw [bufferRecord_again]

/-- After the completion record `r` shows what its own write alone leaves, whatever the board then takes. -/
def LeftAsAlone (p : PortId) (g r : Nat) (buf : List BufferWord) (s : State) : Prop :=
  ∀ cs, image g r (completeWrite p g buf s) = image g r (boardChange cs (applyRecord p g buf s r))

/-- So it is where the words of record `r` are shown by a part of the state that no other record's write and no change of the board reaches. -/
theorem leftAsAlone_of_part (shown : α → List Word) (himage : ∀ s, image g r s = shown (part s))
    (hboard : ∀ cs s, part (boardChange cs s) = part s) (hr : r < recordCount g)
    (hother : ∀ k, k < recordCount g → k ≠ r → ∀ ms s, part (writeRecord p g k ms s) = part s)
    (hown : ∀ ms s s', part s = part s' → part (writeRecord p g r ms s) = part (writeRecord p g r ms s')) (s : State) :
    LeftAsAlone p g r buf s := by
  intro cs
  rw [completeWrite_eq, himage, himage, hboard, hboard]
  refine congrArg shown (part_recordsWritten hr (fun k hk hkr s => ?_) (fun s s' heq => ?_) s)
  · unfold applyRecord; dsimp only; split
    · exact hother k hk hkr _ s
    · rfl
  · unfold applyRecord; dsimp only; split
    · exact hown _ s s' heq
    · exact heq

end Records

/-! ### The records that the rows of the table write -/

/-- The entry that a change of a table entry leaves. -/
theorem getElem?_tmod_self {α : Type} [Inhabited α] (xs : List α) (n : Nat) (f : α → α) : (tmod xs n f)[n]? = xs[n]?.map f := by
  by_cases h : n < xs.length
  · simp [tmod, tget, h]
  · simp [tmod, h]

theorem getElem?_tmod_ne {α : Type} [Inhabited α] (xs : List α) {n k : Nat} (h : k ≠ n) (f : α → α) : (tmod xs n f)[k]? = xs[k]? :=
  List.getElem?_set_ne h.symm

section Images
variable {p : PortId} {buf : List BufferWord}

theorem shaftConfiguration_leftAsAlone (s : State) : LeftAsAlone p 2 0 buf s := by
  refine leftAsAlone_of_part (part := fun s => (s.sau.config, s.jobs.shaft)) (fun x => fit 8 (shaftConfigImage x.1)) (fun _ => rfl)
    (fun _ _ => by simp) (by decide) (fun k hk hk' => absurd (Nat.lt_one_iff.1 hk) hk') (fun ms s s' heq => ?_) s
  obtain ⟨hconfig, hjob⟩ := Prod.mk.inj heq
  change ((writeShaft ms s).sau.config, (writeShaft ms s).jobs.shaft) = ((writeShaft ms s').sau.config, (writeShaft ms s').jobs.shaft)
  unfold writeShaft
  rw [hjob, hconfig]
  split <;> simp [hjob, hconfig]

theorem lineDefinition_leftAsAlone {n : Nat} (hn : n < 24) (s : State) : LeftAsAlone p 3 n buf s := by
  have himage : ∀ s, image 3 n s = fit (recordLength 3 n) (lineDefImage (s.gcm.defs[n]?.getD default)) := fun s => by
    change fit _ (if n < 24 then _ else _) = _
    rw [if_pos hn, tget, List.getD_eq_getElem?_getD]
  refine leftAsAlone_of_part (part := fun s => s.gcm.defs[n]?) (fun x => fit (recordLength 3 n) (lineDefImage (x.getD default))) himage
    (fun _ _ => by simp) (Nat.lt_trans hn (by decide)) (fun k _ hk ms s => ?_) (fun ms s s' heq => ?_) s
  · change ((if k < 24 then writeLine k ms s else if k = 24 then writeCorr ms s else s).gcm.defs)[n]? = _
    repeat' split
    · simpa [writeLine] using getElem?_tmod_ne _ (Ne.symm hk) _
    · simp
    · rfl
  · have hwritten : ∀ s, (writeRecord p 3 n ms s).gcm.defs[n]? = s.gcm.defs[n]?.map (LineDef.write ms) := fun s => by
      change ((if n < 24 then writeLine n ms s else _).gcm.defs)[n]? = _
      rw [if_pos hn]
      simpa [writeLine] using getElem?_tmod_self _ _ _
    rw [hwritten, hwritten, heq]

theorem gridConfiguration_leftAsAlone (s : State) : LeftAsAlone p 5 0 buf s := by
  refine leftAsAlone_of_part (part := fun s => s.ghm.config) (fun c => fit 52 (gridConfigImage c)) (fun _ => rfl) (fun _ _ => by simp)
    (by decide) (fun k hk hk' => absurd (Nat.lt_one_iff.1 hk) hk') (fun ms s s' heq => ?_) s
  exact congrArg (GridConfig.write ms) heq

theorem watchConfiguration_leftAsAlone (s : State) : LeftAsAlone p 7 0 buf s := by
  refine leftAsAlone_of_part (part := fun s => s.cw.config) (fun c => fit 26 (watchConfigImage c)) (fun _ => rfl) (fun _ _ => by simp)
    (by decide) (fun k _ hk ms s => ?_) (fun ms s s' heq => ?_) s
  · change (if k = 0 then writeWatch ms s else s).cw.config = _
    rw [if_neg hk]
  · exact congrArg (WatchConfig.write ms) heq

theorem operatingRecord_leftAsAlone (s : State) : LeftAsAlone p 8 0 buf s := by
  have hwritten : ∀ ms s, (writeOperating ms s).icd.op = s.icd.op.write ms := fun ms s => by
    unfold writeOperating
    rw [operatingArrived_icd]
    unfold Icd.arrive Icd.sum
    dsimp only
    repeat' split
    all_goals simp
  refine leftAsAlone_of_part (part := fun s => s.icd.op) (fun x => fit 7 (opImage x)) (fun _ => rfl) (fun _ _ => by simp)
    (by decide) (fun k _ hk ms s => ?_) (fun ms s s' heq => ?_) s
  · change (if k = 0 then writeOperating ms s else s).icd.op = _
    rw [if_neg hk]
  · exact (hwritten ms s).trans ((congrArg (OpRecord.write ms) heq).trans (hwritten ms s').symm)

theorem icingConfiguration_leftAsAlone (s : State) : LeftAsAlone p 9 0 buf s := by
  have hwritten : ∀ ms s, (writeIcing ms s).icd.config = s.icd.config.write ms := fun ms s => by rw [writeIcing_icd]
  refine leftAsAlone_of_part (part := fun s => s.icd.config) (fun c => fit 16 (icingConfigImage c)) (fun _ => rfl) (fun _ _ => by simp)
    (by decide) (fun k _ hk ms s => ?_) (fun ms s s' heq => ?_) s
  · change (if k = 0 then writeIcing ms s else if k = 1 then writeCurve ms s else s).icd.config = _
    rw [if_neg hk]
    split <;> rfl
  · exact (hwritten ms s).trans ((congrArg (IcingConfig.write ms) heq).trans (hwritten ms s').symm)

theorem itemSlot_leftAsAlone {n : Nat} (hn : n < 32) (s : State) : LeftAsAlone p 13 n buf s := by
  have himage : ∀ s, image 13 n s = fit (recordLength 13 n) (itemImage (s.ms.items[n]?.getD default)) := fun s => by
    change fit _ (if n < 32 then _ else _) = _
    rw [if_pos hn, tget, List.getD_eq_getElem?_getD]
  refine leftAsAlone_of_part (part := fun s => s.ms.items[n]?) (fun x => fit (recordLength 13 n) (itemImage (x.getD default))) himage
    (fun _ _ => by simp) (Nat.lt_trans hn (by decide)) (fun k _ hk ms s => ?_) (fun ms s s' heq => ?_) s
  · change ((if k < 32 then writeItem k ms s else if k = 32 then writeDeferArg ms s else s).ms.items)[n]? = _
    repeat' split
    · simpa [writeItem] using getElem?_tmod_ne _ (Ne.symm hk) _
    · rfl
    · rfl
  · have hwritten : ∀ s, (writeRecord p 13 n ms s).ms.items[n]? =
        s.ms.items[n]?.map (fun x => { x with written := x.written.write ms, takePending := true }) := fun s => by
      rw [writeRecord_item hn]
      simpa [writeItem] using getElem?_tmod_self _ _ _
    rw [hwritten, hwritten, heq]

theorem staging_leftAsAlone (s : State) : LeftAsAlone p 12 0 buf s := by
  refine leftAsAlone_of_part (part := fun s => s.cc.staging) (fun x => fit 6 (stagingImage x)) (fun _ => rfl) (fun _ _ => by simp)
    (by decide) (fun k hk hne ms s => ?_) (fun ms s s' heq => ?_) s
  · obtain rfl : k = 1 := by
      have hlt : k < 2 := hk
      omega
    rfl
  · exact congrArg (ClockStaging.write ms) heq

theorem restore_leftAsAlone (s : State) : LeftAsAlone p 12 1 buf s := by
  refine leftAsAlone_of_part (part := fun s => (s.cc.baseSeconds, s.cc.baseBins, s.cc.baseDamage))
    (fun x => fit 54 (natWords 2 x.1 ++ x.2.1.flatMap (natWords 3) ++ natWords 4 x.2.2)) (fun _ => rfl) (fun _ _ => by simp)
    (by decide) (fun k hk hne ms s => ?_) (fun ms s s' heq => ?_) s
  · obtain rfl : k = 0 := by
      have hlt : k < 2 := hk
      omega
    rfl
  · obtain ⟨hseconds, hbins, hdamage⟩ := (Prod.mk.inj heq).imp id Prod.mk.inj
    change ((writeRestore ms s).cc.baseSeconds, (writeRestore ms s).cc.baseBins, (writeRestore ms s).cc.baseDamage) = _
    unfold writeRestore restoreImage
    simp only [hseconds, hbins, hdamage]
    rfl

end Images

/-! ### The rows of the table that are whole writes (log entry 3) -/

theorem exec_wholeWrite {i : Instr} {k : WholeWrite} (h : wholeWriteOf i = some k) (s : State) :
    exec i s = .next (writeWhole k.port k.group k.record k.words (s.advance k.dt)) := by
  cases i <;> simp only [wholeWriteOf, Option.some.injEq, reduceCtorEq, Option.ite_none_right_eq_some] at h
  case lineDefinitionWrite | itemDefinitionWrite =>
    obtain ⟨hn, rfl⟩ := h
    exact congrArg Host.Outcome.next (if_pos hn)
  all_goals subst h; rfl

/-- Such a row writes a record that exists and has words; of group 15 its port's own. -/
theorem wholeWrite_record {i : Instr} {k : WholeWrite} (h : wholeWriteOf i = some k) :
    k.record < recordCount k.group ∧ 0 < recordLength k.group k.record ∧ (k.group = 15 → k.record = portNumber k.port) := by
  cases i <;> simp only [wholeWriteOf, Option.some.injEq, reduceCtorEq, Option.ite_none_right_eq_some] at h
  case lineDefinitionWrite =>
    obtain ⟨hn, rfl⟩ := h
    exact ⟨Nat.lt_trans hn (by decide : 24 < 25), by rw [recordLength, if_pos hn]; decide, nofun⟩
  case itemDefinitionWrite =>
    obtain ⟨hn, rfl⟩ := h
    exact ⟨Nat.lt_trans hn (by decide : 32 < 34), by rw [recordLength_item hn]; decide, nofun⟩
  case statusWrite =>
    subst h
    exact ⟨portNumber_lt _, (by decide : 0 < 13), fun _ => rfl⟩
  all_goals subst h; dsimp only; exact ⟨by decide, by decide, nofun⟩

theorem wholeWrite_leftAsAlone {i : Instr} {k : WholeWrite} (h : wholeWriteOf i = some k) (hg : k.group ≠ 15) (p : PortId)
    (buf : List BufferWord) (s : State) : LeftAsAlone p k.group k.record buf s := by
  cases i <;> simp only [wholeWriteOf, Option.some.injEq, reduceCtorEq, Option.ite_none_right_eq_some] at h
  case lineDefinitionWrite =>
    obtain ⟨hn, rfl⟩ := h
    exact lineDefinition_leftAsAlone hn s
  case itemDefinitionWrite =>
    obtain ⟨hn, rfl⟩ := h
    exact itemSlot_leftAsAlone hn s
  case operatingArrival => subst h; exact operatingRecord_leftAsAlone s
  case statusWrite => subst h; exact absurd rfl hg
  case shaftConfigurationWrite => subst h; exact shaftConfiguration_leftAsAlone s
  case gridConfigurationWrite => subst h; exact gridConfiguration_leftAsAlone s
  case watchConfigurationWrite => subst h; exact watchConfiguration_leftAsAlone s
  case icingConfigurationWrite => subst h; exact icingConfiguration_leftAsAlone s

end Sys2Proof.Machine

/-! PROOFS. The staging records after a masked write: written bytes taken, the others kept (TransactionDataWords). -/

namespace Sys2Proof.Machine

/-! ### Numbers in several words, and back (R198) -/

/-- Words appended below a number leave it above them. -/
theorem foldWords_div (ws : List Word) (a : Nat) :
    ws.foldl (fun a w => a * 65536 + w.toNat) a / 65536 ^ ws.length = a := by
  induction ws generalizing a with
  | nil => simp
  | cons w ws ih =>
    have hw := w.isLt
    rw [List.foldl_cons, List.length_cons, pow_succ, ← Nat.div_div_eq_div_mul, ih]
    omega

theorem natWords_foldWords (ws : List Word) (a : Nat) :
    natWords ws.length (ws.foldl (fun a w => a * 65536 + w.toNat) a) = ws := by
  induction ws generalizing a with
  | nil => rfl
  | cons w ws ih =>
    rw [List.foldl_cons, List.length_cons, natWords, ih, foldWords_div]
    congr 1
    exact BitVec.eq_of_toNat_eq (by simp [Nat.mul_add_mod_of_lt w.isLt])

/-- The words of the number that some words hold are those words. -/
theorem natWords_wideAt {ws : List Word} {n k : Nat} (h : n + k ≤ ws.length) : natWords k (wideAt ws n k) = (ws.drop n).take k := by
  have hlen : ((ws.drop n).take k).length = k := by simp; omega
  conv_lhs => rw [← hlen]
  exact (congrArg (natWords _) (by rw [wideAt, hlen])).trans (natWords_foldWords _ 0)

/-! ### Words under masks (R189) -/

theorem getElem_overlay {old : List Word} {ms : List MaskedWord} {n : Nat} (h : n < (overlay old ms).length) :
    (overlay old ms)[n] = (maskedAt ms n).over (wordAt old n) := by
  simp [overlay, maskedAt]

/-- Words without a written byte stand. -/
theorem overlay_unwritten {old : List Word} {ms : List MaskedWord} {n k : Nat}
    (h : ∀ i < k, (maskedAt ms (n + i)).written = false) : ((overlay old ms).drop n).take k = (old.drop n).take k := by
  refine List.ext_getElem (by simp) fun i hi _ => ?_
  have hi' : i < k ∧ n + i < old.length := by simp at hi; omega
  rw [List.getElem_take, List.getElem_drop, getElem_overlay, MaskedWord.over_unwritten (h i hi'.1), wordAt,
    List.getD_eq_getElem _ _ hi'.2]
  simp

/-- A field of several words after a write: its words as the write leaves them. -/
theorem natWords_field {old : List Word} {ms : List MaskedWord} {n k v : Nat} (h : n + k ≤ old.length)
    (hold : (old.drop n).take k = natWords k v) :
    natWords k (field ms n k v (wideAt (overlay old ms) n k)) = ((overlay old ms).drop n).take k := by
  unfold field
  split
  · exact natWords_wideAt (by rw [overlay_length]; exact h)
  next hnone =>
    rw [overlay_unwritten fun i hi => ?_, hold]
    exact Bool.eq_false_iff.2 fun hwritten => hnone (List.any_eq_true.2 ⟨i, List.mem_range.2 hi, hwritten⟩)

/-- Blocks of words, one after the other. -/
theorem flatMap_blocks (ws : List Word) (n k m : Nat) :
    (List.range m).flatMap (fun i => (ws.drop (n + k * i)).take k) = (ws.drop n).take (k * m) := by
  induction m with
  | zero => simp
  | succ m ih => rw [List.range_succ, List.flatMap_append, ih, Nat.mul_succ, List.take_add, List.drop_drop]; simp

theorem block_of_flatMap (xs : List Nat) (k : Nat) {i : Nat} (h : i < xs.length) :
    ((xs.flatMap (natWords k)).drop (k * i)).take k = natWords k (tget xs i) := by
  induction xs generalizing i with
  | nil => cases h
  | cons x xs ih =>
    rw [List.flatMap_cons]
    cases i with
    | zero => rw [Nat.mul_zero, List.drop_zero, List.take_left' (natWords_length k x)]; rfl
    | succ i =>
      rw [Nat.mul_succ, Nat.add_comm (k * i) k, ← List.drop_drop, List.drop_left' (natWords_length k x), ih (by simpa using h)]
      rfl

/-- A table of fields of several words each after a write. -/
theorem flatMap_fieldWide {old : List Word} {ms : List MaskedWord} {n k : Nat} {xs : List Nat} (h : n + k * xs.length ≤ old.length)
    (hold : (old.drop n).take (k * xs.length) = xs.flatMap (natWords k)) :
    (fieldWide ms (overlay old ms) n k xs).flatMap (natWords k) = ((overlay old ms).drop n).take (k * xs.length) := by
  unfold fieldWide
  rw [List.flatMap_map, ← flatMap_blocks]
  refine List.flatMap_congr fun i hi => ?_
  have hi' := List.mem_range.1 hi
  have hlast : k * i + k ≤ k * xs.length := Nat.mul_le_mul_left k hi'
  refine natWords_field (by omega) ?_
  rw [← block_of_flatMap xs k hi', ← hold, List.drop_take, List.take_take, List.drop_drop, Nat.min_eq_left (by omega)]

/-! ### The staging records (R142, R150) -/

theorem fit_self {len : Nat} {ws : List Word} (h : ws.length = len) : fit len ws = ws := by
  subst h
  exact List.take_left

theorem restoreImage_writeRestore (ms : List MaskedWord) {s : State} (hb : s.cc.baseBins.length = 16) :
    restoreImage (writeRestore ms s).cc = overlay (restoreImage s.cc) ms := by
  have hlen := restoreImage_length hb
  have hbins : (s.cc.baseBins.flatMap (natWords 3)).length = 48 := by simp [natWords_length, hb]
  have hseconds := natWords_length 2 s.cc.baseSeconds
  have hsecondsAt : ((restoreImage s.cc).drop 0).take 2 = natWords 2 s.cc.baseSeconds := by
    rw [restoreImage, List.drop_zero, List.append_assoc, List.take_left' hseconds]
  have hbinsAt : ((restoreImage s.cc).drop 2).take (3 * s.cc.baseBins.length) = s.cc.baseBins.flatMap (natWords 3) := by
    rw [restoreImage, List.append_assoc, List.drop_left' hseconds, hb, List.take_left' hbins]
  have hdamageAt : ((restoreImage s.cc).drop 50).take 4 = natWords 4 s.cc.baseDamage := by
    rw [restoreImage, List.drop_left' (by simp [natWords_length, hb]), List.take_of_length_le (natWords_length 4 _).le]
  have hsplit : ∀ ws : List Word, ws.length = 54 →
      (ws.drop 0).take 2 ++ (ws.drop 2).take (3 * 16) ++ (ws.drop 50).take 4 = ws := fun ws h => by
    rw [List.drop_zero, ← List.take_add, List.take_of_length_le (l := ws.drop 50) (by simp [h]), List.take_append_drop]
  change natWords 2 (field ms 0 2 _ _) ++ (fieldWide ms _ 2 3 _).flatMap (natWords 3) ++ natWords 4 (field ms 50 4 _ _) = _
  rw [natWords_field (by omega) hsecondsAt, flatMap_fieldWide (by omega) hbinsAt, natWords_field (by omega) hdamageAt, hb,
    hsplit _ (by rw [overlay_length, hlen])]

/-- A write of a staging record takes its written bytes over what the record held. -/
theorem image_staging_applyRecord {r : Nat} (hr : r < 2) (p : PortId) (buf : List BufferWord) {s : State}
    (hb : s.cc.baseBins.length = 16) {k : Nat} (hk : k < recordLength 12 r) :
    wordAt (image 12 r (applyRecord p 12 buf s r)) k = (bufferAt buf r k).over (wordAt (image 12 r s) k) := by
  have hlen : (image 12 r s).length = recordLength 12 r := by simp [image, fit]
  have hwritten : image 12 r (applyRecord p 12 buf s r) = overlay (image 12 r s) (bufferRecord buf r (recordLength 12 r)) := by
    unfold applyRecord; dsimp only; split
    · obtain rfl | rfl : r = 0 ∨ r = 1 := by omega
      · rfl
      · have hrestored := restoreImage_writeRestore (bufferRecord buf 1 (recordLength 12 1)) hb
        have hfit := fit_self (restoreImage_length hb)
        change fit 54 (restoreImage (writeRestore _ s).cc) = overlay (fit 54 (restoreImage s.cc)) _
        rw [hrestored, hfit, fit_self (by rw [overlay_length, restoreImage_length hb])]
    next hnone =>
      have hstands := overlay_unwritten (old := image 12 r s) (ms := bufferRecord buf r (recordLength 12 r)) (n := 0)
        (k := recordLength 12 r) fun i hi => by
          rw [Nat.zero_add, maskedAt_bufferRecord hi]
          exact Bool.eq_false_iff.2 fun h => hnone (List.any_eq_true.2 ⟨_, List.mem_map.2 ⟨i, List.mem_range.2 hi, rfl⟩, h⟩)
      rw [List.drop_zero, List.drop_zero, List.take_of_length_le (by simp [hlen]), List.take_of_length_le hlen.le] at hstands
      exact hstands.symm
  rw [hwritten, wordAt, List.getD_eq_getElem _ _ (by rw [overlay_length, hlen]; exact hk), getElem_overlay, maskedAt_bufferRecord hk]

end Sys2Proof.Machine

/-! PROOFS. The data words of a transaction and its end (TransactionDataWords). -/

namespace Sys2Proof.Machine

/-! ### The sweep (R188) -/

/-- Where the sweep goes after a data word: record, offset, and whether a new pass begins (R188). -/
def Header.movesTo (h : Header) (r o : Nat) (first : Bool) : Nat × Nat × Bool :=
  let wrapped := if o + 1 < h.length r then o + 1 else 0
  let onward := if r + 1 < h.records then r + 1 else 0
  let runs := if o + 1 < h.length r then (r, o + 1, false) else (onward, 0, true)
  match h.sweep, first with
  | some .running, _ => runs
  | some .confinedThenRunning, false => runs
  | some .confinedThenRunning, true => if wrapped = h.offset then (onward, 0, true) else (r, wrapped, false)
  | _, _ => (r, wrapped, decide (wrapped = h.offset))

/-- Only the sweeps that run leave their first pass, where its record ends. -/
theorem Header.advance_eq (h : Header) (r o : Nat) (first : Bool) :
    h.advance r o first = ((h.movesTo r o first).1, (h.movesTo r o first).2.1,
      if (h.sweep = some .running ∨ h.sweep = some .confinedThenRunning) ∧ (h.movesTo r o first).2.2 = true then false else first,
      (h.movesTo r o first).2.2) := by
  unfold Header.advance Header.movesTo Header.nextRecord
  rcases h.sweep with _ | _ | _ | _
  · simp
  · simp
  · by_cases hmore : o + 1 < h.length r <;> simp [hmore]
  · cases first
    · by_cases hmore : o + 1 < h.length r <;> simp [hmore]
    · by_cases hback : (if o + 1 < h.length r then o + 1 else 0) = h.offset <;> simp [hback]

theorem PiPort.sweepOn_eq (h : Header) (x : PiPort) :
    x.sweepOn h = { x with
      record := (h.movesTo x.record x.offset x.firstPass).1
      offset := (h.movesTo x.record x.offset x.firstPass).2.1
      firstPass := if (h.sweep = some .running ∨ h.sweep = some .confinedThenRunning) ∧
        (h.movesTo x.record x.offset x.firstPass).2.2 = true then false else x.firstPass
      snapshot := if (h.movesTo x.record x.offset x.firstPass).2.2 then [] else x.snapshot } := by
  unfold PiPort.sweepOn
  rw [Header.advance_eq]

/-! ### Data words of a read (R187, R173) -/

section Words
variable {p : PortId} {h : Header} {s : State}

theorem takeRead_outOfRange (hphase : (s.pi.get p).phase = .data) (hh : (s.pi.get p).header = some h) (hread : h.write = false)
    (hout : h.outOfRange = true) : takeRead p s = s.setPort p { s.pi.get p with dataOut := 0xFFFF } := by
  simp [takeRead, hphase, hh, hread, hout]

theorem takeRead_inRange (hphase : (s.pi.get p).phase = .data) (hh : (s.pi.get p).header = some h) (hread : h.write = false)
    (hin : h.outOfRange = false) :
    takeRead p s = s.setPort p (({ s.pi.get p with
      dataOut := wordAt (passSnapshot p h s) (s.pi.get p).offset
      snapshot := passSnapshot p h s } : PiPort).sweepOn h) := by
  simp [takeRead, hphase, hh, hread, hin]

theorem passSnapshot_taken (h : Header) (htaken : (s.pi.get p).snapshot ≠ []) : passSnapshot p h s = (s.pi.get p).snapshot :=
  if_neg (by simpa using htaken)

theorem passSnapshot_first (h : Header) (hfirst : (s.pi.get p).snapshot = []) :
    passSnapshot p h s = passImage p h (s.pi.get p).record s :=
  if_pos (by simp [hfirst])

theorem passImage_control (hc : h.control = true) (r : Nat) :
    passImage p h r s = if r = 0 then identImage (s.pi.get p) else resultImage (s.pi.get p).result :=
  if_pos hc

theorem passImage_journal (hc : h.control = false) (hg : h.group = 14) (r : Nat) :
    passImage p h r s = journalImage s.ej (s.pi.get p).headCursor r := by
  simp [passImage, hc, hg]

theorem passImage_record (hc : h.control = false) (hg : h.group ≠ 14) (r : Nat) : passImage p h r s = visible h.group r s := by
  simp [passImage, hc, hg]

end Words

/-- The sequence asked for is delivered as the entry that has it, where one alone has. -/
theorem journalEntry_of_mem {e : Ej} {x : Entry} {seq : Nat} (hx : x ∈ e.ring) (hseq : x.seq = seq)
    (honly : ∀ y ∈ e.ring, y.seq = seq → y = x) : journalEntry e seq = x := by
  unfold journalEntry
  cases hfound : e.ring.find? (fun y => y.seq = seq) with
  | none => exact absurd hseq (by simpa using List.find?_eq_none.1 hfound x hx)
  | some y => exact honly y (List.mem_of_find?_eq_some hfound) (by simpa using List.find?_some hfound)

theorem journalEntry_of_not_mem {e : Ej} {seq : Nat} (hnone : ∀ x ∈ e.ring, x.seq ≠ seq) :
    journalEntry e seq = emptyEntry seq (if (seq + seqModulus - e.next) % seqModulus < ringSize then .none else .lost) := by
  unfold journalEntry
  rw [List.find?_eq_none.2 fun x hx => by simpa using hnone x hx]
  dsimp only
  split <;> rfl

/-! ### Data words of a write (R189, R190) -/

/-- The check of R190: a port writes its own record of group 15, and the roles of `writers` the other groups. -/
theorem mayWrite_iff {r : Role} {p : PortId} {g n : Nat} :
    mayWrite r p g n = true ↔ (g = 15 ∧ n = portNumber p) ∨ (g ≠ 15 ∧ r ∈ writers g) := by
  by_cases hg : g < 16
  · interval_cases g <;> cases r <;> simp [mayWrite, writers]
  · obtain ⟨k, rfl⟩ : ∃ k, g = k + 16 := ⟨g - 16, by omega⟩
    simp [mayWrite, writers]

/-- The first discarded word of a transaction raises ACCESS_DENIED. -/
theorem discardWord_first {p : PortId} {s : State} (hdenied : (s.pi.get p).denied = false) :
    discardWord p s = (s.raise .accessDenied).setPort p { s.pi.get p with denied := true } :=
  if_pos (by rw [hdenied]; rfl)

/-- A later one of the transaction changes nothing. -/
theorem discardWord_again {p : PortId} {s : State} (hdenied : (s.pi.get p).denied = true) :
    discardWord p s = s.setPort p (s.pi.get p) := by
  have hsame : { s.pi.get p with denied := true } = s.pi.get p := by rw [← hdenied]
  exact (if_neg (by rw [hdenied]; exact nofun)).trans (congrArg (s.setPort p) hsame)

theorem setPort_setPort (s : State) (p : PortId) (x y : PiPort) : (s.setPort p x).setPort p y = s.setPort p y :=
  congrArg s.setPi (Trio.set_set s.pi p x y)

section Words
variable {p : PortId} {h : Header} {s : State} (hphase : (s.pi.get p).phase = .data) (hh : (s.pi.get p).header = some h)
  (hwrite : h.write = true) (hcontrol : h.control = false) (m : MaskedWord)
include hphase hh hwrite hcontrol

theorem takeWrite_outOfRange (hout : h.outOfRange = true) : takeWrite p m s = discardWord p s := by
  simp [takeWrite, wordRefused, hphase, hh, hwrite, hcontrol, hout]

theorem takeWrite_placed (hin : h.outOfRange = false) (hmay : mayWrite (s.pi.get p).role p h.group (s.pi.get p).record = true) :
    takeWrite p m s = s.setPort p (({ s.pi.get p with
      buffer := (s.pi.get p).buffer ++ [⟨(s.pi.get p).record, (s.pi.get p).offset, m⟩] } : PiPort).sweepOn h) := by
  simp [takeWrite, wordRefused, hphase, hh, hwrite, hcontrol, hin, hmay, setPort_setPort]

theorem takeWrite_refused (hin : h.outOfRange = false) (hmay : mayWrite (s.pi.get p).role p h.group (s.pi.get p).record = false) :
    takeWrite p m s = (discardWord p s).setPort p (((discardWord p s).pi.get p).sweepOn h) := by
  simp [takeWrite, wordRefused, hphase, hh, hwrite, hcontrol, hin, hmay]

theorem takeWrite_refused_first (hin : h.outOfRange = false)
    (hmay : mayWrite (s.pi.get p).role p h.group (s.pi.get p).record = false) (hdenied : (s.pi.get p).denied = false) :
    takeWrite p m s = (s.raise .accessDenied).setPort p (({ s.pi.get p with denied := true } : PiPort).sweepOn h) := by
  rw [takeWrite_refused hphase hh hwrite hcontrol m hin hmay, discardWord_first hdenied, setPort_setPort, State.setPort_pi,
    Trio.get_set_self]

theorem takeWrite_refused_again (hin : h.outOfRange = false)
    (hmay : mayWrite (s.pi.get p).role p h.group (s.pi.get p).record = false) (hdenied : (s.pi.get p).denied = true) :
    takeWrite p m s = s.setPort p ((s.pi.get p).sweepOn h) := by
  rw [takeWrite_refused hphase hh hwrite hcontrol m hin hmay, discardWord_again hdenied, setPort_setPort, State.setPort_pi,
    Trio.get_set_self]

end Words

end Sys2Proof.Machine

/-! PROOFS. The end of a transaction and what it stores (TransactionDataWords). -/

namespace Sys2Proof.Machine

/-! ### Select becomes inactive (R185, R189) -/

section Close
variable {p : PortId} {h : Header} {s : State}

theorem completeTransaction_closes
    (hother : ¬((s.pi.get p).phase = .data ∧ ∃ k, (s.pi.get p).header = some k ∧ k.write = true ∧ k.control = false)) :
    completeTransaction p s = s.portClosed p := by
  unfold completeTransaction
  dsimp only
  split
  next k hphase hk =>
    have hnot : ¬(k.write = true ∧ (!k.control) = true) := fun ⟨hwrite, hcontrol⟩ =>
      hother ⟨hphase, k, hk, hwrite, by simpa using hcontrol⟩
    exact if_neg hnot
  · rfl

theorem completeTransaction_stores (hphase : (s.pi.get p).phase = .data) (hh : (s.pi.get p).header = some h)
    (hwrite : h.write = true) (hcontrol : h.control = false) :
    completeTransaction p s = completeWrite p h.group (s.pi.get p).buffer (s.portClosed p) := by
  simp [completeTransaction, hphase, hh, hwrite, hcontrol, State.portClosed, PiPort.close]

theorem portReady_portClosed (hheld : (s.pi.get p).held = false) : PortReady p (s.portClosed p) := by
  simpa [PortReady, State.portClosed] using hheld

end Close

theorem bufferRecord_eq (buf : List BufferWord) (r len : Nat) :
    bufferRecord buf r len = (List.range len).map (bufferedWord buf r) :=
  List.map_congr_left fun _ _ => bufferAt_eq_bufferedWord buf r _

/-- A whole write of what a buffer holds for its record is the write of that record, alone on the board (log entry 3). -/
theorem writeWhole_buffered {i : Instr} {k : WholeWrite} (hi : wholeWriteOf i = some k) {buf : List BufferWord} {s : State}
    (hready : PortReady k.port s) (hrole : k.group = 15 ∨ (s.pi.get k.port).role ∈ writers k.group)
    (hwords : k.words = (List.range (recordLength k.group k.record)).map (bufferedWord buf k.record)) :
    writeWhole k.port k.group k.record k.words s =
      boardChange (writePostings s (applyRecord k.port k.group buf s k.record)) (applyRecord k.port k.group buf s k.record) := by
  obtain ⟨hrecord, hlength, hown⟩ := wholeWrite_record hi
  have hmay : mayWrite (s.pi.get k.port).role k.port k.group k.record = true := mayWrite_iff.2 <| by
    by_cases hg : k.group = 15
    · exact .inl ⟨hg, hown hg⟩
    · exact .inr ⟨hg, hrole.resolve_left hg⟩
  have hsome : k.words ≠ [] := by simp [hwords, hlength.ne']
  rw [writeWhole_ready hready hsome hrecord hmay, hwords, ← bufferRecord_eq]
  exact completeWrite_again hrecord s

/-- A buffer of one record acts as the whole write of it; one of several leaves the record as that write would. -/
theorem completeWrite_wholeWrite {i : Instr} {k : WholeWrite} (hi : wholeWriteOf i = some k) {buf : List BufferWord} {s : State}
    (hready : PortReady k.port s) (hrole : k.group = 15 ∨ (s.pi.get k.port).role ∈ writers k.group)
    (hstatus : k.group = 15 → ∀ b ∈ buf, b.record = k.record)
    (hwords : k.words = (List.range (recordLength k.group k.record)).map (bufferedWord buf k.record)) :
    image k.group k.record (completeWrite k.port k.group buf s) =
        image k.group k.record (writeWhole k.port k.group k.record k.words s) ∧
      ((∀ b ∈ buf, b.record = k.record) →
        completeWrite k.port k.group buf s = writeWhole k.port k.group k.record k.words s) := by
  have hwhole := writeWhole_buffered hi hready hrole hwords
  have hsame : (∀ b ∈ buf, b.record = k.record) →
      completeWrite k.port k.group buf s = writeWhole k.port k.group k.record k.words s := fun hone =>
    (completeWrite_single (wholeWrite_record hi).1 hone s).trans hwhole.symm
  refine ⟨?_, hsame⟩
  by_cases hg : k.group = 15
  · rw [hsame (hstatus hg)]
  · rw [hwhole]
    exact wholeWrite_leftAsAlone hi hg k.port buf s _

/-- A word of a staging record takes the written bytes and keeps the others. -/
theorem staging_bytes {r n : Nat} (hr : r < 2) (hn : n < recordLength 12 r) (p : PortId) (buf : List BufferWord) {s : State}
    (hb : s.cc.baseBins.length = 16) :
    (wordAt (image 12 r (completeWrite p 12 buf s)) n).extractLsb' 8 8 =
        (lastByte true buf r n).getD ((wordAt (image 12 r s) n).extractLsb' 8 8) ∧
      (wordAt (image 12 r (completeWrite p 12 buf s)) n).extractLsb' 0 8 =
        (lastByte false buf r n).getD ((wordAt (image 12 r s) n).extractLsb' 0 8) := by
  have halone : LeftAsAlone p 12 r buf s := by
    obtain rfl | rfl : r = 0 ∨ r = 1 := by omega
    · exact staging_leftAsAlone s
    · exact restore_leftAsAlone s
  rw [halone [], boardChange_nil, image_staging_applyRecord hr p buf hb hn]
  exact bufferAt_over_bytes buf r n _

/-! ### TransactionDataWords -/

/-- Settles O34, row by row: the words of a read, the words of a write, the end of select. -/
theorem transactionDataWords : Obligations.TransactionDataWords := by
  unfold Obligations.TransactionDataWords
  intro dt p m h s u x closed allowed wrapped onward runs move moved asked
  have hsweep : ∀ (t : State) (y : PiPort), y.record = x.record → y.offset = x.offset → y.firstPass = x.firstPass →
      t.setPort p (y.sweepOn h) = t.setPort p (moved y y.snapshot) := fun t y hrecord hoffset hfirst => by
    rw [PiPort.sweepOn_eq, hrecord, hoffset, hfirst]
    rfl
  have hmay : mayWrite x.role p h.group x.record = true ↔ allowed := mayWrite_iff
  have hrefuses : ¬allowed → mayWrite x.role p h.group x.record = false := fun hrefused =>
    Bool.eq_false_iff.2 (hrefused ∘ hmay.1)
  refine ⟨fun hphase hh hread hout => ?_, fun hphase hh hread hin => ?_, fun hphase hh hwrite hcontrol hin =>
      ⟨fun hallowed => ?_, fun hrefused hdenied => ?_, fun hrefused hdenied => ?_⟩,
    fun hphase hh hwrite hcontrol hout => ?_, fun hother => ?_, fun hphase hh hwrite hcontrol => ?_⟩
  · exact congrArg Host.Outcome.next (takeRead_outOfRange (s := u) hphase hh hread hout)
  · refine ⟨passSnapshot p h u, congrArg Host.Outcome.next ?_, passSnapshot_taken h, fun hfirst hc hg => ?_, fun hfirst hc hr => ?_,
      fun hfirst hc hr => ?_, fun hfirst hc hg => ⟨fun e he hseq honly => ?_, fun hnone => ?_⟩⟩
    · exact (takeRead_inRange (s := u) hphase hh hread hin).trans (hsweep u _ rfl rfl rfl)
    · exact (passSnapshot_first h hfirst).trans (passImage_record hc hg _)
    · exact (passSnapshot_first h hfirst).trans ((passImage_control hc _).trans (if_pos hr))
    · exact (passSnapshot_first h hfirst).trans ((passImage_control hc _).trans (if_neg (hr ▸ Nat.one_ne_zero)))
    · rw [passSnapshot_first h hfirst, passImage_journal hc hg]
      exact congrArg journalWords (journalEntry_of_mem he hseq honly)
    · rw [passSnapshot_first h hfirst, passImage_journal hc hg]
      exact congrArg journalWords (journalEntry_of_not_mem hnone)
  · exact congrArg Host.Outcome.next
      ((takeWrite_placed (s := u) hphase hh hwrite hcontrol m hin (hmay.2 hallowed)).trans (hsweep u _ rfl rfl rfl))
  · exact congrArg Host.Outcome.next
      ((takeWrite_refused_again (s := u) hphase hh hwrite hcontrol m hin (hrefuses hrefused) hdenied).trans (hsweep u _ rfl rfl rfl))
  · exact congrArg Host.Outcome.next
      ((takeWrite_refused_first (s := u) hphase hh hwrite hcontrol m hin (hrefuses hrefused) hdenied).trans (hsweep _ _ rfl rfl rfl))
  · refine congrArg Host.Outcome.next ((takeWrite_outOfRange (s := u) hphase hh hwrite hcontrol m hout).trans ?_)
    split
    · exact discardWord_again ‹_›
    · exact discardWord_first (Bool.eq_false_iff.2 ‹_›)
  · exact congrArg Host.Outcome.next (completeTransaction_closes (s := u) hother)
  · refine ⟨completeWrite p h.group x.buffer closed,
      congrArg Host.Outcome.next (completeTransaction_stores (s := u) hphase hh hwrite hcontrol), by simp,
      by simp [onlyTouches_iff, closed, State.portClosed], fun hunwritten => completeWrite_unwritten hunwritten closed,
      fun i k hi hdt hport hgroup hheld hrole hstatus hwords => ?_, fun hgroup hbins r n hr hn => ?_⟩
    · subst hdt hport
      have hready : PortReady k.port closed := portReady_portClosed (s := u) hheld
      have hcloses : closed.pi.get k.port = x.close := Trio.get_set_self _ _ _
      rw [← hgroup]
      exact ⟨writeWhole k.port k.group k.record k.words closed, exec_wholeWrite hi (s.portClosed k.port),
        completeWrite_wholeWrite hi hready (hcloses ▸ hrole) hstatus hwords⟩
    · rw [hgroup]
      exact staging_bytes hr hn p x.buffer (s := closed) hbins

end Sys2Proof.Machine
